-- ==== Sys2Proof/Word.lean ====
section
/-! DEFINITION. The words of the DX-48's links: bytes, the 48-bit dish set (R211) and the one-byte small sets (R211). -/

namespace Sys2Proof

/-- One byte of either link. -/
abbrev Byte := BitVec 8

/-- A dish set as the wire carries it (R211): dish `d` is a member when bit `d - 1` is 1. -/
abbrev DishSet := BitVec 48

/-- A one-byte small set (R211), one bit per value in the order of its defining table. -/
abbrev Mask := BitVec 8

end Sys2Proof
end

