-- ==== Sys2Proof/Config.lean ====
section
/-! DEFINITION. Constants that the manual leaves to the part: they have no body, so nothing can be proved of their values. -/

namespace Sys2Proof.Config

/-- The part code that IDENTIFY returns (R200); the manual gives no value. Free value, log entry 3. -/
opaque partCode : Nat

/-- The hardware revision number that IDENTIFY returns (R200); the manual gives no value. Free value, log entry 3. -/
opaque hardwareRevision : Nat

/-- The link protocol version that IDENTIFY returns (R200); the manual gives no value. Free value, log entry 3. -/
opaque protocolVersion : Nat

/-- The kind byte under which an UNKNOWN_KIND reply leaves when the received kind is no request: Frame Layouts numbers only the
replies 0x81 to 0xAC. Free value, log entry 26. -/
opaque unknownKindReply : BitVec 8 → BitVec 8

end Sys2Proof.Config
end

