-- ==== Sys2Proof/Syntax.lean ====
section
/-! DEFINITION. The commands of the DX-48: one constructor of `Instr` per row of spec/opcode_table.json, with the operands
that the rule of the row gives it. A request row carries the tag and the fields of the request as received (R193: the queue
keeps each request as it arrived), so numbers are kept raw and the owning block checks them. -/

namespace Sys2Proof

/-- What a store write that PWR_OK cut short has left in its slot or in the settings area (R206). -/
inductive WriteRemains where
  | previous
  | damaged
  | complete
  deriving DecidableEq, Repr

/-- The result that the store reports for a write or a clear, and what a failed one leaves (R171, R205). -/
inductive StoreResult where
  | success
  | failedKept
  | failedDamaged
  deriving DecidableEq, Repr

/-- Why the Observatory receiver drops a frame, other than by a gap (R192). -/
inductive DropCause where
  | badLength
  | framingError
  | badCrc
  deriving DecidableEq, Repr

/-- One received Pedestal character: its mark bit and its eight data bits (R29). -/
structure PlChar where
  mark : Bool
  byte : Byte
  deriving DecidableEq, Repr

/-- The twelve optional profile fields of DISH_SET_PROFILE, in the order of Table 3 (R1). -/
structure ProfileEdit where
  bSlew : Option Nat := none
  bHome : Option Nat := none
  c : Option Nat := none
  dmax : Option Nat := none
  h : Option Nat := none
  vmaxAz : Option Nat := none
  vmaxEl : Option Nat := none
  aAz : Option Nat := none
  aEl : Option Nat := none
  shedEl : Option Int := none
  shedEnable : Option Bool := none
  heatEnable : Option Bool := none
  deriving DecidableEq, Repr

/-- The four optional array-wide supervision settings of DISH_SET_PROFILE (R2, Table 4). -/
structure SupervisionEdit where
  nSettle : Option Nat := none
  nMiss : Option Nat := none
  homeTimeout : Option Nat := none
  replyWindow : Option Nat := none
  deriving DecidableEq, Repr

/-- Target, optional rates and optional deadline of SLEW and JOINT_SLEW (Frame Layouts, Slew requests). -/
structure SlewArgs where
  az : Int
  el : Int
  rateAz : Option Nat := none
  rateEl : Option Nat := none
  deadline : Option Nat := none
  deriving DecidableEq, Repr

/-- What a JOINT_SLEW names: a group number or an explicit dish set (R97). -/
inductive Selector where
  | group (n : Nat)
  | dishes (ds : DishSet)
  deriving DecidableEq, Repr

/-- The optional fields of ZONE_SET (R68); the stow azimuth field carries a value or the choice "absent". -/
structure ZoneEdit where
  primary : Option Nat := none
  fallback : Option Nat := none
  stowEl : Option Int := none
  stowAz : Option (Option Int) := none
  deriving DecidableEq, Repr

/-- One threshold row (Table 23): speeds in dm/s, the release hold in seconds. -/
structure Row where
  w : Nat
  s1 : Nat
  g1 : Nat
  s0 : Nat
  g0 : Nat
  th : Nat
  deriving DecidableEq, Repr

/-- The six optional settings of HEAT_POLICY_SET (Table 39). -/
structure PolicyEdit where
  bandHigh : Option Int := none
  bandLow : Option Int := none
  guardOn : Option Int := none
  guardOff : Option Int := none
  minMelt : Option Nat := none
  sensorHold : Option Nat := none
  deriving DecidableEq, Repr

/-- The seven optional class enables of NOTICE_ENABLE, in the order of Table 63 (R199). -/
structure EnableEdit where
  zone : Option Bool := none
  lockout : Option Bool := none
  dishChange : Option Bool := none
  slewDone : Option Bool := none
  budget : Option Bool := none
  counter : Option Bool := none
  system : Option Bool := none
  deriving DecidableEq, Repr

/-- The fields of LOCK_PLACE (R167); `kind` is the enumeration byte of Table 45 (0 ESTOP, 1 MAINTENANCE, 2 ADMIN). -/
structure PlaceArgs where
  kind : Nat
  holder : Option Nat
  scope : DishSet
  motion : Bool
  heat : Bool
  note : Option (List Byte)
  stamp : Option Nat
  deriving DecidableEq, Repr

/-- The fields of COUNTER_SET after the counter number (R183), with their enumeration bytes raw. -/
structure CounterArgs where
  cls : Option Nat
  quals : Option Mask
  mode : Nat
  threshold : Option Nat
  deriving DecidableEq, Repr

/-- One command of the DX-48, one constructor per row of spec/opcode_table.json. A request constructor is the event "OLI takes
this request from the front of its inbound queue and hands it to its owner" (R195). -/
inductive Instr where
  | powerUp (estopAsserted : Bool)
  | powerFail (remains : WriteRemains)
  | olFrameArrival (kind tag : Byte) (body : List Byte) (crc : BitVec 16)
  | olFrameDrop (cause : DropCause)
  | olRxGapTimeout
  | olFrameSent
  | identify (tag : Nat)
  | linkStatus (tag : Nat)
  | noticeEnable (tag : Nat) (edit : EnableEdit)
  | dishStatus (tag : Nat) (dishes : DishSet)
  | dishStop (tag : Nat) (dishes : DishSet)
  | dishRehome (tag : Nat) (dish : Nat)
  | dishAckChanges (tag : Nat) (dishes : DishSet) (flags : Mask)
  | dishSetProfile (tag : Nat) (dishes : DishSet) (profile : ProfileEdit) (supervision : SupervisionEdit)
  | dishAssign (tag : Nat) (dishes : DishSet) (feeder : Option Nat) (zone : Option Nat)
  | slew (tag : Nat) (dish : Nat) (args : SlewArgs)
  | jointSlew (tag : Nat) (selector : Selector) (mode : Nat) (args : SlewArgs)
  | slewCancel (tag : Nat) (id : Nat) (dishes : Option DishSet)
  | slewStatus (tag : Nat) (id : Nat)
  | queueStatus (tag : Nat)
  | groupSet (tag : Nat) (group : Nat) (dishes : DishSet)
  | groupRead (tag : Nat) (groups : BitVec 16)
  | feederSet (tag : Nat) (feeder : Nat) (limit reserve heatCap : Option Nat)
  | feederStatus (tag : Nat) (feeders : Mask)
  | mastSet (tag : Nat) (mast : Nat) (gain offset : Option Nat)
  | mastStatus (tag : Nat) (masts : Mask) (window : Bool)
  | zoneSet (tag : Nat) (zone : Nat) (edit : ZoneEdit)
  | zoneStatus (tag : Nat) (zones : Mask)
  | bankWriteRow (tag : Nat) (bank zone : Nat) (row : Row)
  | bankRead (tag : Nat) (bank : Nat)
  | bankSelect (tag : Nat) (bank : Nat)
  | zoneStow (tag : Nat) (zone : Nat)
  | zoneRelease (tag : Nat) (zone : Nat)
  | heatPolicySet (tag : Nat) (edit : PolicyEdit)
  | heatEnable (tag : Nat) (dishes : DishSet) (heat shed : Option Bool)
  | heatStatus (tag : Nat) (dishes : DishSet) (feeders : Mask)
  | lockPlace (tag : Nat) (args : PlaceArgs)
  | lockAmend (tag : Nat) (index : Nat) (holder : Option Nat) (dishes : DishSet)
  | lockRelease (tag : Nat) (index : Nat) (holder stamp : Option Nat)
  | lockRetire (tag : Nat) (index : Nat)
  | lockFind (tag : Nat) (dishes : Option DishSet) (kinds states : Option Mask)
  | lockRead (tag : Nat) (indices : BitVec 64)
  | estopClear (tag : Nat)
  | counterSet (tag : Nat) (counter : Nat) (args : CounterArgs)
  | counterRead (tag : Nat) (counters : Mask)
  | counterClear (tag : Nat) (counters : Mask)
  | timingArm (tag : Nat) (classes : Mask)
  | timingRead (tag : Nat)
  | settingsSave (tag : Nat)
  | restart (tag : Nat)
  | storeWriteStart
  | lockStoreComplete (result : StoreResult)
  | settingsSaveComplete (result : StoreResult)
  | restartStopTimerExpiry
  | quietTimerExpiry
  | estopAssert
  | estopDeassert
  | plTransactionStart
  | plReplyReceived (chars : List PlChar)
  | plReplyWindowExpiry
  | plReplyGap (chars : List PlChar)
  | plBroadcastEnd
  | slewTimerExpiry (dish : Nat)
  | homeTimerExpiry (dish : Nat)
  | stopTimerExpiry (dish : Nat)
  | mastReportFrame (mast : Nat) (bytes : List Byte) (framingError : Bool)
  | mastFrameGapTimeout (mast : Nat)
  | slotTimerExpiry (mast : Nat)
  | releaseTimerExpiry (zone : Nat)
  | admissionPass
  | sensorHoldExpiry (dish : Nat)
  | deadlineExpiry (id : Nat)
  | oneSecondTick
  deriving DecidableEq, Repr

end Sys2Proof
end

