-- ==== Sys2Proof/WellFormed.lean ====
section
/-! DEFINITION. When a command is well formed: its operands are values that a frame, a line or a record number can carry (R192, R193,
R211, Table 2). A value inside the field's width and outside the field's stated range is well formed: the owning block refuses or
clamps it. -/

namespace Sys2Proof

/-- A value of an unsigned field of `bits` bits. -/
def fits (bits x : Nat) : Bool := x < 2 ^ bits

/-- An optional value of an unsigned field. -/
def fitsOpt (bits : Nat) (x : Option Nat) : Bool :=
  match x with
  | none => true
  | some v => fits bits v

/-- A value of a signed field of `bits` bits, two's complement. -/
def fitsInt (bits : Nat) (x : Int) : Bool := -(2 ^ (bits - 1)) ≤ x && x < 2 ^ (bits - 1)

def fitsIntOpt (bits : Nat) (x : Option Int) : Bool :=
  match x with
  | none => true
  | some v => fitsInt bits v

/-- A request tag, 1..255 (Table 2, R193). -/
def tagOk (t : Nat) : Bool := 1 ≤ t && t ≤ 255

/-- A record number of a table counted from 1. -/
def oneTo (n x : Nat) : Bool := 1 ≤ x && x ≤ n

/-- An angle takes four bytes, signed (R211). -/
def SlewArgs.wf (a : SlewArgs) : Bool :=
  fitsInt 32 a.az && fitsInt 32 a.el && fitsOpt 16 a.rateAz && fitsOpt 16 a.rateEl && fitsOpt 16 a.deadline

def Selector.wf : Selector → Bool
  | .group n => fits 8 n
  | .dishes _ => true

def ProfileEdit.wf (e : ProfileEdit) : Bool :=
  fitsOpt 16 e.bSlew && fitsOpt 16 e.bHome && fitsOpt 8 e.c && fitsOpt 16 e.dmax && fitsOpt 16 e.h && fitsOpt 16 e.vmaxAz
    && fitsOpt 16 e.vmaxEl && fitsOpt 16 e.aAz && fitsOpt 16 e.aEl && fitsIntOpt 32 e.shedEl

def SupervisionEdit.wf (e : SupervisionEdit) : Bool :=
  fitsOpt 8 e.nSettle && fitsOpt 8 e.nMiss && fitsOpt 16 e.homeTimeout && fitsOpt 8 e.replyWindow

def ZoneEdit.wf (e : ZoneEdit) : Bool :=
  fitsOpt 8 e.primary && fitsOpt 8 e.fallback && fitsIntOpt 32 e.stowEl
    && (match e.stowAz with | some x => fitsIntOpt 32 x | none => true)

def Row.wf (r : Row) : Bool := fits 16 r.w && fits 16 r.s1 && fits 16 r.g1 && fits 16 r.s0 && fits 16 r.g0 && fits 16 r.th

def PolicyEdit.wf (e : PolicyEdit) : Bool :=
  fitsIntOpt 16 e.bandHigh && fitsIntOpt 16 e.bandLow && fitsIntOpt 16 e.guardOn && fitsIntOpt 16 e.guardOff && fitsOpt 16 e.minMelt
    && fitsOpt 16 e.sensorHold

/-- The length byte of a note counts its characters (R211); a note above 32 is well formed and the owner refuses it (R167). -/
def PlaceArgs.wf (a : PlaceArgs) : Bool :=
  fits 8 a.kind && fitsOpt 16 a.holder && fitsOpt 32 a.stamp && (match a.note with | some n => n.length ≤ 255 | none => true)

def CounterArgs.wf (a : CounterArgs) : Bool := fitsOpt 8 a.cls && fits 8 a.mode && fitsOpt 32 a.threshold

/-- The operands of a command lie within what their carriers can hold. -/
def Instr.wf : Instr → Bool
  | .powerUp _ => true
  | .powerFail _ => true
  | .olFrameArrival _ _ body _ => body.length ≤ 1024
  | .olFrameDrop _ => true
  | .olRxGapTimeout => true
  | .olFrameSent => true
  | .identify tag => tagOk tag
  | .linkStatus tag => tagOk tag
  | .noticeEnable tag _ => tagOk tag
  | .dishStatus tag _ => tagOk tag
  | .dishStop tag _ => tagOk tag
  | .dishRehome tag d => tagOk tag && fits 8 d
  | .dishAckChanges tag _ _ => tagOk tag
  | .dishSetProfile tag _ p v => tagOk tag && p.wf && v.wf
  | .dishAssign tag _ f z => tagOk tag && fitsOpt 8 f && fitsOpt 8 z
  | .slew tag d a => tagOk tag && fits 8 d && a.wf
  | .jointSlew tag sel m a => tagOk tag && sel.wf && fits 8 m && a.wf
  | .slewCancel tag id _ => tagOk tag && fits 8 id
  | .slewStatus tag id => tagOk tag && fits 8 id
  | .queueStatus tag => tagOk tag
  | .groupSet tag n _ => tagOk tag && fits 8 n
  | .groupRead tag _ => tagOk tag
  | .feederSet tag f l r h => tagOk tag && fits 8 f && fitsOpt 32 l && fitsOpt 32 r && fitsOpt 32 h
  | .feederStatus tag _ => tagOk tag
  | .mastSet tag m g o => tagOk tag && fits 8 m && fitsOpt 16 g && fitsOpt 8 o
  | .mastStatus tag _ _ => tagOk tag
  | .zoneSet tag z e => tagOk tag && fits 8 z && e.wf
  | .zoneStatus tag _ => tagOk tag
  | .bankWriteRow tag b z r => tagOk tag && fits 8 b && fits 8 z && r.wf
  | .bankRead tag b => tagOk tag && fits 8 b
  | .bankSelect tag b => tagOk tag && fits 8 b
  | .zoneStow tag z => tagOk tag && fits 8 z
  | .zoneRelease tag z => tagOk tag && fits 8 z
  | .heatPolicySet tag e => tagOk tag && e.wf
  | .heatEnable tag _ _ _ => tagOk tag
  | .heatStatus tag _ _ => tagOk tag
  | .lockPlace tag a => tagOk tag && a.wf
  | .lockAmend tag i h _ => tagOk tag && fits 8 i && fitsOpt 16 h
  | .lockRelease tag i h st => tagOk tag && fits 8 i && fitsOpt 16 h && fitsOpt 32 st
  | .lockRetire tag i => tagOk tag && fits 8 i
  | .lockFind tag _ _ _ => tagOk tag
  | .lockRead tag _ => tagOk tag
  | .estopClear tag => tagOk tag
  | .counterSet tag n a => tagOk tag && fits 8 n && a.wf
  | .counterRead tag _ => tagOk tag
  | .counterClear tag _ => tagOk tag
  | .timingArm tag _ => tagOk tag
  | .timingRead tag => tagOk tag
  | .settingsSave tag => tagOk tag
  | .restart tag => tagOk tag
  | .storeWriteStart => true
  | .lockStoreComplete _ => true
  | .settingsSaveComplete _ => true
  | .restartStopTimerExpiry => true
  | .quietTimerExpiry => true
  | .estopAssert => true
  | .estopDeassert => true
  | .plTransactionStart => true
  | .plReplyReceived chars => chars.length == 21
  | .plReplyWindowExpiry => true
  | .plReplyGap chars => 1 ≤ chars.length && chars.length ≤ 20
  | .plBroadcastEnd => true
  | .slewTimerExpiry d => oneTo 48 d
  | .homeTimerExpiry d => oneTo 48 d
  | .stopTimerExpiry d => oneTo 48 d
  | .mastReportFrame m bytes framingError =>
    oneTo 4 m && bytes.head? == some 0xA5#8 && (if framingError then bytes.length ≤ 7 else bytes.length == 7)
  | .mastFrameGapTimeout m => oneTo 4 m
  | .slotTimerExpiry m => oneTo 4 m
  | .releaseTimerExpiry z => oneTo 8 z
  | .admissionPass => true
  | .sensorHoldExpiry d => oneTo 48 d
  | .deadlineExpiry id => oneTo 255 id
  | .oneSecondTick => true

end Sys2Proof
end

