-- ==== Sys2Proof/Decode.lean ====
section
/-! DEFINITION. The command that a word of the opcode table spells. No row of spec/opcode_table.json gives bits: the block takes
events and framed requests, and no word encodes a command. The reading of a request body from its frame is
Machine/Operands.lean. -/

namespace Sys2Proof

/-- The command spelled by a word: none, since no row of the table gives bits. -/
def decodeTableWord (_nbits _w : Nat) : Option Instr := none

end Sys2Proof
end

