-- ==== Sys2Proof/Machine/Records.lean ====
section
/-! DEFINITION. The record types of the eleven blocks (Block overview of 00_scope.md), each as the chapter that owns it gives it. -/

namespace Sys2Proof.Machine

/-- Feeders A..D (Table 2). -/
inductive Feeder where
  | a | b | c | d
  deriving DecidableEq, Repr

/-- One value for each of the four feeders. -/
structure PerFeeder (α : Type) where
  a : α
  b : α
  c : α
  d : α
  deriving DecidableEq, Repr

/-! ## Dish Drive Supervision -/

/-- The dish states of Table 6, in its order. -/
inductive DishState where
  | absent | settling | unreferenced | homing | ready | slewing | stopping | handset | faulted
  deriving DecidableEq, Repr

/-- Owner of a drive: REMOTE, or LOCAL (`handset`). -/
inductive Owner where
  | remote | handset
  deriving DecidableEq, Repr

/-- Key position: NONE (`clear`), DRIVE_OFF, ALL_OFF. -/
inductive Key where
  | clear | driveOff | allOff
  deriving DecidableEq, Repr

/-- Surface state of a reflector. -/
inductive Surface where
  | dry | wet | ice | sensorFail
  deriving DecidableEq, Repr

/-- Supervisor fault of Table 5: `clear` is NONE. -/
inductive SupFault where
  | clear | slewTimeout | homeTimeout | stopTimeout | driveRefused
  deriving DecidableEq, Repr

/-- Auto tasks (Table 5). -/
inductive Task where
  | home | stow | shed
  deriving DecidableEq, Repr

/-- Claim classes (Table 35), in the qualifier order of Table 53. -/
inductive ClaimClass where
  | stow | home | observe | shed
  deriving DecidableEq, Repr

inductive Standing where
  | waiting | admitted
  deriving DecidableEq, Repr

/-- What an open motion claim refers to (Table 5, R4). -/
inductive ClaimRef where
  | host (id : Nat)
  | wave (zone : Nat)
  | task
  deriving DecidableEq, Repr

/-- The open motion claim of a dish (Table 5) with FBU's budget-waiting mark (R135). -/
structure OpenClaim where
  ref : ClaimRef
  standing : Standing := .waiting
  running : Bool := false
  budgetWaiting : Bool := false
  deriving DecidableEq, Repr

inductive TimerKind where
  | slew | home | stop
  deriving DecidableEq, Repr

/-- A supervision timer; `due` is the moment in ms at which it expires. -/
structure DishTimer where
  kind : TimerKind
  due : Nat
  deriving DecidableEq, Repr

/-- The change flags of Table 8, bits 0..4 of a flags byte in this order. -/
structure ChangeFlags where
  presence : Bool := false
  owner : Bool := false
  fault : Bool := false
  key : Bool := false
  surface : Bool := false
  deriving DecidableEq, Repr

/-- Dish profile (Table 3). Powers in W, rates in mdeg/s, accelerations in mdeg/s², angle in mdeg. -/
structure Profile where
  bSlew : Nat := 4000
  bHome : Nat := 2500
  c : Nat := 20
  dmax : Nat := 12000
  h : Nat := 2500
  vmaxAz : Nat := 2000
  vmaxEl : Nat := 1000
  aAz : Nat := 500
  aEl : Nat := 300
  shedEl : Int := 20000
  shedEnable : Bool := true
  heatEnable : Bool := true
  deriving DecidableEq, Repr

/-- The last status record (Table 5): the content of the newest valid STATUS reply. -/
structure Status where
  az : Int
  el : Int
  moving : Bool
  inPosition : Bool
  echo : Nat
  referenced : Bool
  owner : Owner
  key : Key
  fault : Nat
  temp : Int
  surface : Surface
  applied : Nat
  deriving DecidableEq, Repr

/-- One dish record: profile, assignment, last status and runtime fields (Tables 3 and 5). -/
structure Dish where
  profile : Profile := {}
  feeder : Feeder
  zone : Nat
  state : DishState := .absent
  last : Option Status := none
  good : Nat := 0
  miss : Nat := 0
  lastGood : Option Nat := none
  flags : ChangeFlags := {}
  supFault : SupFault := .clear
  reservation : Option Nat := none
  claim : Option OpenClaim := none
  slewTimeout : Option Nat := none
  acceptedSeq : Option Nat := none
  task : Option Task := none
  timer : Option DishTimer := none
  deriving DecidableEq, Repr

structure Dsv where
  dishes : List Dish
  nSettle : Nat := 10
  nMiss : Nat := 4
  homeTimeout : Nat := 240
  deriving DecidableEq, Repr

/-! ## The Pedestal Link -/

/-- A motion command (Table 12): MOVE with its fixed contents, or HOME. -/
inductive MoveCmd where
  | move (az el : Int) (rateAz rateEl accAz accEl : Nat)
  | home
  deriving DecidableEq, Repr

/-- A pending MOVE or HOME; `age` is the moment (event number) at which it became pending. -/
structure MovePending where
  cmd : MoveCmd
  attempts : Nat
  age : Nat
  deriving DecidableEq, Repr

/-- A MOVE or HOME in flight, perhaps withdrawn (R37). -/
structure MoveFlight where
  cmd : MoveCmd
  attempts : Nat
  withdrawn : Bool
  deriving DecidableEq, Repr

structure StopPending where
  age : Nat
  retry : Bool
  deriving DecidableEq, Repr

structure HeatPending where
  stage : Nat
  age : Nat
  retry : Bool
  deriving DecidableEq, Repr

structure HeatFlight where
  stage : Nat
  withdrawn : Bool
  deriving DecidableEq, Repr

/-- What PBC keeps for one dish: the three command slots (Table 12), the move sequence (R43) and the polled mark (R40).
`stopFlight` is `some removed` while a STOP is in flight. -/
structure Slots where
  movePending : Option MovePending := none
  moveFlight : Option MoveFlight := none
  stopPending : Option StopPending := none
  stopFlight : Option Bool := none
  heatPending : Option HeatPending := none
  heatFlight : Option HeatFlight := none
  seq : Nat := 0
  polled : Bool := false
  deriving DecidableEq, Repr

/-- The frame of a transaction (Table 10). -/
inductive TxKind where
  | poll
  | move (seq : Nat)
  | home
  | stop
  | heat (stage : Nat)
  | allStop
  | heatAllOff
  deriving DecidableEq, Repr

/-- The transaction in flight: its frame kind, station (1..48, or 127), the moments in ms at which its frame or burst ends and at which
the reply window in force when it began closes (R31, log entry 4), and the characters of its frame or burst (R30, R44). -/
structure Transaction where
  kind : TxKind
  station : Nat
  frameEnd : Nat
  windowDue : Nat
  frame : List PlChar
  deriving DecidableEq, Repr

/-- The six link totals of Table 14. -/
structure LinkTotals where
  transactions : Nat := 0
  noReply : Nat := 0
  check : Nat := 0
  stray : Nat := 0
  retries : Nat := 0
  exhaustions : Nat := 0
  deriving DecidableEq, Repr

/-- The PBC records (Table 15). `heatOff` holds from NVS's HEAT_ALL_OFF order until the reset (R36). The level of PL_DE is
`State.plDe`. -/
structure Pbc where
  slots : List Slots
  allStop : Bool := false
  heatAllOff : Bool := false
  heatOff : Bool := false
  commandCount : Nat := 0
  pollPtr : Nat := 1
  absentPtr : Nat := 1
  candidate : Option Nat := none
  totals : LinkTotals := {}
  replyWindow : Nat := 4
  flight : Option Transaction := none
  deriving DecidableEq, Repr

/-! ## Wind Measurement -/

inductive MastState where
  | warming | live | stale
  deriving DecidableEq, Repr

inductive MastReport where
  | ok | iced | fault
  deriving DecidableEq, Repr

/-- One mast record (Table 16). Gust and sustained speed are functions of `window` (R56, R57) and are computed from it. -/
structure Mast where
  state : MastState := .warming
  gain : Nat := 256
  offset : Nat := 0
  lastSeq : Option Nat := none
  lastReport : Option MastReport := none
  lastTime : Option Nat := none
  slotDue : Nat := 1500
  window : List Nat := []
  validRun : Nat := 0
  missedRun : Nat := 0
  peak : Option Nat := none
  valid : Nat := 0
  missed : Nat := 0
  duplicates : Nat := 0
  rejected : Nat := 0
  deriving DecidableEq, Repr

structure Wmn where
  masts : List Mast
  deriving DecidableEq, Repr

/-! ## Host Slews and Joint Slews -/

/-- Reasons of EXCUSED (Tables 22 and 29). -/
inductive Excuse where
  | state (st : DishState)
  | locked | zoneStowed | busy
  deriving DecidableEq, Repr

/-- Reasons of ABORTED, in the order of Tables 22 and 29; RESTART only on wave members. -/
inductive Abort where
  | lockout | estop | handset | absent | fault | link | driveRefused | timeout | restart
  deriving DecidableEq, Repr

/-- Host member states (Table 29). -/
inductive MemberState where
  | waiting | admitted | done
  | excused (why : Excuse)
  | preemptedStow
  | aborted (why : Abort)
  | stoppedByHost | cancelled | expired
  deriving DecidableEq, Repr

/-- One host member (Table 28). -/
structure HostMember where
  dish : Nat
  state : MemberState
  ice : Bool := false
  running : Bool := false
  demand : Option Nat := none
  estimate : Option Nat := none
  deriving DecidableEq, Repr

inductive SlewMode where
  | single | gang | wave
  deriving DecidableEq, Repr

/-- One host slew record (Table 27); its class is OBSERVE. Times in ms. -/
structure SlewRecord where
  id : Nat
  complete : Bool
  mode : SlewMode
  selector : Selector
  targetAz : Int
  targetEl : Int
  rateAz : Option Nat
  rateEl : Option Nat
  deadline : Option Nat
  deadlineDue : Option Nat
  accepted : Nat
  completed : Option Nat
  members : List HostMember
  deriving DecidableEq, Repr

structure Sls where
  table : List SlewRecord := []
  lastId : Nat := 0
  groups : List DishSet
  deriving DecidableEq, Repr

/-! ## Wind Zones and Stowing -/

inductive ZoneState where
  | calm | watch | stowing | stowed
  deriving DecidableEq, Repr

/-- The cause set of a zone, bits 0..2 in this order. -/
structure Causes where
  wind : Bool := false
  noSource : Bool := false
  manual : Bool := false
  deriving DecidableEq, Repr

/-- Wave member states (Table 22). -/
inductive WaveState where
  | waiting | preemptWait | admitted | done
  | excused (why : Excuse)
  | aborted (why : Abort)
  | stoppedByHost
  deriving DecidableEq, Repr

structure WaveMember where
  dish : Nat
  state : WaveState
  deriving DecidableEq, Repr

/-- An open stow wave: creation time in ms, the moment (event number) that orders waves (R120), and the member list. -/
structure Wave where
  created : Nat
  moment : Nat
  members : List WaveMember
  deriving DecidableEq, Repr

/-- One zone record (Table 21). -/
structure Zone where
  primary : Nat
  fallback : Nat
  stowEl : Int := 90000
  stowAz : Option Int := none
  source : Option Nat := none
  state : ZoneState := .calm
  causes : Causes := {}
  releaseDue : Option Nat := none
  wave : Option Wave := none
  lastOutcome : Option (List WaveMember) := none
  deriving DecidableEq, Repr

inductive Bank where
  | a | b
  deriving DecidableEq, Repr

structure Znc where
  zones : List Zone
  bankA : List Row
  bankB : List Row
  active : Bank := .a
  deriving DecidableEq, Repr

/-! ## Slew Arithmetic and the Feeder Budget -/

/-- Budget-waiting claims of a feeder by class (Table 37). -/
structure WaitCounts where
  stow : Nat := 0
  home : Nat := 0
  observe : Nat := 0
  shed : Nat := 0
  deriving DecidableEq, Repr

/-- One feeder record (Table 37). Committed is slew committed plus heat committed and is computed. -/
structure FeederRec where
  limit : Nat := 120000
  reserve : Nat := 24000
  heatCap : Nat := 40000
  ceiling : Nat := 120000
  slewCommitted : Nat := 0
  heatCommitted : Nat := 0
  allowance : Nat := 40000
  shedDemand : Option Nat := none
  waits : WaitCounts := {}
  deriving DecidableEq, Repr

structure Fbu where
  feeders : PerFeeder FeederRec
  passDue : Bool := false
  deriving DecidableEq, Repr

/-! ## Snow Melting and Shedding -/

inductive HeaterState where
  | off | guard | melt | blocked | disabled
  deriving DecidableEq, Repr

/-- The sensor hold of Table 40: `running` carries the moment in ms at which it expires. -/
inductive SensorHold where
  | absent
  | running (due : Nat)
  | expired
  deriving DecidableEq, Repr

/-- Last shed outcome (Table 42). -/
inductive ShedOutcome where
  | shedDisabled | notNeeded | skippedClaim | skippedStowed | skippedNotReady | skippedLocked | created
  deriving DecidableEq, Repr

/-- One heater record (Table 40). -/
structure Heater where
  state : HeaterState := .off
  requested : Nat := 0
  granted : Nat := 0
  counted : Nat := 0
  meltEntry : Option Nat := none
  hold : SensorHold := .absent
  prioTemp : Option Int := none
  lastShed : Option ShedOutcome := none
  melts : Nat := 0
  shedsCreated : Nat := 0
  shedsSkipped : Nat := 0
  shedsDone : Nat := 0
  deriving DecidableEq, Repr

/-- Heater policy (Table 39). -/
structure Policy where
  bandHigh : Int := -20
  bandLow : Int := -80
  guardOn : Int := 10
  guardOff : Int := 30
  minMelt : Nat := 120
  sensorHold : Nat := 300
  deriving DecidableEq, Repr

/-- MLC's records. The allowance and the shed demand of the allocation records are the feeder records' own. -/
structure Mlc where
  heaters : List Heater
  policy : Policy := {}
  deriving DecidableEq, Repr

/-! ## Lockouts -/

inductive EntryState where
  | empty | active | releasing | spent
  deriving DecidableEq, Repr

inductive LockKind where
  | estop | maintenance | admin
  deriving DecidableEq, Repr

/-- One lockout entry (Table 45); its store operation is the one of `Lkt.queue` that carries its index. -/
structure Entry where
  state : EntryState := .empty
  kind : Option LockKind := none
  holder : Option Nat := none
  scope : DishSet := 0
  motion : Bool := false
  heat : Bool := false
  note : Option (List Byte) := none
  stamp : Option Nat := none
  persisted : Bool := false
  releaseStamp : Option Nat := none
  deriving DecidableEq, Repr

inductive OpKind where
  | write | clear
  deriving DecidableEq, Repr

/-- A reply owed: the request kind and the tag. -/
structure Owed where
  kind : Nat
  tag : Nat
  deriving DecidableEq, Repr

/-- A store operation (Table 48). -/
structure StoreOp where
  index : Nat
  kind : OpKind
  owed : Option Owed
  running : Bool := false
  deriving DecidableEq, Repr

/-- The lockout table: 64 entries by index, the store-operation queue, the write-back list (R179) and the line level. -/
structure Lkt where
  entries : List Entry
  queue : List StoreOp := []
  writeBacks : List Nat := []
  estopLevel : Bool := false
  deriving DecidableEq, Repr

/-! ## Stored Settings and Restart -/

/-- What a lockout slot stores of an entry (R171). A stored ESTOP kind fails the slot check (R178). -/
structure StoredEntry where
  kind : LockKind
  holder : Option Nat
  scope : DishSet
  motion : Bool
  heat : Bool
  note : Option (List Byte)
  stamp : Option Nat
  deriving DecidableEq, Repr

/-- The contents of one lockout slot: the empty record, a record with its stored CRC (R178, R212), or contents that are neither. -/
inductive Slot where
  | empty
  | record (e : StoredEntry) (crc : BitVec 16)
  | damaged
  deriving DecidableEq, Repr

structure ZoneSettings where
  primary : Nat
  fallback : Nat
  stowEl : Int
  stowAz : Option Int
  deriving DecidableEq, Repr

/-- The class enables, in the order of Table 63. -/
structure Enables where
  zone : Bool := true
  lockout : Bool := true
  dishChange : Bool := true
  slewDone : Bool := true
  budget : Bool := true
  counter : Bool := true
  system : Bool := true
  deriving DecidableEq, Repr

structure DishSettings where
  profile : Profile
  feeder : Feeder
  zone : Nat
  deriving DecidableEq, Repr

structure FeederSettings where
  limit : Nat
  reserve : Nat
  heatCap : Nat
  deriving DecidableEq, Repr

structure MastSettings where
  gain : Nat
  offset : Nat
  deriving DecidableEq, Repr

/-- The contents of the settings image (Table 61). -/
structure Settings where
  dishes : List DishSettings
  nSettle : Nat
  nMiss : Nat
  homeTimeout : Nat
  replyWindow : Nat
  masts : List MastSettings
  zones : List ZoneSettings
  bankA : List Row
  bankB : List Row
  active : Bank
  groups : List DishSet
  feeders : PerFeeder FeederSettings
  policy : Policy
  enables : Enables
  deriving DecidableEq, Repr

/-- The settings area: an image with its stored CRC (R203, R212), or contents that are no image. -/
inductive SettingsArea where
  | image (st : Settings) (crc : BitVec 16)
  | damaged
  deriving DecidableEq, Repr

/-- What the store is writing (Table 60), with what it was given at the start. -/
inductive WritePath where
  | free
  | lockout (index : Nat) (contents : Slot)
  | save (st : Settings) (crc : BitVec 16)
  deriving DecidableEq, Repr

inductive SaveStanding where
  | idle | pending | running
  deriving DecidableEq, Repr

inductive RestartPhase where
  | idle | draining | stopping | quiet
  deriving DecidableEq, Repr

/-- The NVS records (Table 60) and the two areas of the store. `resetDue` marks a quiet timer that expired while a transaction
was in flight (R49). `lastRestart` is the moment of the newest RESTART reset. -/
structure Nvs where
  area : SettingsArea
  slots : List Slot
  path : WritePath := .free
  save : SaveStanding := .idle
  saveTag : Option Nat := none
  defaulted : Bool := false
  phase : RestartPhase := .idle
  restartTag : Option Nat := none
  stopDue : Option Nat := none
  quietDue : Option Nat := none
  resetDue : Bool := false
  lastRestart : Option Nat := none
  deriving DecidableEq, Repr

/-! ## Activity Counters -/

/-- Event classes, in the order of Table 53. -/
inductive EventClass where
  | admission | budgetWait | shedStage | heatUnmet | stowOrder | lockBlock | pedestalMiss | commandRetry | mastStale | dishFault
  | ceilingHigh | spentLost
  deriving DecidableEq, Repr

inductive CountMode where
  | occurrence | duration
  deriving DecidableEq, Repr

/-- One counter record (Table 52). -/
structure Counter where
  cls : Option EventClass := none
  quals : Option Mask := none
  mode : CountMode := .occurrence
  value : Nat := 0
  threshold : Option Nat := none
  overflow : Bool := false
  notified : Bool := false
  deriving DecidableEq, Repr

inductive MonitorState where
  | disarmed | armed | tracking
  deriving DecidableEq, Repr

/-- The record that the timing monitor follows. -/
inductive TrackRef where
  | host (id : Nat)
  | wave (zone : Nat)
  deriving DecidableEq, Repr

structure Tracked where
  ref : TrackRef
  created : Nat
  admittedAt : Option Nat := none
  deriving DecidableEq, Repr

/-- The timing monitor (Table 54). -/
structure Monitor where
  state : MonitorState := .disarmed
  stow : Bool := false
  observe : Bool := false
  tracked : Option Tracked := none
  waitTotal : Nat := 0
  runTotal : Nat := 0
  count : Nat := 0
  unadmitted : Nat := 0
  untracked : Nat := 0
  overflow : Bool := false
  deriving DecidableEq, Repr

/-- The condition sets of R185 as last reported, one bit per qualifier value. -/
structure Conditions where
  budgetWait : Mask := 0
  heatUnmet : Mask := 0
  stowOrder : Mask := 0
  mastStale : Mask := 0
  ceilingHigh : Mask := 0
  deriving DecidableEq, Repr

structure Act where
  counters : List Counter
  monitor : Monitor := {}
  conds : Conditions := {}
  tickDue : Nat := 1000
  deriving DecidableEq, Repr

end Sys2Proof.Machine
end

