-- ==== Sys2Proof/Machine/Outbound.lean ====
section
/-! DEFINITION. What the Observatory link carries to the host: reason codes, reply contents, notice contents, and the OLI record. -/

namespace Sys2Proof.Machine

/-- Reason codes in the order of Table 57; a code's byte is its place, 1..17 (R211). -/
inductive Reason where
  | unknownKind | badLength | outOfRange | busy | queueFull | emptySet | noEligible | notFound | tableFull | wrongHolder
  | faultPresent | estopActive | badThresholds | storeBusy | storeFailed | restarting | state
  deriving DecidableEq, Repr

/-- The claim that DISH_STATUS reports (R27). -/
inductive ClaimReport where
  | host (id dish : Nat) (standing : Standing)
  | wave (zone : Nat) (standing : Standing)
  | task (kind : Task) (standing : Standing)
  deriving DecidableEq, Repr

/-- One dish of a DISH_STATUS reply (R27). -/
structure DishReport where
  dish : Nat
  state : DishState
  supFault : SupFault
  flags : ChangeFlags
  good : Nat
  miss : Nat
  sinceGood : Option Nat
  last : Option Status
  reservation : Option Nat
  claim : Option ClaimReport
  timer : Option (TimerKind × Nat)
  governing : Option Nat
  deriving DecidableEq, Repr

inductive StopResult where
  | stopOrdered | alreadyStopping | notMoving
  deriving DecidableEq, Repr

/-- Names of the fields that DISH_SET_PROFILE can report as clamped. DESIGN CHOICE, log entry 13: their codes follow Tables 3 and 4, without
the two fields that cannot be clamped. -/
inductive ClampField where
  | bSlew | bHome | c | dmax | h | vmaxAz | vmaxEl | aAz | aEl | shedEl | nSettle | nMiss | homeTimeout | replyWindow
  deriving DecidableEq, Repr

/-- The acceptance reply of SLEW and JOINT_SLEW (R102). -/
structure SlewAccepted where
  id : Nat
  excusals : List (Nat × Excuse)
  waiting : Nat
  iceHeld : Nat
  clampAz : Bool
  clampEl : Bool
  clampDeadline : Bool
  deriving DecidableEq, Repr

/-- The SLEW_STATUS reply (R115). -/
structure SlewReport where
  id : Nat
  complete : Bool
  mode : SlewMode
  selector : Selector
  az : Int
  el : Int
  rateAz : Option Nat
  rateEl : Option Nat
  deadline : Option Nat
  age : Nat
  deadlineLeft : Option Nat
  completion : Option Nat
  members : List HostMember
  deriving DecidableEq, Repr

/-- One record of a QUEUE_STATUS reply (R116). -/
structure QueueRow where
  id : Nat
  mode : SlewMode
  complete : Bool
  members : Nat
  waiting : Nat
  iceHeld : Nat
  admitted : Nat
  deadlineLeft : Option Nat
  deriving DecidableEq, Repr

/-- The contents of a feeder (R139). -/
structure FeederReport where
  feeder : Feeder
  limit : Nat
  reserve : Nat
  heatCap : Nat
  ceiling : Nat
  above : Bool
  slewCommitted : Nat
  heatCommitted : Nat
  committed : Nat
  allowance : Nat
  shedDemand : Option Nat
  waits : WaitCounts
  deriving DecidableEq, Repr

structure ReservationRow where
  dish : Nat
  watts : Nat
  cls : Option ClaimClass
  deriving DecidableEq, Repr

structure HeaterRow where
  dish : Nat
  counted : Nat
  granted : Nat
  deriving DecidableEq, Repr

/-- One feeder of a FEEDER_STATUS reply (R140). -/
structure FeederStatusReport where
  report : FeederReport
  passDue : Bool
  reservations : List ReservationRow
  heaters : List HeaterRow
  deriving DecidableEq, Repr

/-- One mast of a MAST_STATUS reply (R65). -/
structure MastReportOut where
  mast : Nat
  state : MastState
  gain : Nat
  offset : Nat
  lastSeq : Option Nat
  lastReport : Option MastReport
  since : Option Nat
  samples : Nat
  newest : Option Nat
  largest : Option Nat
  gust : Option Nat
  sustained : Option Nat
  peak : Option Nat
  validRun : Nat
  missedRun : Nat
  valid : Nat
  missed : Nat
  duplicates : Nat
  rejected : Nat
  window : Option (List Nat)
  deriving DecidableEq, Repr

/-- Source condition of a zone (R67, Zone status layout): 0 sourced, 1 awaiting, 2 sourceless. -/
inductive SourceCondition where
  | sourced | awaiting | sourceless
  deriving DecidableEq, Repr

/-- The contents of a zone (R87). -/
structure ZoneReport where
  zone : Nat
  state : ZoneState
  causes : Causes
  source : Option Nat
  condition : SourceCondition
  active : Bank
  releaseLeft : Option Nat
  waveOpen : Bool
  waiting : Nat
  preemptWait : Nat
  admitted : Nat
  lastOutcome : Option (List WaveMember)
  deriving DecidableEq, Repr

/-- One zone of a ZONE_STATUS reply (R88); the wave is its creation time and its member list. -/
structure ZoneStatusReport where
  settings : ZoneSettings
  report : ZoneReport
  gust : Option Nat
  sustained : Option Nat
  wave : Option (Nat × List WaveMember)
  deriving DecidableEq, Repr

/-- One dish of a HEAT_STATUS reply (R161). -/
structure HeatDishReport where
  dish : Nat
  state : HeaterState
  requested : Nat
  granted : Nat
  counted : Nat
  applied : Option Nat
  prioTemp : Option Int
  inMelt : Option Nat
  hold : SensorHold
  lastShed : Option ShedOutcome
  shedTask : Option Standing
  melts : Nat
  shedsCreated : Nat
  shedsSkipped : Nat
  shedsDone : Nat
  deriving DecidableEq, Repr

/-- One feeder of a HEAT_STATUS reply (R161). -/
structure HeatFeederReport where
  feeder : Feeder
  allowance : Nat
  heatCommitted : Nat
  inFlight : Nat
  shedDemand : Option Nat
  unmet : Nat
  raisesAllowed : Bool
  deriving DecidableEq, Repr

/-- One entry as LOCK_READ and the LOCKOUT notice give it (R166, R181). -/
structure LockReport where
  index : Nat
  entry : Entry
  op : Option (OpKind × Bool)
  level : Bool
  deriving DecidableEq, Repr

/-- A counter with its number, and, for a DURATION counter of COUNTER_READ, whether its condition holds (R187). -/
structure CounterReport where
  counter : Nat
  record : Counter
  holds : Option Bool
  deriving DecidableEq, Repr

/-- The TIMING_READ reply (R189); times are seconds before the read. -/
structure TimingReport where
  state : MonitorState
  stow : Bool
  observe : Bool
  ref : Option TrackRef
  createdAgo : Option Nat
  admittedAgo : Option Nat
  waitTotal : Nat
  runTotal : Nat
  count : Nat
  unadmitted : Nat
  untracked : Nat
  overflow : Bool
  deriving DecidableEq, Repr

/-- The IDENTIFY reply (R200). -/
structure Identity where
  partCode : Nat
  hardwareRevision : Nat
  protocolVersion : Nat
  stations : Nat
  defaulted : Bool
  restarting : Bool
  uptime : Nat
  sinceRestart : Option Nat
  deriving DecidableEq, Repr

/-- One count for each notice class of Table 63. -/
structure PerClass where
  zone : Nat := 0
  lockout : Nat := 0
  dishChange : Nat := 0
  slewDone : Nat := 0
  budget : Nat := 0
  counter : Nat := 0
  system : Nat := 0
  deriving DecidableEq, Repr

/-- The link counts of R201. -/
structure LinkCounts where
  received : Nat := 0
  badCrc : Nat := 0
  badLength : Nat := 0
  gap : Nat := 0
  framing : Nat := 0
  tagErrors : Nat := 0
  refusedUnknownKind : Nat := 0
  refusedBadLength : Nat := 0
  refusedBusy : Nat := 0
  taken : Nat := 0
  replyDrops : Nat := 0
  repliesSent : Nat := 0
  noticesSent : PerClass := {}
  deriving DecidableEq, Repr

inductive Flow where
  | go | hold
  deriving DecidableEq, Repr

/-- The LINK_STATUS reply (R201). -/
structure LinkReport where
  counts : LinkCounts
  queued : Nat
  flow : Flow
  replies : Nat
  pending : PerClass
  enables : Enables
  totals : LinkTotals
  deriving DecidableEq, Repr

/-- The seven final-state counts of SLEW_DONE (R114). -/
structure DoneCounts where
  done : Nat
  excused : Nat
  preemptedStow : Nat
  aborted : Nat
  stoppedByHost : Nat
  cancelled : Nat
  expired : Nat
  deriving DecidableEq, Repr

/-- The SLEW_DONE notice (R114). -/
structure SlewDone where
  id : Nat
  mode : SlewMode
  selector : Selector
  az : Int
  el : Int
  rateAz : Option Nat
  rateEl : Option Nat
  deadline : Option Nat
  elapsed : Nat
  members : List HostMember
  counts : DoneCounts
  deriving DecidableEq, Repr

/-- The success contents of a reply, as the rule of each request gives them. -/
inductive Contents where
  | accepted
  | identity (r : Identity)
  | link (r : LinkReport)
  | enables (e : Enables)
  | dishes (l : List DishReport)
  | stops (l : List (Nat × StopResult))
  | flags (l : List (Nat × ChangeFlags))
  | clamped (l : List ClampField)
  | slewAccepted (r : SlewAccepted)
  | cancelled (cancelled stopped closed : Nat)
  | slewStatus (r : SlewReport)
  | queue (records free lastId : Nat) (rows : List QueueRow)
  | group (n : Nat) (ds : DishSet)
  | groups (l : List (Nat × DishSet))
  | feederSet (limit reserve heatCap ceiling : Nat) (reserveClamped capClamped : Bool)
  | feeders (l : List FeederStatusReport)
  | mastSet (gain offset : Nat) (clamped : Bool)
  | masts (l : List MastReportOut)
  | zoneSet (settings : ZoneSettings) (clamped : Bool)
  | zones (l : List ZoneStatusReport)
  | bank (rows : List Row) (active : Bank)
  | causes (c : Causes)
  | policy (p : Policy)
  | heatChanged (l : List (Nat × HeaterState))
  | heat (p : Policy) (dishes : List HeatDishReport) (feeders : List HeatFeederReport)
  | placed (index : Nat) (duplicatePersisted : Option Bool)
  | amended (index : Nat) (scope : DishSet)
  | released (index : Nat)
  | indices (l : List Nat)
  | entries (l : List LockReport)
  | counter (r : CounterReport)
  | counters (l : List CounterReport)
  | cleared (l : List (Nat × Nat × Bool))
  | timing (r : TimingReport)
  deriving DecidableEq, Repr

/-- The result of a reply (R196): success contents, or a reason code with the contents that a rule adds to it. -/
inductive Result where
  | ok (c : Contents)
  | refused (r : Reason)
  | noEligible (excusals : List (Nat × Excuse))
  | storeFailed (index : Option Nat)
  deriving DecidableEq, Repr

/-- A reply in the reply list; `deferred` marks a reply that was owed (R195). -/
structure Reply where
  kind : Nat
  tag : Nat
  result : Result
  deferred : Bool := false
  deriving DecidableEq, Repr

/-- The key of a pending notice (Table 63). -/
inductive NoticeKey where
  | zone (z : Nat)
  | lockout (index : Nat)
  | dishChange
  | slewDone (id : Nat)
  | budget (f : Feeder)
  | counter (n : Nat)
  | system
  deriving DecidableEq, Repr

/-- The contents of a notice as built when it is chosen (R197). -/
inductive Notice where
  | zone (r : ZoneReport)
  | lockout (r : LockReport)
  | dishChange (l : List (Nat × ChangeFlags))
  | slewDone (r : SlewDone)
  | budget (r : FeederReport)
  | counter (r : CounterReport)
  | system (defaulted : Bool)
  deriving DecidableEq, Repr

/-- What the line is sending: a flow frame, a reply, or a notice. `live` is false once a RESTART reset has emptied the list or
set that the reply or notice came from (R202). -/
inductive Outgoing where
  | flow (f : Flow)
  | reply (r : Reply) (live : Bool)
  | notice (key : NoticeKey) (n : Notice) (live : Bool)
  deriving DecidableEq, Repr

/-- The transmission under way: what is sent, and the bodies of the frame on the line and of the segments that follow it (R196). -/
structure Sending where
  out : Outgoing
  segments : List (List Byte)
  deriving DecidableEq, Repr

/-- The OLI records (Table 59). Requests wait in `inbound`, oldest first; `notices` holds the pending notices of all classes in
the order in which they became pending; `lastFlow` is the flow state last sent (R194). -/
structure Oli where
  inbound : List Instr := []
  flow : Flow := .go
  flowPending : Bool := false
  lastFlow : Flow := .go
  replies : List Reply := []
  notices : List NoticeKey := []
  enables : Enables := {}
  counts : LinkCounts := {}
  sending : Option Sending := none
  deriving DecidableEq, Repr

end Sys2Proof.Machine
end

