-- ==== Sys2Proof/Machine/Sets.lean ====
section
/-! DEFINITION. Dish sets, small sets, numbered tables and per-feeder values: the plain operations over records. -/

namespace Sys2Proof.Machine

/-! ## Sets (R211) -/

/-- Membership in a 48-bit dish set: dish `d` is bit `d - 1`; 0 is no dish. -/
def inSet (ds : DishSet) : Nat → Bool
  | 0 => false
  | k + 1 => ds.getLsbD k

/-- The dish numbers 1..48 in dish order. -/
def allDishes : List Nat := (List.range 48).map (· + 1)

/-- The members of a dish set in dish order. -/
def members (ds : DishSet) : List Nat := allDishes.filter (inSet ds)

/-- The one-dish set; empty for a number outside 1..48. -/
def single : Nat → DishSet
  | 0 => 0
  | k + 1 => BitVec.ofNat 48 (2 ^ k)

/-- The dish set `lo..hi`. -/
def rangeSet (lo hi : Nat) : DishSet := ((List.range (hi + 1 - lo)).map (· + lo)).foldl (fun acc d => acc ||| single d) 0

/-- All 48 dishes. -/
def allSet : DishSet := BitVec.allOnes 48

/-- The one-bit small set of bit `q` (0..7). -/
def bit (q : Nat) : Mask := BitVec.ofNat 8 (2 ^ q)

/-- The numbers `base + i` for the bits `i < n` set in a small set, ascending. -/
def bitsOf {w : Nat} (m : BitVec w) (n base : Nat) : List Nat := ((List.range n).filter (fun i => m.getLsbD i)).map (· + base)

/-- Whether a small set names nothing beyond its first `n` bits. -/
def within (m : Mask) (n : Nat) : Bool := m.toNat < 2 ^ n

/-! ## Numbered tables, counted from 1 -/

/-- Entry `n` (from 1) of a table, or the default where there is none. -/
def tget {α : Type} (l : List α) (n : Nat) (dflt : α) : α :=
  match n with
  | 0 => dflt
  | k + 1 => l.getD k dflt

/-- Apply `f` to entry `n` (from 1) of a table; no entry, no change. -/
def tmod {α : Type} (l : List α) (n : Nat) (f : α → α) : List α :=
  match n with
  | 0 => l
  | k + 1 => l.modify k f

/-- Whether entry `n` (from 1) exists. -/
def thas {α : Type} (l : List α) (n : Nat) : Bool := 1 ≤ n && n ≤ l.length

/-! ## Feeders -/

def PerFeeder.get {α : Type} (p : PerFeeder α) : Feeder → α
  | .a => p.a
  | .b => p.b
  | .c => p.c
  | .d => p.d

def PerFeeder.set {α : Type} (p : PerFeeder α) (f : Feeder) (x : α) : PerFeeder α :=
  match f with
  | .a => { p with a := x }
  | .b => { p with b := x }
  | .c => { p with c := x }
  | .d => { p with d := x }

/-- Feeders in letter order. -/
def allFeeders : List Feeder := [.a, .b, .c, .d]

/-- The enumeration byte of a feeder, 0..3 (R211). -/
def Feeder.code : Feeder → Nat
  | .a => 0
  | .b => 1
  | .c => 2
  | .d => 3

/-- The feeder of an enumeration byte; none outside A..D. -/
def feederOf : Nat → Option Feeder
  | 0 => some .a
  | 1 => some .b
  | 2 => some .c
  | 3 => some .d
  | _ => none

/-- The feeders of a feeder set, in letter order. -/
def feedersOf (m : Mask) : List Feeder := allFeeders.filter (fun f => m.getLsbD f.code)

/-! ## Ordering and clamping -/

/-- Insert into a list kept in order by `before`, after the entries that are not behind it. -/
def insertBy {α : Type} (before : α → α → Bool) (x : α) : List α → List α
  | [] => [x]
  | y :: ys => if before x y then x :: y :: ys else y :: insertBy before x ys

/-- Stable insertion sort: entries that neither precedes the other keep their order. -/
def sortBy {α : Type} (before : α → α → Bool) (l : List α) : List α := l.foldl (fun acc x => insertBy before x acc) []

/-- Replace a value by the nearest end of its range (Arithmetic, 00_scope.md). -/
def clampNat (lo hi x : Nat) : Nat := max lo (min hi x)

def clampInt (lo hi x : Int) : Int := max lo (min hi x)

/-- The top of a 32-bit count. -/
def top32 : Nat := 4294967295

/-- Add 1 to a count that saturates at `top`. -/
def satAdd (top x k : Nat) : Nat := min top (x + k)

/-- Time elapsed since `t`, in the unit of `unit` ms, rounded down. -/
def elapsed (now t unit : Nat) : Nat := (now - t) / unit

/-- Remaining time of a timer due at `due`, in units of `unit` ms, rounded up. -/
def remaining (now due unit : Nat) : Nat := (due - now + (unit - 1)) / unit

end Sys2Proof.Machine
end

