-- ==== Sys2Proof/Machine/Encoding.lean ====
section
/-! DEFINITION. The CRC-16 (R212), the field encodings (R211), and the contents of the two areas of the store as the bytes that
their stored CRC covers (R171, Table 61). -/

namespace Sys2Proof.Machine

/-! ## CRC-16 (R212) -/

/-- One shift of the register by the generator x^16 + x^12 + x^5 + 1. -/
def crcShift (c : BitVec 16) : BitVec 16 := if c.msb then (c <<< 1) ^^^ 0x1021#16 else c <<< 1

/-- One byte, most significant bit first. -/
def crcByte (c : BitVec 16) (b : Byte) : BitVec 16 :=
  (List.range 8).foldl (fun acc _ => crcShift acc) (c ^^^ ((b.setWidth 16) <<< 8))

/-- The CRC of a run of bytes; the register starts at all ones and the result is not inverted. -/
def crc16 (bytes : List Byte) : BitVec 16 := bytes.foldl crcByte 0xFFFF#16

/-! ## Little-endian numbers -/

/-- The `n` low bytes of a number, least significant first. -/
def le : Nat → Nat → List Byte
  | 0, _ => []
  | n + 1, x => BitVec.ofNat 8 x :: le n (x / 256)

/-- A signed number in `n` bytes, two's complement. -/
def leInt (n : Nat) (x : Int) : List Byte := le n (BitVec.ofInt (8 * n) x).toNat

/-- The unsigned number of a run of bytes. -/
def unLe : List Byte → Nat
  | [] => 0
  | b :: bs => b.toNat + 256 * unLe bs

/-- The signed number of a run of bytes. -/
def unLeInt (bytes : List Byte) : Int := (BitVec.ofNat (8 * bytes.length) (unLe bytes)).toInt

/-! ## Fields (R211) -/

def flagByte (b : Bool) : List Byte := le 1 (if b then 1 else 0)

/-- An optional field: the presence byte, then the value. -/
def optional {α : Type} (x : Option α) (f : α → List Byte) : List Byte :=
  match x with
  | none => le 1 0
  | some v => le 1 1 ++ f v

/-- A list: the count, then the entries. -/
def listed {α : Type} (l : List α) (f : α → List Byte) : List Byte := le 1 l.length ++ l.flatMap f

def noteBytes (n : List Byte) : List Byte := le 1 n.length ++ n

def enablesBytes (e : Enables) : List Byte :=
  flagByte e.zone ++ flagByte e.lockout ++ flagByte e.dishChange ++ flagByte e.slewDone ++ flagByte e.budget ++ flagByte e.counter
    ++ flagByte e.system

def zoneSettingsBytes (z : ZoneSettings) : List Byte :=
  le 1 z.primary ++ le 1 z.fallback ++ leInt 4 z.stowEl ++ optional z.stowAz (leInt 4)

def rowBytes (r : Row) : List Byte := le 2 r.w ++ le 2 r.s1 ++ le 2 r.g1 ++ le 2 r.s0 ++ le 2 r.g0 ++ le 2 r.th

def policyBytes (p : Policy) : List Byte :=
  leInt 2 p.bandHigh ++ leInt 2 p.bandLow ++ leInt 2 p.guardOn ++ leInt 2 p.guardOff ++ le 2 p.minMelt ++ le 2 p.sensorHold

/-! ## The store's contents (R212, Settings image and lockout slot) -/

/-- The contents of a lockout slot: holder, kind, scope, blocks marks, note and host stamp (R171).
DESIGN CHOICE, log entry 21: the manual lists the fields and gives no layout, so they are encoded by R211 in its order. -/
def storedBytes (e : StoredEntry) : List Byte :=
  optional e.holder (le 2) ++ le 1 e.kind.ctorIdx ++ le 6 e.scope.toNat ++ le 1 (e.motion.toNat + 2 * e.heat.toNat) ++ optional e.note noteBytes
    ++ optional e.stamp (le 4)

/-- The CRC that NVS stores with a lockout record. -/
def storedCrc (e : StoredEntry) : BitVec 16 := crc16 (storedBytes e)

/-- One profile, in the order of Table 3. -/
def profileBytes (p : Profile) : List Byte :=
  le 2 p.bSlew ++ le 2 p.bHome ++ le 1 p.c ++ le 2 p.dmax ++ le 2 p.h ++ le 2 p.vmaxAz ++ le 2 p.vmaxEl ++ le 2 p.aAz ++ le 2 p.aEl
    ++ leInt 4 p.shedEl ++ flagByte p.shedEnable ++ flagByte p.heatEnable

def dishSettingsBytes (d : DishSettings) : List Byte := profileBytes d.profile ++ le 1 d.feeder.code ++ le 1 d.zone

def feederSettingsBytes (f : FeederSettings) : List Byte := le 4 f.limit ++ le 4 f.reserve ++ le 4 f.heatCap

/-- The contents of the settings image: the parts of Table 61 in its order, each encoded by R211.
DESIGN CHOICE, log entry 21: the manual gives no layout. -/
def imageBytes (st : Settings) : List Byte :=
  st.dishes.flatMap dishSettingsBytes ++ le 1 st.nSettle ++ le 1 st.nMiss ++ le 2 st.homeTimeout ++ le 1 st.replyWindow
    ++ st.masts.flatMap (fun m => le 2 m.gain ++ le 1 m.offset) ++ st.zones.flatMap zoneSettingsBytes
    ++ st.bankA.flatMap rowBytes ++ st.bankB.flatMap rowBytes ++ le 1 st.active.ctorIdx
    ++ st.groups.flatMap (fun g => le 6 g.toNat) ++ allFeeders.flatMap (fun f => feederSettingsBytes (st.feeders.get f))
    ++ policyBytes st.policy ++ enablesBytes st.enables

/-- The CRC that NVS collects with the settings (R205). -/
def imageCrc (st : Settings) : BitVec 16 := crc16 (imageBytes st)

end Sys2Proof.Machine
end

