-- ==== Sys2Proof/Machine/Defaults.lean ====
section
/-! DEFINITION. Default settings (Tables 3, 4, 23, 37, 39; R3, R66, R90, R93, R199), the validity check of a settings image
(R203), and the power-up value of each block's records over the working settings it is given. -/

namespace Sys2Proof.Machine

/-! ## Defaults -/

/-- R3: dishes 1..12 on A, 13..24 on B, 25..36 on C, 37..48 on D. -/
def defaultFeeder (d : Nat) : Feeder := if d ≤ 12 then .a else if d ≤ 24 then .b else if d ≤ 36 then .c else .d

/-- R3: dish d is in zone (d - 1) / 6 + 1. -/
def defaultZone (d : Nat) : Nat := (d - 1) / 6 + 1

/-- Table 23. -/
def defaultRow : Row := { w := 100, s1 := 150, g1 := 200, s0 := 80, g0 := 120, th := 600 }

/-- R90: primary mast (z - 1) / 2 + 1; the fallback is the next mast, and mast 3 for primary 4. -/
def defaultZoneSettings (z : Nat) : ZoneSettings :=
  let p := (z - 1) / 2 + 1
  { primary := p, fallback := if p ≤ 3 then p + 1 else 3, stowEl := 90000, stowAz := none }

/-- R93: groups 1..8 the zones, 9..12 the feeders, 13..16 empty. -/
def defaultGroup (g : Nat) : DishSet :=
  if g ≤ 8 then rangeSet (6 * (g - 1) + 1) (6 * g) else if g ≤ 12 then rangeSet (12 * (g - 9) + 1) (12 * (g - 8)) else 0

def defaultFeederSettings : FeederSettings := { limit := 120000, reserve := 24000, heatCap := 40000 }

def defaultSettings : Settings where
  dishes := allDishes.map (fun d => { profile := {}, feeder := defaultFeeder d, zone := defaultZone d })
  nSettle := 10
  nMiss := 4
  homeTimeout := 240
  replyWindow := 4
  masts := [⟨256, 0⟩, ⟨256, 0⟩, ⟨256, 0⟩, ⟨256, 0⟩]
  zones := ((List.range 8).map (· + 1)).map defaultZoneSettings
  bankA := List.replicate 8 defaultRow
  bankB := List.replicate 8 defaultRow
  active := .a
  groups := ((List.range 16).map (· + 1)).map defaultGroup
  feeders := ⟨defaultFeederSettings, defaultFeederSettings, defaultFeederSettings, defaultFeederSettings⟩
  policy := {}
  enables := {}

/-! ## Ranges -/

/-- Azimuth range of Table 1. -/
def azOk (x : Int) : Bool := -270000 ≤ x && x ≤ 270000

/-- Elevation range of Table 1. -/
def elOk (x : Int) : Bool := 5000 ≤ x && x ≤ 90000

/-- Temperature range of Table 1. -/
def tempOk (x : Int) : Bool := -400 ≤ x && x ≤ 600

def inRange (lo hi x : Nat) : Bool := lo ≤ x && x ≤ hi

/-- The law of a threshold row (R69). -/
def rowOk (r : Row) : Bool :=
  r.s0 < r.s1 && r.g0 < r.g1 && r.s0 ≤ r.w && r.w ≤ r.s1 && inRange 60 3600 r.th

/-- The speeds of a row lie in 0..999 (Table 23). -/
def rowSpeedsOk (r : Row) : Bool := r.w ≤ 999 && r.s1 ≤ 999 && r.g1 ≤ 999 && r.s0 ≤ 999 && r.g0 ≤ 999

def profileOk (p : Profile) : Bool :=
  p.bSlew ≤ 30000 && p.bHome ≤ 30000 && p.c ≤ 255 && inRange 1000 60000 p.dmax && p.h ≤ 6000 && inRange 1 10000 p.vmaxAz
    && inRange 1 10000 p.vmaxEl && inRange 1 5000 p.aAz && inRange 1 5000 p.aEl && elOk p.shedEl

def zoneSettingsOk (z : ZoneSettings) : Bool :=
  inRange 1 4 z.primary && z.fallback ≤ 4 && z.fallback != z.primary && elOk z.stowEl
    && (match z.stowAz with | none => true | some x => azOk x)

/-- Table 39 and R143. -/
def policyOk (p : Policy) : Bool :=
  tempOk p.bandHigh && tempOk p.bandLow && tempOk p.guardOn && tempOk p.guardOff && p.minMelt ≤ 3600 && p.sensorHold ≤ 3600
    && p.bandLow < p.bandHigh && p.guardOn < p.guardOff

def feederSettingsOk (f : FeederSettings) : Bool := f.limit ≤ 400000 && f.reserve ≤ f.limit && f.heatCap ≤ f.limit

/-- The field part of the check of R203: every field of the image lies within the range given for it in the owning chapter. -/
def settingsOk (st : Settings) : Bool :=
  st.dishes.length == 48 && st.dishes.all (fun d => profileOk d.profile && inRange 1 8 d.zone)
    && inRange 2 50 st.nSettle && inRange 2 16 st.nMiss && inRange 30 600 st.homeTimeout && inRange 1 20 st.replyWindow
    && st.masts.length == 4 && st.masts.all (fun m => m.gain ≤ 65535 && m.offset ≤ 50)
    && st.zones.length == 8 && st.zones.all zoneSettingsOk
    && st.bankA.length == 8 && st.bankA.all (fun r => rowOk r && rowSpeedsOk r)
    && st.bankB.length == 8 && st.bankB.all (fun r => rowOk r && rowSpeedsOk r)
    && st.groups.length == 16
    && allFeeders.all (fun f => feederSettingsOk (st.feeders.get f))
    && policyOk st.policy

/-! ## Lockout slots -/

/-- The printable range of a note (R211). -/
def noteOk (n : List Byte) : Bool := n.length ≤ 32 && n.all (fun b => 0x20 ≤ b.toNat && b.toNat ≤ 0x7E)

/-- The contents part of the slot check of R178. -/
def storedOk (e : StoredEntry) : Bool :=
  (match e.kind, e.holder with
   | .estop, _ => false
   | .maintenance, none => false
   | _, none => true
   | _, some h => inRange 1 65534 h)
    && e.scope != 0 && (e.motion || e.heat) && (match e.note with | none => true | some n => noteOk n)

/-- A slot is occupied when it holds a record that passes its slot check: its CRC matches and its contents are valid (R171, R178,
R212). -/
def Slot.occupied : Slot → Option StoredEntry
  | .record e crc => if crc == storedCrc e && storedOk e then some e else none
  | .empty => none
  | .damaged => none

/-- The entry that a restored slot gives (R178). -/
def entryOfStored (e : StoredEntry) : Entry :=
  { state := .active, kind := some e.kind, holder := e.holder, scope := e.scope, motion := e.motion, heat := e.heat,
    note := e.note, stamp := e.stamp, persisted := true }

/-- The note "RESTORED" of a substituted entry (R179). -/
def restoredNote : List Byte := [0x52, 0x45, 0x53, 0x54, 0x4F, 0x52, 0x45, 0x44]

/-- The entry that a damaged slot gives (R179). -/
def substitutedEntry : Entry :=
  { state := .active, kind := some .admin, scope := allSet, motion := true, heat := true, note := some restoredNote }

/-- Entry 0 while the emergency stop holds (R176). -/
def estopEntry : Entry := { state := .active, kind := some .estop, scope := allSet, motion := true }

/-- Whether a slot is damaged: neither empty nor occupied (R178). -/
def Slot.isDamaged (sl : Slot) : Bool := sl != .empty && sl.occupied.isNone

/-- The entry of index 1..63 after power-up (R178, R179). -/
def entryOfSlot (sl : Slot) : Entry :=
  match sl with
  | .empty => {}
  | sl => match sl.occupied with
    | some e => entryOfStored e
    | none => substitutedEntry

/-! ## Power-up values of the blocks -/

def dsvAtPowerUp (st : Settings) : Dsv :=
  { dishes := st.dishes.map (fun d => { profile := d.profile, feeder := d.feeder, zone := d.zone }),
    nSettle := st.nSettle, nMiss := st.nMiss, homeTimeout := st.homeTimeout }

/-- Table 15. -/
def pbcAtPowerUp (replyWindow : Nat) : Pbc := { slots := List.replicate 48 {}, replyWindow := replyWindow }

/-- Table 20. -/
def wmnAtPowerUp (st : Settings) : Wmn := { masts := st.masts.map (fun m => { gain := m.gain, offset := m.offset }) }

/-- Table 26. -/
def zncAtPowerUp (st : Settings) : Znc :=
  { zones := st.zones.map (fun z => { primary := z.primary, fallback := z.fallback, stowEl := z.stowEl, stowAz := z.stowAz }),
    bankA := st.bankA, bankB := st.bankB, active := st.active }

/-- Table 34. -/
def slsAtPowerUp (st : Settings) : Sls := { groups := st.groups }

/-- R129 with the committed slew power given: the larger of 0 and the smaller of the heat cap and limit - reserve - slew. -/
def allowanceOf (limit reserve heatCap slew : Nat) : Nat := min heatCap (limit - reserve - slew)

/-- Table 38. -/
def feederAtReset (fs : FeederSettings) : FeederRec :=
  { limit := fs.limit, reserve := fs.reserve, heatCap := fs.heatCap, ceiling := fs.limit,
    allowance := allowanceOf fs.limit fs.reserve fs.heatCap 0 }

def fbuAtPowerUp (st : Settings) : Fbu :=
  { feeders := ⟨feederAtReset st.feeders.a, feederAtReset st.feeders.b, feederAtReset st.feeders.c, feederAtReset st.feeders.d⟩ }

/-- Table 44 and R144: OFF, or DISABLED with heat enable off, or BLOCKED under a heat-blocking entry. -/
def heaterAtReset (heatEnable blocked : Bool) : Heater :=
  { state := if !heatEnable then .disabled else if blocked then .blocked else .off }

/-- The heater records after a reset, for the heat-blocked dishes `blocked`. -/
def heatersAtReset (dishes : List Dish) (blocked : DishSet) : List Heater :=
  (List.range dishes.length).map (fun i =>
    heaterAtReset (match dishes[i]? with | some d => d.profile.heatEnable | none => true) (inSet blocked (i + 1)))

/-- Table 56. -/
def actAtPowerUp : Act := { counters := List.replicate 8 {} }

/-- Table 59. -/
def oliAtPowerUp (enables : Enables) : Oli := { enables := enables }

/-- The 64 entries after power-up (R178). -/
def entriesAtPowerUp (slots : List Slot) (estop : Bool) : List Entry :=
  (if estop then estopEntry else {}) :: slots.map entryOfSlot

/-- The indices whose slots are damaged, ascending (R179). -/
def damagedIndices (slots : List Slot) : List Nat :=
  ((List.range slots.length).filter (fun i => match slots[i]? with | some sl => sl.isDamaged | none => false)).map (· + 1)

/-- LKT after power-up: the first 8 write-backs queued, the rest listed (R179, Table 51). -/
def lktAtPowerUp (slots : List Slot) (estop : Bool) : Lkt :=
  { entries := entriesAtPowerUp slots estop,
    queue := ((damagedIndices slots).take 8).map (fun i => { index := i, kind := .write, owed := none }),
    writeBacks := (damagedIndices slots).drop 8, estopLevel := estop }

/-- The dishes that some ACTIVE or RELEASING entry with the mark `sel` covers (R165). -/
def coveredBy (sel : Entry → Bool) (entries : List Entry) : DishSet :=
  entries.foldl (fun acc e => if (e.state == .active || e.state == .releasing) && sel e then acc ||| e.scope else acc) 0

end Sys2Proof.Machine
end

