-- ==== Sys2Proof/Machine/State.lean ====
section
/-! DEFINITION. The state of the DX-48: every record of its eleven blocks, the part's time base, and the queue of commands that
are waiting; the reasons a step can stop; and the state right after reset. -/

namespace Sys2Proof.Machine

/-- The machine. `powered` is PWR_OK asserted and loading done (R206); `now` is the time base in ms since the end of loading;
`moment` numbers the events taken, and orders what the manual orders by "the present moment" (log entry 5); `pending` is the
queue of commands that are waiting, first in, first out. -/
structure State where
  powered : Bool
  now : Nat
  moment : Nat
  dsv : Dsv
  pbc : Pbc
  wmn : Wmn
  znc : Znc
  sls : Sls
  fbu : Fbu
  mlc : Mlc
  lkt : Lkt
  nvs : Nvs
  act : Act
  oli : Oli
  pending : List Instr
  deriving DecidableEq, Repr

/-- Reasons the part stops with a fault. There is none: no rule of the manual stops the part (safe: nothing is raised). -/
inductive Fault where
  deriving DecidableEq, Repr

/-- Reasons a command is refused by the model. -/
inductive Refusal where
  /-- Raised by `exec` alone, for a command that has no meaning yet; no arm of `exec` uses it now. Safe. -/
  | notModelled (mnemonic : String)
  deriving DecidableEq, Repr

/-- The runtime records of a part that loads the settings `st` and the lockout slots of `nvs`, with ESTOP_IN read as `estop`:
the values of the Power-up columns of Tables 9, 15, 20, 26, 34, 38, 44, 51, 56 and 59. -/
def State.loaded (st : Settings) (nvs : Nvs) (estop : Bool) (pending : List Instr) : State :=
  { powered := true, now := 0, moment := 0, dsv := dsvAtPowerUp st,
    pbc := { pbcAtPowerUp st.replyWindow with allStop := estop },
    wmn := wmnAtPowerUp st, znc := zncAtPowerUp st, sls := slsAtPowerUp st, fbu := fbuAtPowerUp st,
    mlc := { heaters := heatersAtReset (dsvAtPowerUp st).dishes (coveredBy (·.heat) (entriesAtPowerUp nvs.slots estop)),
             policy := st.policy },
    lkt := lktAtPowerUp nvs.slots estop, nvs := nvs, act := actAtPowerUp, oli := oliAtPowerUp st.enables, pending := pending }

/-- The store of a part as shipped: an erased settings area (so the image is invalid) and 63 empty lockout slots.
DESIGN CHOICE, log entry 2: the manual does not give the first contents of the store. -/
def blankStore : Nvs := { area := .damaged, slots := List.replicate 63 .empty, defaulted := true }

/-- The state right after reset: power-up over a blank store with ESTOP_IN deasserted (log entry 2). -/
def State.reset : State := State.loaded defaultSettings blankStore false []

end Sys2Proof.Machine
end

