-- ==== Sys2Proof/Machine/Ops.lean ====
section
/-! DEFINITION. Named operations on the state that every block uses: record access, notices made pending (R198), counting
(R184 to R186) and the timing monitor (R188). -/

namespace Sys2Proof.Machine

/-! ## Record access -/

/-- The record read for a number that names no dish; no rule reads it. -/
def Dish.initial : Dish := { feeder := .a, zone := 1 }

def Zone.initial : Zone := { primary := 1, fallback := 2 }

def State.dish (s : State) (d : Nat) : Dish := tget s.dsv.dishes d Dish.initial

def State.modDish (s : State) (d : Nat) (f : Dish → Dish) : State := { s with dsv.dishes := tmod s.dsv.dishes d f }

def State.isDish (s : State) (d : Nat) : Bool := thas s.dsv.dishes d

def State.slots (s : State) (d : Nat) : Slots := tget s.pbc.slots d {}

def State.modSlots (s : State) (d : Nat) (f : Slots → Slots) : State := { s with pbc.slots := tmod s.pbc.slots d f }

def State.mast (s : State) (m : Nat) : Mast := tget s.wmn.masts m {}

def State.modMast (s : State) (m : Nat) (f : Mast → Mast) : State := { s with wmn.masts := tmod s.wmn.masts m f }

def State.zone (s : State) (z : Nat) : Zone := tget s.znc.zones z Zone.initial

def State.modZone (s : State) (z : Nat) (f : Zone → Zone) : State := { s with znc.zones := tmod s.znc.zones z f }

/-- Zones in order. -/
def State.zoneNumbers (s : State) : List Nat := (List.range s.znc.zones.length).map (· + 1)

def State.feeder (s : State) (f : Feeder) : FeederRec := s.fbu.feeders.get f

def State.modFeeder (s : State) (f : Feeder) (g : FeederRec → FeederRec) : State :=
  { s with fbu.feeders := s.fbu.feeders.set f (g (s.fbu.feeders.get f)) }

def State.heater (s : State) (d : Nat) : Heater := tget s.mlc.heaters d {}

def State.modHeater (s : State) (d : Nat) (f : Heater → Heater) : State := { s with mlc.heaters := tmod s.mlc.heaters d f }

/-- Lockout entry `i` (0..63). -/
def State.entry (s : State) (i : Nat) : Entry := s.lkt.entries.getD i {}

def State.modEntry (s : State) (i : Nat) (f : Entry → Entry) : State := { s with lkt.entries := s.lkt.entries.modify i f }

/-- The slew record with this id, if the table holds one. -/
def State.record (s : State) (id : Nat) : Option SlewRecord := s.sls.table.find? (fun r => r.id == id)

def State.modRecord (s : State) (id : Nat) (f : SlewRecord → SlewRecord) : State :=
  { s with sls.table := s.sls.table.map (fun r => if r.id == id then f r else r) }

/-- Dishes in dish order. -/
def State.dishNumbers (s : State) : List Nat := (List.range s.dsv.dishes.length).map (· + 1)

/-- The row of zone `z` in the active bank (R69). -/
def State.activeRow (s : State) (z : Nat) : Row :=
  tget (match s.znc.active with | .a => s.znc.bankA | .b => s.znc.bankB) z defaultRow

/-! ## Notices -/

/-- The key of the notice on the line, while it still belongs to its pending set. -/
def Oli.keyOnLine (o : Oli) : Option NoticeKey :=
  match o.sending with
  | some { out := .notice k _ true, .. } => some k
  | _ => none

/-- R198: make a notice pending. A key already pending collapses; a key whose notice is on the line, already built, becomes
pending again behind it (R197). -/
def State.raise (s : State) (k : NoticeKey) : State :=
  let held := s.oli.notices.count k
  let building := if s.oli.keyOnLine == some k then 1 else 0
  if held ≤ building then { s with oli.notices := s.oli.notices ++ [k] } else s

/-! ## Activity counters -/

/-- R186: one increment of a counter, saturating at the top with overflow, and the threshold test; true when its notice rises. -/
def Counter.bump (c : Counter) : Counter × Bool :=
  let c1 := if c.value < top32 then { c with value := c.value + 1 } else { c with overflow := true }
  match c1.threshold with
  | some t => if t ≤ c1.value && !c1.notified then ({ c1 with notified := true }, true) else (c1, false)
  | none => (c1, false)

/-- Increment every counter that `p` selects, raising the COUNTER notices that result. DESIGN CHOICE, log entry 30: where one event raises
several, they become pending in counter order. -/
def State.bumpWhere (s : State) (p : Counter → Bool) : State :=
  let marked := s.act.counters.map (fun c => if p c then c.bump else (c, false))
  let rising := ((List.range marked.length).filter (fun i => match marked[i]? with | some x => x.2 | none => false)).map (· + 1)
  rising.foldl (fun t n => t.raise (.counter n)) { s with act.counters := marked.map (·.1) }

/-- Whether a counter in OCCURRENCE mode counts an event of class `cls` with qualifier bit `q` (R184, note 3 of Table 53). -/
def Counter.counts (c : Counter) (cls : EventClass) (q : Option Nat) : Bool :=
  c.cls == some cls && c.mode == .occurrence
    && (match c.quals, q with
        | none, _ => true
        | some m, some b => m.getLsbD b
        | some _, none => false)

/-- R184: hand ACT one event. -/
def State.count (s : State) (cls : EventClass) (q : Option Nat) : State := s.bumpWhere (fun c => c.counts cls q)

def ClaimClass.bit : ClaimClass → Nat
  | .stow => 0
  | .home => 1
  | .observe => 2
  | .shed => 3

def LockKind.bit : LockKind → Nat
  | .estop => 0
  | .maintenance => 1
  | .admin => 2

/-- The DISH_FAULT qualifier of a supervisor fault; `none` stands for a drive fault (note 2 of Table 53). -/
def faultBit : SupFault → Nat
  | .clear => 0
  | .slewTimeout => 1
  | .homeTimeout => 2
  | .stopTimeout => 3
  | .driveRefused => 4

/-! ## Condition sets -/

/-- The mask of the numbers (from 1) in 1..8 that satisfy `p`. -/
def maskOf (p : Nat → Bool) (n : Nat) : Mask :=
  (List.range n).foldl (fun acc i => if p (i + 1) then acc ||| bit i else acc) 0

/-- WMN keeps ACT informed of the set of STALE masts (R63). -/
def State.syncStale (s : State) : State :=
  { s with act.conds.mastStale := maskOf (fun m => (s.mast m).state == .stale) s.wmn.masts.length }

def Causes.isEmpty (c : Causes) : Bool := !c.wind && !c.noSource && !c.manual

/-- ZNC keeps ACT informed of the set of zones with a non-empty cause set (R89). -/
def State.syncStowOrder (s : State) : State :=
  { s with act.conds.stowOrder := maskOf (fun z => !(s.zone z).causes.isEmpty) s.znc.zones.length }

/-- FBU keeps ACT informed of the set of feeders over their limit (R127). -/
def State.syncCeiling (s : State) : State :=
  { s with act.conds.ceilingHigh :=
      allFeeders.foldl (fun acc f => if (s.feeder f).limit < (s.feeder f).ceiling then acc ||| bit f.code else acc) 0 }

/-- MLC keeps ACT informed of the feeders with a heater granted below its request (R162). -/
def State.syncUnmet (s : State) : State :=
  { s with act.conds.heatUnmet :=
      s.dishNumbers.foldl (fun acc d => if (s.heater d).granted < (s.heater d).requested then acc ||| bit (s.dish d).feeder.code else acc) 0 }

/-! ## Timing monitor -/

/-- R188: an addition to a total or count, saturating at the top and then setting overflow. -/
def Monitor.over (m : Monitor) (x k : Nat) : Nat × Bool := (min top32 (x + k), m.overflow || top32 < x + k)

/-- R188: a record of class STOW (`isStow`) or OBSERVE is created. -/
def Monitor.onCreated (m : Monitor) (now : Nat) (ref : TrackRef) (isStow : Bool) : Monitor :=
  let inSet := if isStow then m.stow else m.observe
  if !inSet then m
  else match m.state with
    | .disarmed => m
    | .armed => { m with state := .tracking, tracked := some { ref := ref, created := now } }
    | .tracking =>
      let (n, o) := m.over m.untracked 1
      { m with untracked := n, overflow := o }

/-- R188: an admission of a member of a record; the first one of the tracked record sets its first-admission time. -/
def Monitor.onAdmitted (m : Monitor) (now : Nat) (ref : TrackRef) : Monitor :=
  match m.state, m.tracked with
  | .tracking, some t =>
    if t.ref == ref && t.admittedAt.isNone then { m with tracked := some { t with admittedAt := some now } } else m
  | _, _ => m

/-- R188: completion of a record; wait and run are in whole tenths of a second, rounded down (note 1 of Table 55). -/
def Monitor.onCompleted (m : Monitor) (now : Nat) (ref : TrackRef) : Monitor :=
  match m.state, m.tracked with
  | .tracking, some t =>
    if t.ref == ref then
      match t.admittedAt with
      | none =>
        let (n, o) := m.over m.unadmitted 1
        { m with state := .armed, tracked := none, unadmitted := n, overflow := o }
      | some a =>
        let (w, o1) := m.over m.waitTotal (elapsed a t.created 100)
        let (r, o2) := m.over m.runTotal (elapsed now a 100)
        let (n, o3) := m.over m.count 1
        { m with state := .armed, tracked := none, waitTotal := w, runTotal := r, count := n, overflow := o1 || o2 || o3 }
    else m
  | _, _ => m

def State.monitorCreated (s : State) (ref : TrackRef) (isStow : Bool) : State :=
  { s with act.monitor := s.act.monitor.onCreated s.now ref isStow }

def State.monitorAdmitted (s : State) (ref : TrackRef) : State :=
  { s with act.monitor := s.act.monitor.onAdmitted s.now ref }

def State.monitorCompleted (s : State) (ref : TrackRef) : State :=
  { s with act.monitor := s.act.monitor.onCompleted s.now ref }

/-! ## Lockout coverage -/

/-- A matching entry of a dish is ACTIVE or RELEASING (R165). -/
def Entry.inForce (e : Entry) : Bool := e.state == .active || e.state == .releasing

/-- The motion-blocked dishes (R165). -/
def State.motionBlocked (s : State) : DishSet := coveredBy (·.motion) s.lkt.entries

/-- The heat-blocked dishes (R165). -/
def State.heatBlocked (s : State) : DishSet := coveredBy (·.heat) s.lkt.entries

/-- The governing entry of a dish: the lowest matching index (R165). -/
def State.governing (s : State) (d : Nat) : Option Nat :=
  (List.range s.lkt.entries.length).find? (fun i => (s.entry i).inForce && inSet (s.entry i).scope d)

/-- The kind of the lowest-index matching entry that blocks motion (R117). -/
def State.blockingKind (s : State) (d : Nat) : Option LockKind :=
  (s.lkt.entries.find? (fun e => e.inForce && e.motion && inSet e.scope d)).bind (·.kind)

/-! ## Pass trigger -/

/-- R137: an admission-pass trigger makes a pass due. -/
def State.trigger (s : State) : State := { s with fbu.passDue := true }

end Sys2Proof.Machine
end

