-- ==== Sys2Proof/Machine/Budget.lean ====
section
/-! DEFINITION. The power account of a feeder (R126, R127, R129), demand (R121), and the slew time estimate (R123, R124). -/

namespace Sys2Proof.Machine

/-! ## The account -/

/-- R126: the sum of the reservations held by the dishes assigned to a feeder. -/
def State.slewSum (s : State) (f : Feeder) : Nat :=
  s.dsv.dishes.foldl (fun acc d => if d.feeder == f then acc + d.reservation.getD 0 else acc) 0

/-- R126: the sum over a feeder's dishes of counted stage times H. -/
def State.heatSum (s : State) (f : Feeder) : Nat :=
  (s.dsv.dishes.zip s.mlc.heaters).foldl (fun acc (d, h) => if d.feeder == f then acc + h.counted * d.profile.h else acc) 0

def FeederRec.committed (r : FeederRec) : Nat := r.slewCommitted + r.heatCommitted

/-- R127: the larger of the limit and the smaller of the old ceiling and committed; a rise that passed no budget test and
carries committed above the ceiling sets the ceiling equal to committed. -/
def ceilingRule (limit oldCeiling committed : Nat) : Nat :=
  if oldCeiling < committed then max limit committed else max limit (min oldCeiling committed)

/-- Whether a feeder's ceiling is above its limit (R127). -/
def FeederRec.over (r : FeederRec) : Bool := r.limit < r.ceiling

/-- The account of one feeder after a change of its settings, reservations or counted stages: the two sums, the ceiling rule
and the allowance (R126, R127, R129). -/
def FeederRec.settle (r : FeederRec) (slew heat : Nat) : FeederRec :=
  { r with slewCommitted := slew, heatCommitted := heat, ceiling := ceilingRule r.limit r.ceiling (slew + heat),
           allowance := allowanceOf r.limit r.reserve r.heatCap slew }

/-- FBU brings a feeder's account up to date after one change. `wasOver` is whether the ceiling stood above the limit before the
change. A rise of the ceiling above the limit is counted (CEILING_HIGH) and, like its return, makes a BUDGET notice pending
(R127, R139); a fall of committed is a release and a pass trigger (R126). -/
def State.settleFrom (s : State) (f : Feeder) (wasOver : Bool) : State :=
  let before := s.feeder f
  let after := before.settle (s.slewSum f) (s.heatSum f)
  let s1 := s.modFeeder f (fun _ => after)
  let s2 := if after.committed < before.committed then s1.trigger else s1
  if wasOver == after.over then s2
  else
    let s3 := (s2.syncCeiling).raise (.budget f)
    if after.over then s3.count .ceilingHigh (some f.code) else s3

def State.settle (s : State) (f : Feeder) : State := s.settleFrom f (s.feeder f).over

/-- R134 steps 1 and 2: the demand becomes the dish's reservation. -/
def State.reserve (s : State) (d watts : Nat) : State :=
  (s.modDish d (fun r => { r with reservation := some watts })).settle (s.dish d).feeder

/-- A release of a held reservation, handed to FBU (R4): the account follows and a pass becomes due. -/
def State.release (s : State) (d : Nat) : State :=
  match (s.dish d).reservation with
  | none => s
  | some _ => ((s.modDish d (fun r => { r with reservation := none })).settle (s.dish d).feeder).trigger

/-! ## Wind figures that the budget and the zones read -/

/-- The rounded mean of `c` samples with sum `sum` (R56, R57). -/
def roundedMean (sum c : Nat) : Nat := (sum + c / 2) / c

/-- R56: the gust of a window, the mean of its newest three samples or of all it has. -/
def gustOf (window : List Nat) : Option Nat :=
  let newest := window.drop (window.length - 3)
  if newest.isEmpty then none else some (roundedMean newest.sum newest.length)

/-- R57: the sustained speed of a window. -/
def sustainedOf (window : List Nat) : Option Nat :=
  if window.isEmpty then none else some (roundedMean window.sum window.length)

def State.gust (s : State) (m : Nat) : Option Nat := gustOf (s.mast m).window

def State.sustained (s : State) (m : Nat) : Option Nat := sustainedOf (s.mast m).window

/-- The gust with which FBU prices a dish of zone `z`: the source mast's, or 999 with no source (R67, R121). -/
def State.pricingGust (s : State) (z : Nat) : Nat :=
  match (s.zone z).source with
  | some m => (s.gust m).getD 999
  | none => 999

/-! ## Demand -/

/-- R121: C × V² + 99 divided by 100, rounded down. -/
def windTerm (c v : Nat) : Nat := (c * v ^ 2 + 99) / 100

/-- R121: the smaller of Dmax and base plus wind term. -/
def demandOf (p : Profile) (cls : ClaimClass) (v : Nat) : Nat :=
  min p.dmax ((if cls == .home then p.bHome else p.bSlew) + windTerm p.c v)

/-- R121: the demand of a claim of this class on dish `d`, at this moment. -/
def State.demand (s : State) (d : Nat) (cls : ClaimClass) : Nat :=
  demandOf (s.dish d).profile cls (s.pricingGust (s.dish d).zone)

/-! ## Time estimate -/

/-- Quotient rounded up. -/
def ceilDiv (x y : Nat) : Nat := (x + y - 1) / y

/-- The largest `m` below `2 ^ bits` above `m0` on the grid of `2 ^ bits` with `m² × a < bound`, by one bit at a time. -/
def rootBelow (a bound : Nat) : Nat → Nat → Nat
  | 0, m => m
  | k + 1, m => rootBelow a bound k (if (m + 2 ^ k) ^ 2 * a < bound then m + 2 ^ k else m)

/-- The smallest whole number `n` with `n² × a ≥ bound` (R123, third line). -/
def smallestRoot (a bound : Nat) : Nat :=
  if bound = 0 then 0 else rootBelow a bound (Nat.log2 bound + 1) 0 + 1

/-- R123: the estimate of one axis, in tenths of a second, for distance `d`, rate `v` and acceleration `a`. -/
def axisEstimate (d v a : Nat) : Nat :=
  if d = 0 then 0
  else if v ^ 2 ≤ d * a then ceilDiv (10 * (d * a + v ^ 2)) (v * a)
  else smallestRoot a (400 * d)

/-- R124: the larger of the two axis estimates. -/
def slewEstimate (st : Status) (p : Profile) (az el : Int) (vAz vEl : Nat) : Nat :=
  max (axisEstimate (az - st.az).natAbs vAz p.aAz) (axisEstimate (el - st.el).natAbs vEl p.aEl)

/-- R124: the estimate times 3, divided by 2 and rounded up, plus 100 tenths. -/
def slewTimeoutOf (estimate : Nat) : Nat := ceilDiv (estimate * 3) 2 + 100

/-- R98: the resolved rate of an axis. -/
def resolveRate (requested : Option Nat) (vmax : Nat) : Nat :=
  match requested with
  | none => vmax
  | some r => min r vmax

end Sys2Proof.Machine
end

