-- ==== Sys2Proof/Machine/Bus.lean ====
section
/-! DEFINITION. The Pedestal Bus Controller's command slots: placing, joining, removing and withdrawing commands (R34 to R37,
R44, R45), and what the end of a transaction does to the slot of its command (R41, R42). -/

namespace Sys2Proof.Machine

/-! ## One dish's slots -/

/-- R35, R37: a removal of the MOVE or HOME command: a pending one is emptied, one in flight is withdrawn. -/
def Slots.removeMove (sl : Slots) : Slots :=
  { sl with movePending := none, moveFlight := sl.moveFlight.map (fun x => { x with withdrawn := true }) }

/-- R35: a removal of the STOP: a pending one is emptied, one in flight is not sent again. -/
def Slots.removeStop (sl : Slots) : Slots := { sl with stopPending := none, stopFlight := sl.stopFlight.map (fun _ => true) }

/-- R35, R37: the same for the HEAT slot. -/
def Slots.removeHeat (sl : Slots) : Slots :=
  { sl with heatPending := none, heatFlight := sl.heatFlight.map (fun x => { x with withdrawn := true }) }

/-- R34: place a MOVE or HOME order at `moment`; a pending command is replaced, one in flight is withdrawn. -/
def Slots.placeMove (sl : Slots) (cmd : MoveCmd) (moment : Nat) : Slots :=
  { sl.removeMove with movePending := some { cmd := cmd, attempts := 0, age := moment } }

/-- Place a STOP unless the slot already holds one, pending or in flight (R35). -/
def Slots.placeStop (sl : Slots) (moment : Nat) : Slots :=
  if sl.stopPending.isNone && sl.stopFlight.isNone then { sl with stopPending := some { age := moment, retry := false } } else sl

/-- R36: a HEAT order. A pending stage that is replaced by another stage is no longer the command kept after a miss. -/
def Slots.placeHeat (sl : Slots) (stage moment : Nat) : Slots :=
  match sl.heatPending with
  | some p => { sl with heatPending := some { p with stage := stage, retry := p.retry && p.stage == stage } }
  | none => { sl with heatPending := some { stage := stage, age := moment, retry := false } }

/-! ## Orders to PBC -/

/-- R34, R36: a MOVE or HOME order; discarded for an ABSENT dish and from the HEAT_ALL_OFF order of a RESTART to its reset. -/
def State.orderMove (s : State) (d : Nat) (cmd : MoveCmd) : State :=
  if (s.dish d).state == .absent || s.pbc.heatOff then s else s.modSlots d (·.placeMove cmd s.moment)

/-- R35: a STOP order from DSV. -/
def State.orderStop (s : State) (d : Nat) : State := s.modSlots d (fun sl => sl.removeMove.placeStop s.moment)

/-- R36: a HEAT order from MLC, with the same discards. -/
def State.orderHeat (s : State) (d stage : Nat) : State :=
  if (s.dish d).state == .absent || s.pbc.heatOff then s else s.modSlots d (·.placeHeat stage s.moment)

/-- R35: removal of the MOVE or HOME command without a STOP. -/
def State.removeMove (s : State) (d : Nat) : State := s.modSlots d (·.removeMove)

/-- R9: removal of MOVE, HOME and STOP; a pending HEAT stays. -/
def State.removeMotion (s : State) (d : Nat) : State := s.modSlots d (fun sl => sl.removeMove.removeStop)

/-- R8: clearing of all three slots at absence. -/
def State.clearSlots (s : State) (d : Nat) : State := s.modSlots d (fun sl => sl.removeMove.removeStop.removeHeat)

/-- R44: an ALL_STOP order. -/
def State.orderAllStop (s : State) : State := { s with pbc.allStop := true }

/-- R45, R36: the HEAT_ALL_OFF order of a RESTART empties the HEAT and MOVE/HOME slots of all dishes. -/
def State.orderHeatAllOff (s : State) : State :=
  { s with pbc.heatAllOff := true, pbc.heatOff := true, pbc.slots := s.pbc.slots.map (fun sl => sl.removeMove.removeHeat) }

/-! ## The end of a transaction at its slot -/

/-- R41: the end of a MOVE or HOME transaction; true when exhaustion is declared. A withdrawn command is not kept. -/
def Slots.endMove (sl : Slots) (valid : Bool) (moment : Nat) : Slots × Bool :=
  match sl.moveFlight with
  | none => (sl, false)
  | some x =>
    let rest := { sl with moveFlight := none }
    if x.withdrawn || valid then (rest, false)
    else if x.attempts < 3 then
      ({ rest with movePending := some { cmd := x.cmd, attempts := x.attempts, age := moment } }, false)
    else (rest, true)

/-- R42: the end of a STOP transaction; a missed STOP is kept pending with a new age unless it was removed (R35). -/
def Slots.endStop (sl : Slots) (valid : Bool) (moment : Nat) : Slots :=
  match sl.stopFlight with
  | none => sl
  | some removed =>
    if valid || removed then { sl with stopFlight := none }
    else { sl with stopFlight := none, stopPending := some { age := moment, retry := true } }

/-- R42: the end of a HEAT transaction; a missed stage is kept with a new age, or dropped in favour of a newer pending one. -/
def Slots.endHeat (sl : Slots) (valid : Bool) (moment : Nat) : Slots :=
  match sl.heatFlight with
  | none => sl
  | some x =>
    let rest := { sl with heatFlight := none }
    if valid || x.withdrawn || sl.heatPending.isSome then rest
    else { rest with heatPending := some { stage := x.stage, age := moment, retry := true } }

/-- R33 step 1 for the frame kind of the transaction. -/
def Slots.endOf (sl : Slots) (k : TxKind) (valid : Bool) (moment : Nat) : Slots × Bool :=
  match k with
  | .move _ => sl.endMove valid moment
  | .home => sl.endMove valid moment
  | .stop => (sl.endStop valid moment, false)
  | .heat _ => (sl.endHeat valid moment, false)
  | .poll => (sl, false)
  | .allStop => (sl, false)
  | .heatAllOff => (sl, false)

/-- Whether a pending MOVE or HOME is a command kept after a miss: it has been sent before (R41, Table 14). -/
def MovePending.isRetry (p : MovePending) : Bool := 0 < p.attempts

end Sys2Proof.Machine
end

