-- ==== Sys2Proof/Machine/Flags.lean ====
section
/-! DEFINITION. Change flags of a dish (R25, R26) and the wire bytes of the small sets that records hold (R211). -/

namespace Sys2Proof.Machine

def ChangeFlags.union (x y : ChangeFlags) : ChangeFlags :=
  { presence := x.presence || y.presence, owner := x.owner || y.owner, fault := x.fault || y.fault, key := x.key || y.key,
    surface := x.surface || y.surface }

def ChangeFlags.isEmpty (x : ChangeFlags) : Bool := x == {}

/-- The flags left after those of a flag set are cleared (R26); bits 0..4 in the order of Table 8. -/
def ChangeFlags.without (x : ChangeFlags) (m : Mask) : ChangeFlags :=
  { presence := x.presence && !m.getLsbD 0, owner := x.owner && !m.getLsbD 1, fault := x.fault && !m.getLsbD 2,
    key := x.key && !m.getLsbD 3, surface := x.surface && !m.getLsbD 4 }

/-- The number of a list of bits, the first the least significant. -/
def bitsToNat : List Bool → Nat
  | [] => 0
  | b :: bs => (if b then 1 else 0) + 2 * bitsToNat bs

def ChangeFlags.code (x : ChangeFlags) : Nat := bitsToNat [x.presence, x.owner, x.fault, x.key, x.surface]

def Causes.code (x : Causes) : Nat := bitsToNat [x.wind, x.noSource, x.manual]

/-- R25: set change flags; each rise of a flag that was clear makes DISH_CHANGE pending. -/
def State.flag (s : State) (d : Nat) (x : ChangeFlags) : State :=
  let old := (s.dish d).flags
  if old.union x = old then s else (s.modDish d (fun r => { r with flags := old.union x })).raise .dishChange

end Sys2Proof.Machine
end

