-- ==== Sys2Proof/Machine/Claims.lean ====
section
/-! DEFINITION. Motion claims across their owners: closing a claim (R104, R105, R81), completion of a record (R113), close of a
wave (R82), motion eligibility (R24), auto stow (R85), the stop order (R20), and the entries to the dish states. -/

namespace Sys2Proof.Machine

/-! ## Host members (SLS) -/

def MemberState.isOpen : MemberState → Bool
  | .waiting => true
  | .admitted => true
  | _ => false

def SlewRecord.modMember (r : SlewRecord) (d : Nat) (f : HostMember → HostMember) : SlewRecord :=
  { r with members := r.members.map (fun m => if m.dish == d then f m else m) }

def SlewRecord.member (r : SlewRecord) (d : Nat) : Option HostMember := r.members.find? (fun m => m.dish == d)

/-- R113: a record with no member WAITING or ADMITTED becomes COMPLETE. -/
def State.completionTest (s : State) (id : Nat) : State :=
  match s.record id with
  | some r =>
    if r.complete || r.members.any (fun m => m.state.isOpen) then s
    else ((s.modRecord id (fun r => { r with complete := true, completed := some s.now, deadlineDue := none })).raise
      (.slewDone id)).monitorCompleted (.host id)
  | none => s

/-- Close the open member of dish `d` in record `id` and apply the completion test (note 1 of Table 33). DESIGN CHOICE, log entry 35: the
running mark and the ice-held mark of a closed member keep their last values. -/
def State.closeHost (s : State) (id d : Nat) (st : MemberState) : State :=
  (s.modRecord id (·.modMember d (fun m => if m.state.isOpen then { m with state := st } else m))).completionTest id

/-! ## Wave members (ZNC) -/

def WaveState.isOpen : WaveState → Bool
  | .waiting => true
  | .preemptWait => true
  | .admitted => true
  | _ => false

def Wave.member (w : Wave) (d : Nat) : Option WaveMember := w.members.find? (fun m => m.dish == d)

def Wave.setMember (w : Wave) (d : Nat) (st : WaveState) : Wave :=
  { w with members := w.members.map (fun m => if m.dish == d then { m with state := st } else m) }

/-- R82: a wave with no open member closes; its list becomes the last wave outcome and a zone with causes enters STOWED. -/
def State.waveTest (s : State) (z : Nat) : State :=
  match (s.zone z).wave with
  | some w =>
    if w.members.any (fun m => m.state.isOpen) then s
    else
      let s1 := s.modZone z (fun r =>
        { r with wave := none, lastOutcome := some w.members, state := if r.causes.isEmpty then r.state else .stowed })
      (s1.raise (.zone z)).monitorCompleted (.wave z)
  | none => s

/-- Give a member of a zone's open wave a new state and test the wave (R81, R82). -/
def State.setWaveMember (s : State) (z d : Nat) (st : WaveState) : State :=
  (s.modZone z (fun r => { r with wave := r.wave.map (·.setMember d st) })).waveTest z

/-! ## Closing a dish's claim -/

/-- Record a claim on a dish and hand FBU the claim-created trigger (R137). -/
def State.openClaim (s : State) (d : Nat) (ref : ClaimRef) : State :=
  (s.modDish d (fun r => { r with claim := some { ref := ref } })).trigger

/-- Open an auto task as the dish's claim (R4). -/
def State.openTask (s : State) (d : Nat) (t : Task) : State :=
  (s.modDish d (fun r => { r with claim := some { ref := .task }, task := some t })).trigger

/-- The dish record with its claim gone; the slew timeout and the accepted sequence go with it (Table 5). -/
def Dish.dropClaim (r : Dish) : Dish := { r with claim := none, task := none, slewTimeout := none, acceptedSeq := none }

/-- Close the open claim of a dish: a host member as `host`, a wave member as `wave`, an auto task by dropping it. A claim that
leaves WAITING this way is a pass trigger (R108, R137). -/
def State.closeClaim (s : State) (d : Nat) (host : MemberState) (wave : WaveState) : State :=
  match (s.dish d).claim with
  | none => s
  | some c =>
    let s1 := s.modDish d Dish.dropClaim
    let s2 := if c.standing == .waiting then s1.trigger else s1
    match c.ref with
    | .host id => s2.closeHost id d host
    | .wave z => s2.setWaveMember z d wave
    | .task => s2

/-- Close a claim ABORTED on its member, host or wave. -/
def State.abortClaim (s : State) (d : Nat) (why : Abort) : State := s.closeClaim d (.aborted why) (.aborted why)

/-- Close a waiting claim EXCUSED on its member, host or wave. -/
def State.excuseClaim (s : State) (d : Nat) (why : Excuse) : State := s.closeClaim d (.excused why) (.excused why)

def Dish.isWaiting (r : Dish) : Bool :=
  match r.claim with
  | some c => c.standing == .waiting
  | none => false

def Dish.isAdmitted (r : Dish) : Bool :=
  match r.claim with
  | some c => c.standing == .admitted
  | none => false

/-- The class of an open claim (Table 35). -/
def Dish.claimClass (r : Dish) : Option ClaimClass :=
  match r.claim with
  | none => none
  | some c =>
    match c.ref with
    | .host _ => some .observe
    | .wave _ => some .stow
    | .task =>
      match r.task with
      | some .home => some .home
      | some .stow => some .stow
      | some .shed => some .shed
      | none => none

/-! ## Eligibility and auto stow -/

/-- The key position in the last status; NONE when there is none. -/
def Dish.keyNow (r : Dish) : Key :=
  match r.last with
  | some st => st.key
  | none => .clear

/-- The second and third conditions of R24: key NONE and no motion-blocking cover. -/
def State.unblocked (s : State) (d : Nat) : Bool := (s.dish d).keyNow == .clear && !inSet s.motionBlocked d

/-- R24 for a claim of the given class. -/
def State.eligibleFor (s : State) (d : Nat) (cls : ClaimClass) : Bool :=
  (if cls == .home then (s.dish d).state == .unreferenced else (s.dish d).state == .ready) && s.unblocked d

/-- R24 for a READY dish. -/
def State.eligible (s : State) (d : Nat) : Bool := (s.dish d).state == .ready && s.unblocked d

/-- Line 5 of Table 25: within 100 mdeg of stow el, and of stow az if set, by the last status. -/
def Zone.atStow (z : Zone) (last : Option Status) : Bool :=
  match last with
  | none => false
  | some st =>
    (st.el - z.stowEl).natAbs ≤ 100
      && (match z.stowAz with
          | none => true
          | some az => (st.az - az).natAbs ≤ 100)

def State.atStow (s : State) (z d : Nat) : Bool := (s.zone z).atStow (s.dish d).last

/-- Whether dish `d` is an open member of zone `z`'s wave. -/
def State.openMember (s : State) (z d : Nat) : Bool :=
  match (s.zone z).wave with
  | some w => w.members.any (fun m => m.dish == d && m.state.isOpen)
  | none => false

/-- R85: ZNC opens a STOW task at a gain of eligibility. -/
def State.autoStow (s : State) (d : Nat) : State :=
  let z := (s.dish d).zone
  if !(s.zone z).causes.isEmpty && !s.atStow z d && (s.dish d).claim.isNone && !s.openMember z d then s.openTask d .stow else s

/-- R24: a gain of motion eligibility, handed to ZNC and FBU. -/
def State.gain (s : State) (d : Nat) : State := (s.autoStow d).trigger

/-- Lines 3 to 6 of Table 25. -/
def State.assessMember (s : State) (z d : Nat) : WaveState :=
  if (s.dish d).state != .ready then .excused (.state (s.dish d).state)
  else if !s.unblocked d then .excused .locked
  else if s.atStow z d then .done
  else .waiting

/-- R80: what the end of STOPPING does to a PREEMPT_WAIT member of the dish. DESIGN CHOICE, log entry 36: a member that is assessed
EXCUSED(LOCKED) here is not handed to ACT as a LOCK_BLOCK event. -/
def State.endPreempt (s : State) (d : Nat) : State :=
  let z := (s.dish d).zone
  match (s.zone z).wave.bind (·.member d) with
  | some m =>
    if m.state != .preemptWait then s
    else
      match (s.dish d).state with
      | .ready =>
        let st := s.assessMember z d
        (if st == .waiting then s.openClaim d (.wave z) else s).setWaveMember z d st
      | .faulted => s.setWaveMember z d (.excused (.state .faulted))
      | .unreferenced => s.setWaveMember z d (.excused (.state .unreferenced))
      | .handset => s.setWaveMember z d (.aborted .handset)
      | .absent => s.setWaveMember z d (.aborted .absent)
      | _ => s
  | none => s

/-! ## Entries to dish states -/

/-- READY: the READY trigger, the end of a preemption, and the gain of eligibility where the dish is eligible (R7, R24). -/
def State.enterReady (s : State) (d : Nat) : State :=
  let s1 := ((s.modDish d (fun r => { r with state := .ready })).trigger).endPreempt d
  if s1.eligible d then s1.gain d else s1

/-- UNREFERENCED, with its HOME task (R14). -/
def State.enterUnreferenced (s : State) (d : Nat) : State :=
  ((s.modDish d (fun r => { r with state := .unreferenced })).endPreempt d).openTask d .home

/-- FAULTED: FAULT is set and ACT receives the entry; `sup` is the supervisor fault that caused it, none for a drive fault. -/
def State.enterFaulted (s : State) (d : Nat) (sup : Option SupFault) : State :=
  let s1 := s.modDish d (fun r => { r with state := .faulted, supFault := sup.getD r.supFault })
  ((s1.flag d { fault := true }).count .dishFault (some (faultBit (sup.getD .clear)))).endPreempt d

/-! ## The stop order -/

/-- The outcome a stop order gives the claim (R20). -/
inductive StopOutcome where
  | stoppedByHost | preemptedStow | lockout | estop
  deriving DecidableEq, Repr

def StopOutcome.host : StopOutcome → MemberState
  | .stoppedByHost => .stoppedByHost
  | .preemptedStow => .preemptedStow
  | .lockout => .aborted .lockout
  | .estop => .aborted .estop

def StopOutcome.wave : StopOutcome → WaveState
  | .stoppedByHost => .stoppedByHost
  | .preemptedStow => .stoppedByHost
  | .lockout => .aborted .lockout
  | .estop => .aborted .estop

/-- Whether a stop order is acted on (R20, first position). -/
def Dish.stoppable (r : Dish) : Bool :=
  match r.state with
  | .slewing => true
  | .homing => true
  | .ready => r.isAdmitted
  | .unreferenced => r.isAdmitted
  | _ => false

/-- R20: the claim closes with the outcome or the task is dropped, PBC removes the motion command and orders a STOP, the stop
timer is armed for 30 s and the dish enters STOPPING with its reservation kept. -/
def State.stopOrder (s : State) (d : Nat) (o : StopOutcome) : State :=
  if (s.dish d).stoppable then
    let s1 := s.closeClaim d o.host o.wave
    let s2 := s1.modDish d (fun r => { r with state := .stopping, timer := some { kind := .stop, due := s.now + 30000 } })
    s2.orderStop d
  else s

/-- SLS and LKT hand ACT a claim closed by an entry of kind `k` (R117, R182). -/
def State.countLock (s : State) (k : Option LockKind) : State :=
  match k with
  | some k => s.count .lockBlock (some k.bit)
  | none => s

/-- R169: the effect of a newly covering motion-blocking entry on one dish. -/
def State.newMotionBlock (s : State) (d : Nat) (kind : LockKind) : State :=
  let o : StopOutcome := if kind == .estop then .estop else .lockout
  match (s.dish d).claim with
  | none => s
  | some c =>
    match c.standing with
    | .admitted => (s.stopOrder d o).countLock (some kind)
    | .waiting =>
      match c.ref with
      | .host _ => (s.excuseClaim d .locked).countLock (some kind)
      | .wave _ => (s.excuseClaim d .locked).countLock (some kind)
      | .task => if (s.dish d).task == some .shed then (s.excuseClaim d .locked).countLock (some kind) else s

end Sys2Proof.Machine
end

