-- ==== Sys2Proof/Machine/Heating.lean ====
section
/-! DEFINITION. The Melt Controller: heater states (R144 to R150), orders and confirmation (R151, R152), allocation (R153, R154),
shed demands (R155), and the shed decision (R148). -/

namespace Sys2Proof.Machine

/-! ## Heater orders -/

/-- R151: order a stage; a raise counts at once, a reduction is kept counted until it is confirmed. -/
def State.orderStage (s : State) (d stage : Nat) : State :=
  let s1 := s.modHeater d (fun h => { h with granted := stage, counted := max h.counted stage })
  (s1.settle (s.dish d).feeder).orderHeat d stage

/-! ## Allocation -/

/-- The rank of a heater state in priority order (R153). -/
def HeaterState.rank : HeaterState → Nat
  | .melt => 0
  | .guard => 1
  | _ => 2

/-- Whether dish x strictly precedes dish y in priority order, apart from dish order, which a stable sort keeps (R153). -/
def Heater.before (x y : Heater) : Bool :=
  if x.state.rank != y.state.rank then x.state.rank < y.state.rank
  else if x.state.rank == 2 then false
  else
    match x.prioTemp, y.prioTemp with
    | some a, some b => a < b
    | some _, none => true
    | none, _ => false

/-- The dishes of a feeder that are not ABSENT, in priority order. -/
def State.priority (s : State) (f : Feeder) : List Nat :=
  sortBy (fun x y => (s.heater x).before (s.heater y))
    (s.dishNumbers.filter (fun d => (s.dish d).feeder == f && (s.dish d).state != .absent))

/-- The largest stage, from 0 up to `req`, whose power keeps the running sum within the allowance. -/
def fitStage (sum h allowance : Nat) : Nat → Nat
  | 0 => 0
  | req + 1 => if sum + (req + 1) * h ≤ allowance then req + 1 else fitStage sum h allowance req

/-- The fits of R153: a walk in priority order with a running sum. -/
def State.fits (s : State) (allowance : Nat) : Nat → List Nat → List (Nat × Nat)
  | _, [] => []
  | sum, d :: ds =>
    let h := (s.dish d).profile.h
    let fit := fitStage sum h allowance (s.heater d).requested
    (d, fit) :: State.fits s allowance (sum + fit * h) ds

/-- The largest stage above `granted`, from `fit` down, that meets the third condition of R154. -/
def raiseStage (heat counted h allowance granted : Nat) : Nat → Option Nat
  | 0 => none
  | t + 1 =>
    if t + 1 ≤ granted then none
    else if heat + (t + 1 - counted) * h ≤ allowance then some (t + 1)
    else raiseStage heat counted h allowance granted t

/-- The first two conditions of R154. -/
def FeederRec.raisesAllowed (r : FeederRec) : Bool := r.shedDemand.isNone && r.ceiling == r.limit

/-- R154 for one raise candidate. -/
def State.tryRaise (s : State) (f : Feeder) (d fit : Nat) : State :=
  let r := s.feeder f
  let h := s.heater d
  if h.granted < fit && r.raisesAllowed then
    match raiseStage r.heatCommitted h.counted (s.dish d).profile.h r.allowance h.granted fit with
    | some t => s.orderStage d t
    | none => s
  else s

/-- R153: one allocation: reductions in reverse priority order, then raises in priority order. -/
def State.allocate (s : State) (f : Feeder) : State :=
  let plan := s.fits (s.feeder f).allowance 0 (s.priority f)
  let s1 := plan.reverse.foldl (fun t (d, fit) => if fit < (t.heater d).granted then t.orderStage d fit else t) s
  plan.foldl (fun t (d, fit) => t.tryRaise f d fit) s1

/-- R136: the reductions in flight on a feeder, in watts. -/
def State.inFlight (s : State) (f : Feeder) : Nat :=
  (s.dsv.dishes.zip s.mlc.heaters).foldl
    (fun acc (d, h) => if d.feeder == f then acc + (h.counted - h.granted) * d.profile.h else acc) 0

/-- R155: cut one stage at a time from the lowest-priority grant until the reductions in flight reach the demand. -/
def State.cutStages (s : State) (f : Feeder) (demand : Nat) : Nat → State
  | 0 => s
  | fuel + 1 =>
    if demand ≤ s.inFlight f then s
    else
      match (s.priority f).reverse.find? (fun d => 0 < (s.heater d).granted && 0 < (s.dish d).profile.h) with
      | none => s
      | some d => State.cutStages ((s.orderStage d ((s.heater d).granted - 1)).count .shedStage (some f.code)) f demand fuel

/-- Apply the standing shed demand of a feeder. At most 48 dishes hold 4 stages each. -/
def State.applyDemand (s : State) (f : Feeder) : State :=
  match (s.feeder f).shedDemand with
  | some demand => s.cutStages f demand 192
  | none => s

/-- Allocation on one feeder, with a standing demand applied after it (R153, R155) and the HEAT_UNMET set reported (R162). -/
def State.allocateOn (s : State) (f : Feeder) : State := ((s.allocate f).applyDemand f).syncUnmet

/-! ## Heater state -/

/-- The stage that a temperature asks for in MELT (Table 41). -/
def Policy.band (p : Policy) (t : Int) : Nat := if p.bandHigh ≤ t then 2 else if p.bandLow ≤ t then 3 else 4

/-- The surface state that a dish takes on leaving BLOCKED or DISABLED (R144). DESIGN CHOICE, log entry 28: also while it is ABSENT, from
the last status it has kept, so that its next reply is assessed from that state and not from the OFF of R150. -/
def Heater.fromStatus (h : Heater) (p : Policy) (now : Nat) (last : Option Status) : Heater :=
  let off : Heater := { h with state := .off, requested := 0, meltEntry := none, hold := .absent }
  match last with
  | none => off
  | some st =>
    match st.surface with
    | .ice => { off with state := .melt, requested := p.band st.temp, meltEntry := some now }
    | .wet => if st.temp ≤ p.guardOn then { off with state := .guard, requested := 1 } else off
    | .sensorFail => { off with hold := .expired }
    | .dry => off

/-- Entry to BLOCKED or DISABLED (R144). -/
def Heater.shut (h : Heater) (st : HeaterState) : Heater :=
  { h with state := st, requested := 0, meltEntry := none, hold := .absent }

/-- R144 at an event that may have changed one of its inputs. -/
def Heater.gate (h : Heater) (enabled blocked : Bool) (p : Policy) (now : Nat) (last : Option Status) : Heater :=
  if !enabled then (if h.state == .disabled then h else h.shut .disabled)
  else if blocked then (if h.state == .blocked then h else h.shut .blocked)
  else if h.state == .disabled || h.state == .blocked then h.fromStatus p now last
  else h

/-- R144 on a dish's record. -/
def State.gateHeater (s : State) (d : Nat) : State :=
  let r := s.dish d
  s.modHeater d (fun h =>
    h.gate r.profile.heatEnable (inSet s.heatBlocked d || r.keyNow == .allOff) s.mlc.policy s.now r.last)

/-- R144 followed by allocation where the heater state changed. -/
def State.gateAndAllocate (s : State) (d : Nat) : State :=
  let t := s.gateHeater d
  if (t.heater d).state = (s.heater d).state then t else t.allocateOn (t.dish d).feeder

/-! ## The heater law -/

/-- R145 and R146 outside a melt completion: the record after a DRY, WET or ICE report in OFF, GUARD or MELT. -/
def Heater.law (h : Heater) (p : Policy) (now : Nat) (surface : Surface) (t : Int) : Heater :=
  let off : Heater := { h with state := .off, requested := 0 }
  let guarded : Heater := { h with state := .guard, requested := 1 }
  let melting : Heater := { h with state := .melt, requested := p.band t, meltEntry := some now }
  match h.state, surface with
  | .off, .ice => melting
  | .off, .wet => if t ≤ p.guardOn then guarded else off
  | .off, _ => off
  | .guard, .ice => melting
  | .guard, .wet => if p.guardOff ≤ t then off else guarded
  | .guard, _ => off
  | .melt, _ => { h with requested := p.band t }
  | _, _ => h

/-- Whether a DRY or WET report in MELT ends the melt (R147). -/
def Heater.meltEnds (h : Heater) (p : Policy) (now : Nat) (surface : Surface) : Bool :=
  h.state == .melt && (surface == .dry || surface == .wet)
    && (match h.meltEntry with | some t => p.minMelt * 1000 ≤ now - t | none => false)

/-- R148: the decision at a melt completion (Table 42). -/
def State.shedDecision (s : State) (d : Nat) : ShedOutcome :=
  let r := s.dish d
  if !r.profile.shedEnable then .shedDisabled
  else if (match r.last with | some st => decide (st.el ≤ r.profile.shedEl + 100) | none => false) then .notNeeded
  else if r.claim.isSome then .skippedClaim
  else if !(s.zone r.zone).causes.isEmpty then .skippedStowed
  else if r.state != .ready then .skippedNotReady
  else if !s.unblocked d then .skippedLocked
  else .created

def ShedOutcome.isSkip : ShedOutcome → Bool
  | .skippedClaim => true
  | .skippedStowed => true
  | .skippedNotReady => true
  | .skippedLocked => true
  | _ => false

/-- R147: a melt completion. -/
def State.completeMelt (s : State) (d : Nat) (st : Status) : State :=
  let o := s.shedDecision d
  let s1 := s.modHeater d (fun h =>
    { h with melts := satAdd 65535 h.melts 1, lastShed := some o,
             shedsCreated := satAdd 65535 h.shedsCreated (if o == .created then 1 else 0),
             shedsSkipped := satAdd 65535 h.shedsSkipped (if o.isSkip then 1 else 0) })
  let s2 := if o == .created then s1.openTask d .shed else s1
  let toGuard := st.surface == .wet && st.temp ≤ s.mlc.policy.guardOn
  s2.modHeater d (fun h =>
    { h with state := if toGuard then .guard else .off, requested := if toGuard then 1 else 0, meltEntry := none })

/-- R149: a SENSOR_FAIL report in OFF, GUARD or MELT. -/
def Heater.sensorFail (h : Heater) (p : Policy) (now : Nat) : Heater :=
  match h.hold with
  | .absent =>
    if p.sensorHold = 0 then { h with hold := .expired, requested := 0 }
    else { h with hold := .running (now + p.sensorHold * 1000) }
  | _ => h

def HeaterState.isSurface : HeaterState → Bool
  | .off => true
  | .guard => true
  | .melt => true
  | _ => false

/-- A report with surface state DRY, WET or ICE gives the priority temperature (Table 40). -/
def State.noteTemp (s : State) (d : Nat) (st : Status) : State :=
  if st.surface == .sensorFail then s else s.modHeater d (fun h => { h with prioTemp := some st.temp })

/-- The heater law on one valid reply (R145 to R149), with allocation after a change of requested stage, a melt completion, or a sensor
hold of 0 s, which expires as it starts. -/
def State.heaterLaw (s : State) (d : Nat) (st : Status) : State :=
  let h := s.heater d
  if !h.state.isSurface then s
  else if st.surface == .sensorFail then
    let s1 := s.modHeater d (fun h => h.sensorFail s.mlc.policy s.now)
    if h.hold = .absent && s.mlc.policy.sensorHold = 0 then s1.allocateOn (s1.dish d).feeder else s1
  else
    let s1 := s.modHeater d (fun h => { h with hold := .absent })
    if h.meltEnds s.mlc.policy s.now st.surface then (s1.completeMelt d st).allocateOn (s1.dish d).feeder
    else
      let s2 := s1.modHeater d (fun h => h.law s.mlc.policy s.now st.surface st.temp)
      if (s2.heater d).requested = h.requested then s2 else s2.allocateOn (s2.dish d).feeder

/-- R152 step 1: the applied stage confirms a reduction; the fall of heat committed is a release (R126). -/
def State.confirmStage (s : State) (d applied : Nat) : State :=
  let h := s.heater d
  if h.granted < h.counted && applied ≤ h.granted then
    (s.modHeater d (fun h => { h with counted := h.granted })).settle (s.dish d).feeder
  else s

/-- R152 step 2: a different applied stage makes MLC order the granted stage again. -/
def State.reorderStage (s : State) (d applied : Nat) : State :=
  if applied ≠ (s.heater d).granted then s.orderHeat d (s.heater d).granted else s

/-- What MLC does with the surface data, the applied stage and the key position of a valid reply (R6 step 4). -/
def State.heaterReply (s : State) (d : Nat) (st : Status) : State :=
  ((((s.noteTemp d st).gateAndAllocate d).heaterLaw d st).confirmStage d st.applied).reorderStage d st.applied

/-- R150: a declaration of absence. -/
def State.heaterAbsent (s : State) (d : Nat) : State :=
  let f := (s.dish d).feeder
  let s1 := s.modHeater d (fun h =>
    { h with state := if h.state.isSurface then .off else h.state, requested := 0, granted := 0, counted := 0,
             meltEntry := none, hold := .absent })
  (s1.settle f).allocateOn f

/-- R158: a waiting SHED task is dropped. -/
def State.dropWaitingShed (s : State) (d : Nat) : State :=
  if (s.dish d).task == some .shed && (s.dish d).isWaiting then s.excuseClaim d .locked else s

end Sys2Proof.Machine
end

