-- ==== Sys2Proof/Machine/Supervise.lean ====
section
/-! DEFINITION. The Drive Supervisor: what one valid reply, one miss, one exhaustion and one timer expiry do to a dish
(R5 to R12, R14 to R19, R21, R23). -/

namespace Sys2Proof.Machine

/-- The command result of a STATUS reply (Table 10). -/
inductive CommandResult where
  | none | accepted | refused
  deriving DecidableEq, Repr

/-- What PBC hands DSV with a valid reply (R33 step 3, R37): the frame it answers, the result, and the withdrawn mark. -/
structure Answer where
  kind : TxKind
  result : CommandResult
  withdrawn : Bool
  deriving DecidableEq, Repr

/-! ## Steps 1 to 3 of R6 -/

/-- R9: a reply showing owner LOCAL. -/
def State.enterLocal (s : State) (d : Nat) : State :=
  let s1 := (s.abortClaim d .handset).modDish d (fun r => { r with state := .handset, timer := none, supFault := .clear })
  (((s1.release d).removeMotion d).flag d { owner := true }).endPreempt d

/-- R10: owner REMOTE in LOCAL. -/
def State.leaveLocal (s : State) (d : Nat) : State :=
  (s.modDish d (fun r => { r with state := .settling, good := 1 })).flag d { owner := true }

/-- R11: a drive fault code in a state other than LOCAL and FAULTED. -/
def State.driveFault (s : State) (d : Nat) (moving : Bool) : State :=
  let s1 := (s.abortClaim d .fault).modDish d (fun r => { r with timer := none })
  let s2 := if moving then s1.orderStop d else (s1.removeMove d).release d
  s2.enterFaulted d none

/-- R6 step 1. -/
def State.assessPresence (s : State) (d : Nat) : State :=
  if (s.dish d).state == .absent then
    (s.modDish d (fun r => { r with state := .settling, good := 1 })).flag d { presence := true }
  else s

/-- R6 step 2, with R12 for a FAULTED dish; `prev` is the last status before this reply. -/
def State.assessOwner (s : State) (d : Nat) (prev : Option Status) (st : Status) : State :=
  match (s.dish d).state with
  | .handset => if st.owner == .remote then s.leaveLocal d else s
  | .faulted =>
    let s1 := if st.owner == .handset then s.release d else s
    match prev with
    | some p => if p.owner != st.owner then s1.flag d { owner := true } else s1
    | none => s1
  | _ => if st.owner == .handset then s.enterLocal d else s

/-- R6 step 3. A dish that is LOCAL is not assessed; in FAULTED a changed code sets FAULT (R12). `wasFaulted` says that the dish
was FAULTED when the step began. -/
def State.assessFault (s : State) (d : Nat) (prev : Option Status) (st : Status) : State :=
  match (s.dish d).state with
  | .handset => s
  | .faulted =>
    match prev with
    | some p => if p.fault ≠ st.fault then s.flag d { fault := true } else s
    | none => s
  | _ => if st.fault ≠ 0 then s.driveFault d st.moving else s

/-! ## Step 4: key and surface -/

/-- R23: the key leaves NONE. A claim is stopped if admitted and excused or dropped if waiting; HOME and STOW tasks are held. -/
def State.keyLeavesNone (s : State) (d : Nat) : State :=
  let kind := s.blockingKind d
  match (s.dish d).claim with
  | none => s
  | some c =>
    let counted := match c.ref with | .host _ => kind | _ => none
    match c.standing with
    | .admitted => (s.stopOrder d .lockout).countLock counted
    | .waiting =>
      match c.ref with
      | .task => if (s.dish d).task == some .shed then s.excuseClaim d .locked else s
      | _ => (s.excuseClaim d .locked).countLock counted

/-- R23, R24: the key returns to NONE. -/
def State.keyReturns (s : State) (d : Nat) : State :=
  if s.eligible d then s.gain d
  else if (s.dish d).state == .unreferenced && (s.dish d).task == some .home && s.unblocked d then s.trigger
  else s

/-- R23: a change of key position between two replies. -/
def State.assessKey (s : State) (d : Nat) (prev : Option Status) (st : Status) : State :=
  match prev with
  | none => s
  | some p =>
    if p.key = st.key then s
    else
      let s1 := s.flag d { key := true }
      if p.key = .clear then s1.keyLeavesNone d
      else if st.key = .clear then s1.keyReturns d
      else s1

/-- R109, R110: a change of surface state reaches the waiting host member of the dish. Clearing a mark gives a trigger: for a
GANG record when its last mark is cleared. -/
def State.iceHold (s : State) (d : Nat) (ice : Bool) : State :=
  match (s.dish d).claim with
  | some { ref := .host id, standing := .waiting, .. } =>
    match (s.record id).bind (·.member d) with
    | some m =>
      if m.ice == ice then s
      else
        let s1 := s.modRecord id (·.modMember d (fun m => { m with ice := ice }))
        if ice then s1
        else
          match s1.record id with
          | some r =>
            if r.mode == .gang && r.members.any (fun m => m.state == .waiting && m.ice) then s1 else s1.trigger
          | none => s1
    | none => s
  | _ => s

/-- R6 step 4 for the surface: SURFACE on a change from the previous reply, and the ice hold. -/
def State.assessSurface (s : State) (d : Nat) (prev : Option Status) (st : Status) : State :=
  match prev with
  | none => s
  | some p => if p.surface = st.surface then s else (s.flag d { surface := true }).iceHold d (st.surface == .ice)

/-! ## Step 5: motion -/

/-- R7: settling completes on the good reply that brings the count to N_settle or above. -/
def State.settleTest (s : State) (d : Nat) (st : Status) : State :=
  if s.dsv.nSettle ≤ (s.dish d).good then
    if st.referenced then s.enterReady d else s.enterUnreferenced d
  else s

/-- R14, R17: the drive refused a MOVE or HOME. -/
def State.driveRefused (s : State) (d : Nat) : State :=
  ((s.abortClaim d .driveRefused).release d).enterFaulted d (some .driveRefused)

/-- R14: HOME accepted. -/
def State.homeAccepted (s : State) (d : Nat) : State :=
  s.modDish d (fun r =>
    { r with state := .homing, timer := some { kind := .home, due := s.now + s.dsv.homeTimeout * 1000 } })

/-- R15: homing completes, or a referenced idle reply is taken in UNREFERENCED. -/
def State.homeDone (s : State) (d : Nat) : State :=
  let s1 := ((s.modDish d Dish.dropClaim).modDish d (fun r => { r with timer := none })).removeMove d
  let s2 := if (s.dish d).isWaiting then s1.trigger else s1
  (s2.release d).enterReady d

/-- R17: MOVE accepted. The slew timer is armed with the slew timeout handed at admission. -/
def State.moveAccepted (s : State) (d seq : Nat) : State :=
  let s1 := s.modDish d (fun r =>
    { r with state := .slewing, acceptedSeq := some seq,
             claim := r.claim.map (fun c => { c with running := true }),
             timer := some { kind := .slew, due := s.now + r.slewTimeout.getD 0 * 100 } })
  match (s.dish d).claim with
  | some { ref := .host id, .. } => s1.modRecord id (·.modMember d (fun m => { m with running := true }))
  | _ => s1

/-- R16: reference lost in READY. -/
def State.referenceLost (s : State) (d : Nat) : State :=
  let r := s.dish d
  let s1 :=
    if r.isAdmitted then ((s.abortClaim d .fault).removeMove d).release d
    else s.excuseClaim d (.state .unreferenced)
  s1.enterUnreferenced d

/-- R18: the slew completes. A dish that lost its reference while moving is assessed by R16 as it reaches READY. -/
def State.slewDone (s : State) (d : Nat) (st : Status) : State :=
  let shed := (s.dish d).task == some .shed
  let s1 := if shed then s.modHeater d (fun h => { h with shedsDone := satAdd 65535 h.shedsDone 1 }) else s
  let s2 := ((s1.closeClaim d .done .done).modDish d (fun r => { r with timer := none })).release d
  let s3 := s2.enterReady d
  if st.referenced then s3 else s3.referenceLost d

/-- R21: an idle reply ends a stop. -/
def State.stopEnds (s : State) (d : Nat) (st : Status) : State :=
  let s1 := (s.modDish d (fun r => { r with timer := none })).release d
  if (s.dish d).supFault == .slewTimeout then s1.enterFaulted d (some .slewTimeout)
  else if st.referenced then s1.enterReady d
  else s1.enterUnreferenced d

/-- The result that counts for the state rules: none for a withdrawn command (R17, R37). -/
def Answer.effective (a : Answer) : CommandResult := if a.withdrawn then .none else a.result

/-- R6 step 5: the state rule of the state that the dish is now in. A dish that step 3 made FAULTED meets the idle test of R12 alone.
DESIGN CHOICE, log entry 9, for two rules at once: in UNREFERENCED the result of a HOME, ACCEPTED or REFUSED, goes before the direct entry
to READY of R15, and in READY the result of a MOVE before the loss of reference of R16. -/
def State.assessMotion (s : State) (d : Nat) (st : Status) (a : Answer) : State :=
  let r := s.dish d
  match r.state with
  | .settling => s.settleTest d st
  | .unreferenced =>
    match a.kind, a.effective with
    | .home, .accepted => if r.isAdmitted then s.homeAccepted d else s
    | .home, .refused => if r.isAdmitted then s.driveRefused d else s
    | _, _ => if st.referenced && !st.moving then s.homeDone d else s
  | .homing => if st.referenced && !st.moving then s.homeDone d else s
  | .ready =>
    match a.kind, a.effective with
    | .move seq, .accepted => if r.isAdmitted then s.moveAccepted d seq else s
    | .move _, .refused => if r.isAdmitted then s.driveRefused d else s
    | _, _ => if st.referenced then s else s.referenceLost d
  | .slewing => if st.inPosition && r.acceptedSeq == some st.echo then s.slewDone d st else s
  | .stopping => if st.moving then s else s.stopEnds d st
  | .faulted => if st.moving then s else s.release d
  | .absent => s
  | .handset => s

/-! ## Replies and misses -/

/-- R5, R6: one valid reply. -/
def State.takeReply (s : State) (d : Nat) (st : Status) (a : Answer) : State :=
  let prev := (s.dish d).last
  let s0 := s.modDish d (fun r =>
    { r with last := some st, lastGood := some s.now, miss := 0, good := if r.state == .settling then satAdd 50 r.good 1 else r.good })
  let s2 := (s0.assessPresence d).assessOwner d prev st
  let s3 := s2.assessFault d prev st
  let s4 := ((s3.assessKey d prev st).assessSurface d prev st).heaterReply d st
  s4.assessMotion d st a

/-- R8: a dish is declared ABSENT. -/
def State.declareAbsent (s : State) (d : Nat) : State :=
  let s1 := (s.abortClaim d .absent).modDish d (fun r => { r with state := .absent, timer := none, supFault := .clear })
  ((((s1.release d).clearSlots d).heaterAbsent d).flag d { presence := true }).endPreempt d

/-- R5, R8: one miss, and the test for absence. -/
def State.takeMiss (s : State) (d : Nat) : State :=
  let s1 := s.modDish d (fun r =>
    { r with miss := satAdd 65535 r.miss 1, good := if r.state == .settling then 0 else r.good })
  let r := s1.dish d
  if r.state != .absent && s1.dsv.nMiss ≤ r.miss && (match r.lastGood with | some t => decide (2000 ≤ s1.now - t) | none => true)
  then s1.declareAbsent d
  else s1

/-- A task whose retries are exhausted returns to waiting, its reservation released (R14, R17). DESIGN CHOICE, log entry 34: a STOW task
also where its zone's cause set has become empty since its admission. -/
def State.taskWaitsAgain (s : State) (d : Nat) : State :=
  ((s.modDish d (fun r =>
    { r with claim := r.claim.map (fun c => { c with standing := .waiting, running := false }), slewTimeout := none })).release d).trigger

/-- R14, R17: exhaustion of a MOVE or HOME. -/
def State.exhausted (s : State) (d : Nat) : State :=
  let r := s.dish d
  match r.claim with
  | some { ref := .task, standing := .admitted, .. } => s.taskWaitsAgain d
  | some { standing := .admitted, .. } => (s.abortClaim d .link).release d
  | _ => s

/-! ## Timer expiries -/

/-- R19. -/
def State.slewTimeoutOn (s : State) (d : Nat) : State :=
  ((s.abortClaim d .timeout).modDish d (fun r =>
    { r with state := .stopping, supFault := .slewTimeout, timer := some { kind := .stop, due := s.now + 30000 } })).orderStop d

/-- R15: expiry of the home timer. -/
def State.homeTimeoutOn (s : State) (d : Nat) : State :=
  (((s.abortClaim d .timeout).modDish d (fun r => { r with timer := none })).orderStop d).enterFaulted d (some .homeTimeout)

/-- R21: expiry of the stop timer. -/
def State.stopTimeoutOn (s : State) (d : Nat) : State :=
  (s.modDish d (fun r => { r with timer := none })).enterFaulted d (some .stopTimeout)

end Sys2Proof.Machine
end

