-- ==== Sys2Proof/Machine/Frames.lean ====
section
/-! DEFINITION. The frames of both links: Pedestal frames and the classification of replies (R30, R32), and the bodies of replies
and notices with their segments (R196, R211). -/

namespace Sys2Proof.Machine

/-! ## Pedestal frames (R29, R30, Frame Layouts) -/

/-- A frame: the marked address character, then kind, body and CRC with the mark clear; the address is outside the CRC. -/
def plFrame (address kind : Nat) (body : List Byte) : List PlChar :=
  let covered := BitVec.ofNat 8 kind :: body
  { mark := true, byte := BitVec.ofNat 8 address }
    :: (covered ++ le 2 (crc16 covered).toNat).map (fun b => { mark := false, byte := b })

/-- The body of a MOVE frame. -/
def moveBody (seq : Nat) (az el : Int) (rateAz rateEl accAz accEl : Nat) : List Byte :=
  le 1 seq ++ leInt 4 az ++ leInt 4 el ++ le 2 rateAz ++ le 2 rateEl ++ le 2 accAz ++ le 2 accEl

/-- The number of characters of a complete reply: address, kind, 17 body bytes and CRC (R31, note 3 of Table 10). -/
def replyLength : Nat := 21

def keyOf : Nat → Option Key
  | 0 => some .clear
  | 1 => some .driveOff
  | 2 => some .allOff
  | _ => none

def surfaceOf : Nat → Option Surface
  | 0 => some .dry
  | 1 => some .wet
  | 2 => some .ice
  | 3 => some .sensorFail
  | _ => none

def resultOf : Nat → Option CommandResult
  | 0 => some .none
  | 1 => some .accepted
  | 2 => some .refused
  | _ => none

/-- Check 5 of R32: the fields of a 17-byte STATUS body, none where a field is outside its range. The angles and the temperature
are held to the ranges of Table 1 (DEDUCED, log entry 8). -/
def readStatus (body : List Byte) : Option (Status × CommandResult) :=
  let az := unLeInt (body.take 4)
  let el := unLeInt ((body.drop 4).take 4)
  let flags := body.getD 8 0
  let echo := (body.getD 9 0).toNat
  let temp := unLeInt ((body.drop 12).take 2)
  let stage := (body.getD 15 0).toNat
  match keyOf (body.getD 10 0).toNat, surfaceOf (body.getD 14 0).toNat, resultOf (body.getD 16 0).toNat with
  | some key, some surface, some result =>
    if flags.toNat < 16 && echo ≤ 15 && stage ≤ 4 && azOk az && elOk el && tempOk temp then
      some ({ az := az, el := el, moving := flags.getLsbD 0, inPosition := flags.getLsbD 1, echo := echo,
              referenced := flags.getLsbD 2, owner := if flags.getLsbD 3 then .handset else .remote, key := key,
              fault := (body.getD 11 0).toNat, temp := temp, surface := surface, applied := stage }, result)
    else none
  | _, _, _ => none

/-- The kinds of miss, in the qualifier order of Table 53. -/
inductive MissKind where
  | noReply | check | stray
  deriving DecidableEq, Repr

def MissKind.bit : MissKind → Nat
  | .noReply => 0
  | .check => 1
  | .stray => 2

/-- How an addressed transaction ended: a valid reply or a miss. -/
inductive Ending where
  | valid (st : Status) (result : CommandResult)
  | miss (k : MissKind)
  deriving DecidableEq, Repr

/-- Check 6 of R32: whether the command result fits the frame. -/
def resultFits (k : TxKind) (echo : Nat) (r : CommandResult) : Bool :=
  match k, r with
  | .move seq, .accepted => echo == seq
  | .move _, .refused => true
  | .home, .accepted => true
  | .home, .refused => true
  | .move _, .none => false
  | .home, .none => false
  | _, .none => true
  | _, _ => false

/-- R32: the classification of a reply; `complete` is false when a gap ended it. -/
def classify (station : Nat) (k : TxKind) (chars : List PlChar) (complete : Bool) : Ending :=
  match chars with
  | [] => .miss .noReply
  | first :: rest =>
    let bytes := rest.map (·.byte)
    if !first.mark then .miss .check
    else if first.byte.toNat ≠ station then .miss .stray
    else if bytes.head? != some 0x10#8 || !complete then .miss .check
    else if unLe (bytes.drop 18) ≠ (crc16 (bytes.take 18)).toNat then .miss .check
    else
      match readStatus ((bytes.drop 1).take 17) with
      | none => .miss .check
      | some (st, r) => if resultFits k st.echo r then .valid st r else .miss .check

/-! ## Fields of replies and notices (R211) -/

def Excuse.code : Excuse → Nat
  | .state st => st.ctorIdx + 1
  | .locked => 10
  | .zoneStowed => 11
  | .busy => 12

def Abort.code (a : Abort) : Nat := a.ctorIdx + 1

def MemberState.reason : MemberState → Nat
  | .excused w => w.code
  | .aborted w => w.code
  | _ => 0

def WaveState.reason : WaveState → Nat
  | .excused w => w.code
  | .aborted w => w.code
  | _ => 0

def SlewMode.code (m : SlewMode) : Nat := m.ctorIdx

/-- A selector as in JOINT_SLEW. -/
def selectorBytes : Selector → List Byte
  | .group n => le 1 0 ++ le 1 n
  | .dishes ds => le 1 1 ++ le 6 ds.toNat

def hostMemberBytes (m : HostMember) : List Byte :=
  le 1 m.dish ++ le 1 m.state.ctorIdx ++ le 1 m.state.reason ++ flagByte m.ice ++ optional m.demand (le 2) ++ optional m.estimate (le 4)

/-- A member in a SLEW_STATUS reply: the SLEW_DONE member with its running mark after the ice-hold mark (R115, log entry 13). -/
def hostMemberNowBytes (m : HostMember) : List Byte :=
  le 1 m.dish ++ le 1 m.state.ctorIdx ++ le 1 m.state.reason ++ flagByte m.ice ++ flagByte m.running ++ optional m.demand (le 2)
    ++ optional m.estimate (le 4)

def waveMemberBytes (m : WaveMember) : List Byte := le 1 m.dish ++ le 1 m.state.ctorIdx ++ le 1 m.state.reason

def slewDoneBytes (r : SlewDone) : List Byte :=
  le 1 r.id ++ le 1 r.mode.code ++ selectorBytes r.selector ++ leInt 4 r.az ++ leInt 4 r.el ++ optional r.rateAz (le 2)
    ++ optional r.rateEl (le 2) ++ optional r.deadline (le 2) ++ le 2 r.elapsed ++ listed r.members hostMemberBytes
    ++ le 1 r.counts.done ++ le 1 r.counts.excused ++ le 1 r.counts.preemptedStow ++ le 1 r.counts.aborted
    ++ le 1 r.counts.stoppedByHost ++ le 1 r.counts.cancelled ++ le 1 r.counts.expired

def dishFlagsBytes (x : Nat × ChangeFlags) : List Byte := le 1 x.1 ++ le 1 x.2.code

/-- Frame Layouts, Lockout entry. An EMPTY entry carries its index, its state and the line level; other fields are absent. -/
def lockBytes (r : LockReport) : List Byte :=
  let e := r.entry
  if e.state == .empty then le 1 r.index ++ le 1 0 ++ flagByte r.level
  else
    le 1 r.index ++ le 1 e.state.ctorIdx ++ le 1 (match e.kind with | some k => k.bit | none => 0) ++ optional e.holder (le 2)
      ++ le 6 e.scope.toNat ++ le 1 (bitsToNat [e.motion, e.heat]) ++ optional e.note noteBytes ++ optional e.stamp (le 4)
      ++ optional e.releaseStamp (le 4) ++ flagByte e.persisted
      ++ optional r.op (fun o => le 1 o.1.ctorIdx ++ le 1 (if o.2 then 1 else 0)) ++ flagByte r.level

/-- Frame Layouts, Zone status. -/
def zoneBytes (r : ZoneReport) : List Byte :=
  le 1 r.zone ++ le 1 r.state.ctorIdx ++ le 1 r.causes.code ++ le 1 (r.source.getD 0) ++ le 1 r.condition.ctorIdx
    ++ le 1 r.active.ctorIdx ++ optional r.releaseLeft (le 2) ++ flagByte r.waveOpen ++ le 1 r.waiting ++ le 1 r.preemptWait
    ++ le 1 r.admitted ++ optional r.lastOutcome (fun l => listed l waveMemberBytes)

def waitsBytes (w : WaitCounts) : List Byte := le 1 w.stow ++ le 1 w.home ++ le 1 w.observe ++ le 1 w.shed

def feederBytes (r : FeederReport) : List Byte :=
  le 1 r.feeder.code ++ le 4 r.limit ++ le 4 r.reserve ++ le 4 r.heatCap ++ le 4 r.ceiling ++ flagByte r.above ++ le 4 r.slewCommitted
    ++ le 4 r.heatCommitted ++ le 4 r.committed ++ le 4 r.allowance ++ optional r.shedDemand (le 4) ++ waitsBytes r.waits

/-- A counter as its notice and COUNTER_SET's reply carry it (R183, R186). -/
def counterBytes (r : CounterReport) : List Byte :=
  le 1 r.counter ++ optional r.record.cls (fun c => le 1 c.ctorIdx) ++ optional r.record.quals (fun m => [m]) ++ le 1 r.record.mode.ctorIdx
    ++ le 4 r.record.value ++ optional r.record.threshold (le 4) ++ flagByte r.record.overflow ++ flagByte r.record.notified

/-- A counter of a COUNTER_READ reply, which alone tells whether the condition of a DURATION counter holds (R187). -/
def counterReadBytes (r : CounterReport) : List Byte := counterBytes r ++ optional r.holds flagByte

def statusBytes (x : Status) : List Byte :=
  leInt 4 x.az ++ leInt 4 x.el
    ++ le 1 (bitsToNat [x.moving, x.inPosition, x.referenced, x.owner == .handset]) ++ le 1 x.echo ++ le 1 x.key.ctorIdx ++ le 1 x.fault
    ++ leInt 2 x.temp ++ le 1 x.surface.ctorIdx ++ le 1 x.applied

def standingByte (x : Standing) : List Byte := le 1 x.ctorIdx

def claimReportBytes : ClaimReport → List Byte
  | .host id d st => le 1 0 ++ le 1 id ++ le 1 d ++ standingByte st
  | .wave z st => le 1 1 ++ le 1 z ++ standingByte st
  | .task k st => le 1 2 ++ le 1 k.ctorIdx ++ standingByte st

def dishReportBytes (r : DishReport) : List Byte :=
  le 1 r.dish ++ le 1 r.state.ctorIdx ++ le 1 r.supFault.ctorIdx ++ le 1 r.flags.code ++ le 1 r.good ++ le 2 r.miss
    ++ optional r.sinceGood (le 2) ++ optional r.last statusBytes ++ optional r.reservation (le 2) ++ optional r.claim claimReportBytes
    ++ optional r.timer (fun t => le 1 t.1.ctorIdx ++ le 4 t.2) ++ optional r.governing (le 1)

def perClassBytes (n : Nat) (x : PerClass) : List Byte :=
  le n x.zone ++ le n x.lockout ++ le n x.dishChange ++ le n x.slewDone ++ le n x.budget ++ le n x.counter ++ le n x.system

/-- R201. DESIGN CHOICE, log entry 13: the flow state is coded 0 GO, 1 HOLD. -/
def linkReportBytes (r : LinkReport) : List Byte :=
  let c := r.counts
  le 4 c.received ++ le 4 c.badCrc ++ le 4 c.badLength ++ le 4 c.gap ++ le 4 c.framing ++ le 4 c.tagErrors ++ le 4 c.refusedUnknownKind
    ++ le 4 c.refusedBadLength ++ le 4 c.refusedBusy ++ le 4 c.taken ++ le 4 c.replyDrops ++ le 4 c.repliesSent
    ++ perClassBytes 4 c.noticesSent ++ le 1 r.queued ++ le 1 r.flow.ctorIdx ++ le 1 r.replies ++ perClassBytes 1 r.pending
    ++ enablesBytes r.enables ++ le 4 r.totals.transactions ++ le 4 r.totals.noReply ++ le 4 r.totals.check ++ le 4 r.totals.stray
    ++ le 4 r.totals.retries ++ le 4 r.totals.exhaustions

/-- R115. DESIGN CHOICE, log entry 38: the completion time has no stated top; its four bytes are its value modulo 2³². -/
def slewReportBytes (r : SlewReport) : List Byte :=
  le 1 r.id ++ flagByte r.complete ++ le 1 r.mode.code ++ selectorBytes r.selector ++ leInt 4 r.az ++ leInt 4 r.el ++ optional r.rateAz (le 2)
    ++ optional r.rateEl (le 2) ++ optional r.deadline (le 2) ++ le 2 r.age ++ optional r.deadlineLeft (le 2) ++ optional r.completion (le 4)
    ++ listed r.members hostMemberNowBytes

def queueRowBytes (r : QueueRow) : List Byte :=
  le 1 r.id ++ le 1 r.mode.code ++ flagByte r.complete ++ le 1 r.members ++ le 1 r.waiting ++ le 1 r.iceHeld ++ le 1 r.admitted
    ++ optional r.deadlineLeft (le 2)

def feederStatusBytes (r : FeederStatusReport) : List Byte :=
  feederBytes r.report ++ flagByte r.passDue
    ++ listed r.reservations (fun x => le 1 x.dish ++ le 2 x.watts ++ optional x.cls (fun c => le 1 c.bit))
    ++ listed r.heaters (fun x => le 1 x.dish ++ le 1 x.counted ++ le 1 x.granted)

/-- One entry of a MAST_STATUS reply. DESIGN CHOICE, log entry 13: the entry begins with the mast's number, and the window stands behind a
presence byte; R65 lists neither. -/
def mastReportBytes (r : MastReportOut) : List Byte :=
  le 1 r.mast ++ le 1 r.state.ctorIdx ++ le 2 r.gain ++ le 1 r.offset ++ optional r.lastSeq (le 1)
    ++ optional r.lastReport (fun x => le 1 x.ctorIdx) ++ optional r.since (le 2) ++ le 1 r.samples ++ optional r.newest (le 2)
    ++ optional r.largest (le 2) ++ optional r.gust (le 2) ++ optional r.sustained (le 2) ++ optional r.peak (le 2) ++ le 1 r.validRun
    ++ le 1 r.missedRun ++ le 4 r.valid ++ le 4 r.missed ++ le 4 r.duplicates ++ le 4 r.rejected
    ++ optional r.window (fun l => listed l (le 2))

/-- R88. DESIGN CHOICE, log entry 38: the wave's creation time has no stated top; its four bytes are its value modulo 2³². -/
def zoneStatusBytes (r : ZoneStatusReport) : List Byte :=
  zoneSettingsBytes r.settings ++ zoneBytes r.report ++ optional r.gust (le 2) ++ optional r.sustained (le 2)
    ++ optional r.wave (fun w => le 4 w.1 ++ listed w.2 waveMemberBytes)

/-- A sensor hold, with its remaining seconds (0..3600, Table 39) while it runs (R161, log entry 13). -/
def holdBytes : SensorHold → List Byte
  | .absent => le 1 0
  | .running due => le 1 1 ++ le 2 due
  | .expired => le 1 2

/-- One dish of a HEAT_STATUS reply. DESIGN CHOICE, log entry 13: the last shed outcome is one byte 0..6 in the order of Table 42, the reason
of a skip folded in, behind a presence byte. -/
def heatDishBytes (r : HeatDishReport) : List Byte :=
  le 1 r.dish ++ le 1 r.state.ctorIdx ++ le 1 r.requested ++ le 1 r.granted ++ le 1 r.counted ++ optional r.applied (le 1)
    ++ optional r.prioTemp (leInt 2) ++ optional r.inMelt (le 2) ++ holdBytes r.hold ++ optional r.lastShed (fun x => le 1 x.ctorIdx)
    ++ optional r.shedTask standingByte ++ le 2 r.melts ++ le 2 r.shedsCreated ++ le 2 r.shedsSkipped ++ le 2 r.shedsDone

def heatFeederBytes (r : HeatFeederReport) : List Byte :=
  le 1 r.feeder.code ++ le 4 r.allowance ++ le 4 r.heatCommitted ++ le 4 r.inFlight ++ optional r.shedDemand (le 4) ++ le 1 r.unmet
    ++ flagByte r.raisesAllowed

def trackRefBytes : TrackRef → List Byte
  | .host id => le 1 0 ++ le 1 id
  | .wave z => le 1 1 ++ le 1 z

/-- R189. DESIGN CHOICE, log entry 38: the two times before the read have no stated top; their four bytes are their values modulo 2³². -/
def timingBytes (r : TimingReport) : List Byte :=
  le 1 r.state.ctorIdx ++ le 1 (bitsToNat [r.stow, r.observe]) ++ optional r.ref trackRefBytes ++ optional r.createdAgo (le 4)
    ++ optional r.admittedAgo (le 4) ++ le 4 r.waitTotal ++ le 4 r.runTotal ++ le 4 r.count ++ le 4 r.unadmitted ++ le 4 r.untracked
    ++ flagByte r.overflow

/-- R200. DESIGN CHOICE, log entry 38: the time since the last RESTART reset has no stated top; its four bytes are its value modulo 2³². -/
def identityBytes (r : Identity) : List Byte :=
  le 4 r.partCode ++ le 4 r.hardwareRevision ++ le 4 r.protocolVersion ++ le 1 r.stations ++ flagByte r.defaulted ++ flagByte r.restarting
    ++ le 4 r.uptime ++ optional r.sinceRestart (le 4)

def excusalBytes (x : Nat × Excuse) : List Byte := le 1 x.1 ++ le 1 x.2.code

/-- The contents of a success reply, in the order of its rule and in the encodings of R211. DESIGN CHOICE, log entry 13, where Frame Layouts
gives no table: the codes of clamped fields, the clamped marks after the values in force, the group number before the dish set of a
GROUP_SET reply, and the rows of BANK_READ without a count and without zone numbers, among them. -/
def Contents.bytes : Contents → List Byte
  | .accepted => []
  | .identity r => identityBytes r
  | .link r => linkReportBytes r
  | .enables e => enablesBytes e
  | .dishes l => listed l dishReportBytes
  | .stops l => listed l (fun x => le 1 x.1 ++ le 1 x.2.ctorIdx)
  | .flags l => listed l dishFlagsBytes
  | .clamped l => listed l (fun x => le 1 x.ctorIdx)
  | .slewAccepted r =>
    le 1 r.id ++ listed r.excusals excusalBytes ++ le 1 r.waiting ++ le 1 r.iceHeld ++ flagByte r.clampAz ++ flagByte r.clampEl
      ++ flagByte r.clampDeadline
  | .cancelled c st cl => le 1 c ++ le 1 st ++ le 1 cl
  | .slewStatus r => slewReportBytes r
  | .queue records free lastId rows => le 1 records ++ le 1 free ++ le 1 lastId ++ listed rows queueRowBytes
  | .group n ds => le 1 n ++ le 6 ds.toNat
  | .groups l => listed l (fun x => le 1 x.1 ++ le 6 x.2.toNat)
  | .feederSet limit reserve heatCap ceiling rc hc => le 4 limit ++ le 4 reserve ++ le 4 heatCap ++ le 4 ceiling ++ flagByte rc ++ flagByte hc
  | .feeders l => listed l feederStatusBytes
  | .mastSet gain offset cut => le 2 gain ++ le 1 offset ++ flagByte cut
  | .masts l => listed l mastReportBytes
  | .zoneSet st cut => zoneSettingsBytes st ++ flagByte cut
  | .zones l => listed l zoneStatusBytes
  | .bank rows active => rows.flatMap rowBytes ++ le 1 active.ctorIdx
  | .causes c => le 1 c.code
  | .policy p => policyBytes p
  | .heatChanged l => listed l (fun x => le 1 x.1 ++ le 1 x.2.ctorIdx)
  | .heat p ds fs => policyBytes p ++ listed ds heatDishBytes ++ listed fs heatFeederBytes
  | .placed i dup => flagByte dup.isSome ++ le 1 i ++ (match dup with | some persisted => flagByte persisted | none => [])
  | .amended i ds => le 1 i ++ le 6 ds.toNat
  | .released i => le 1 i
  | .indices l => listed l (le 1)
  | .entries l => listed l lockBytes
  | .counter r => counterBytes r
  | .counters l => listed l counterReadBytes
  | .cleared l => listed l (fun x => le 1 x.1 ++ le 4 x.2.1 ++ flagByte x.2.2)
  | .timing r => timingBytes r

/-- The reason byte of a code: 1..17 in the order of Table 57 (R211). -/
def Reason.code (r : Reason) : Nat := r.ctorIdx + 1

/-- A reply's reason byte and contents. STORE_FAILED carries the entry's index where the write was one of LKT (R171) and nothing for a
settings save (R196, R205). -/
def Result.bytes : Result → List Byte
  | .ok c => le 1 0 ++ c.bytes
  | .refused r => le 1 r.code
  | .noEligible l => le 1 Reason.noEligible.code ++ listed l excusalBytes
  | .storeFailed i => le 1 Reason.storeFailed.code ++ (match i with | some i => le 1 i | none => [])

/-- A notice's contents. The SYSTEM notice carries the event RESTARTED and the SETTINGS_DEFAULTED flag (R198). DESIGN CHOICE, log entry 13:
the event is one byte 0 before the flag; no table enumerates SYSTEM events for R211. -/
def Notice.bytes : Notice → List Byte
  | .zone r => zoneBytes r
  | .lockout r => lockBytes r
  | .dishChange l => listed l dishFlagsBytes
  | .slewDone r => slewDoneBytes r
  | .budget r => feederBytes r
  | .counter r => counterBytes r
  | .system d => le 1 0 ++ flagByte d

/-! ## Segments (R196, R211) -/

/-- Cut a run of bytes into pieces of at most `n`; `fuel` bounds the number of pieces. -/
def pieces (n : Nat) : Nat → List Byte → List (List Byte)
  | 0, _ => []
  | fuel + 1, l => if l.length ≤ n then [l] else l.take n :: pieces n fuel (l.drop n)

/-- The bodies of the segment frames of a reply or notice: segment number, last-segment mark, then at most 1022 bytes. DESIGN CHOICE, log
entry 37: where R211 leaves the cut open, every segment but the last is filled, also inside an entry of a list. -/
def segmentsOf (payload : List Byte) : List (List Byte) :=
  let parts := pieces 1022 (payload.length + 1) payload
  (List.range parts.length).map (fun i => le 1 i ++ flagByte (i + 1 == parts.length) ++ parts.getD i [])

end Sys2Proof.Machine
end

