-- ==== Sys2Proof/Machine/Operands.lean ====
section
/-! DEFINITION. The operands of a request: the layouts of the 44 request bodies (R211, Frame Layouts) and the reading of a received
body. A body that no layout allows reads as none, which is BAD_LENGTH (R193). -/

namespace Sys2Proof.Machine

/-- A reader takes bytes from the front of a body; none where the body does not fit the layout. -/
abbrev Reader (α : Type) := StateT (List Byte) Option α

def takeBytes (n : Nat) : Reader (List Byte) := fun l => if n ≤ l.length then some (l.take n, l.drop n) else none

/-- An unsigned number of `n` bytes. -/
def num (n : Nat) : Reader Nat := do return unLe (← takeBytes n)

/-- A signed number of `n` bytes. -/
def snum (n : Nat) : Reader Int := do return unLeInt (← takeBytes n)

/-- A yes or no byte: 0 is no (log entry 6). -/
def yesNo : Reader Bool := do return (← num 1) != 0

/-- A one-byte small set. -/
def mask : Reader Mask := do return BitVec.ofNat 8 (← num 1)

/-- A dish set of six bytes. -/
def dishSet : Reader DishSet := do return BitVec.ofNat 48 (← num 6)

/-- An optional field: presence 0 or 1; any other presence byte fails. -/
def opt {α : Type} (r : Reader α) : Reader (Option α) := do
  match ← num 1 with
  | 0 => return none
  | 1 => return some (← r)
  | _ => fun _ => none

/-- A note: a length byte, then the characters. A note longer than 32 is the owner's to refuse (R167, log entry 6). -/
def note : Reader (List Byte) := do takeBytes (← num 1)

/-- A JOINT_SLEW selector: type 0 group, 1 set; any other type fails. -/
def selector : Reader Selector := do
  match ← num 1 with
  | 0 => return .group (← num 1)
  | 1 => return .dishes (← dishSet)
  | _ => fun _ => none

def slewArgs : Reader SlewArgs := do
  let az ← snum 4
  let el ← snum 4
  let rateAz ← opt (num 2)
  let rateEl ← opt (num 2)
  let deadline ← opt (num 2)
  return { az, el, rateAz, rateEl, deadline }

def profileEdit : Reader ProfileEdit := do
  let bSlew ← opt (num 2)
  let bHome ← opt (num 2)
  let c ← opt (num 1)
  let dmax ← opt (num 2)
  let h ← opt (num 2)
  let vmaxAz ← opt (num 2)
  let vmaxEl ← opt (num 2)
  let aAz ← opt (num 2)
  let aEl ← opt (num 2)
  let shedEl ← opt (snum 4)
  let shedEnable ← opt yesNo
  let heatEnable ← opt yesNo
  return { bSlew, bHome, c, dmax, h, vmaxAz, vmaxEl, aAz, aEl, shedEl, shedEnable, heatEnable }

def supervisionEdit : Reader SupervisionEdit := do
  let nSettle ← opt (num 1)
  let nMiss ← opt (num 1)
  let homeTimeout ← opt (num 2)
  let replyWindow ← opt (num 1)
  return { nSettle, nMiss, homeTimeout, replyWindow }

def enableEdit : Reader EnableEdit := do
  let zone ← opt yesNo
  let lockout ← opt yesNo
  let dishChange ← opt yesNo
  let slewDone ← opt yesNo
  let budget ← opt yesNo
  let counter ← opt yesNo
  let system ← opt yesNo
  return { zone, lockout, dishChange, slewDone, budget, counter, system }

def zoneEdit : Reader ZoneEdit := do
  let primary ← opt (num 1)
  let fallback ← opt (num 1)
  let stowEl ← opt (snum 4)
  let stowAz ← opt (opt (snum 4))
  return { primary, fallback, stowEl, stowAz }

def row : Reader Row := do
  let w ← num 2
  let s1 ← num 2
  let g1 ← num 2
  let s0 ← num 2
  let g0 ← num 2
  let th ← num 2
  return { w, s1, g1, s0, g0, th }

def policyEdit : Reader PolicyEdit := do
  let bandHigh ← opt (snum 2)
  let bandLow ← opt (snum 2)
  let guardOn ← opt (snum 2)
  let guardOff ← opt (snum 2)
  let minMelt ← opt (num 2)
  let sensorHold ← opt (num 2)
  return { bandHigh, bandLow, guardOn, guardOff, minMelt, sensorHold }

/-- LOCK_PLACE: the block marks are bits 0 and 1 of one byte (Frame Layouts, Lockout entry). -/
def placeArgs : Reader PlaceArgs := do
  let kind ← num 1
  let holder ← opt (num 2)
  let scope ← dishSet
  let blocks ← mask
  let nt ← opt note
  let stamp ← opt (num 4)
  return { kind, holder, scope, motion := blocks.getLsbD 0, heat := blocks.getLsbD 1, note := nt, stamp }

def counterArgs : Reader CounterArgs := do
  let cls ← opt (num 1)
  let quals ← opt mask
  let mode ← num 1
  let threshold ← opt (num 4)
  return { cls, quals, mode, threshold }

/-- The layout of each request kind, numbered in the order of Table 58 (Frame Layouts). The outer none is a kind that is not a
request. -/
def layout (kind tag : Nat) : Option (Reader Instr) :=
  match kind with
  | 0x01 => some (return .identify tag)
  | 0x02 => some (return .linkStatus tag)
  | 0x03 => some (return .noticeEnable tag (← enableEdit))
  | 0x04 => some (return .dishStatus tag (← dishSet))
  | 0x05 => some (return .dishStop tag (← dishSet))
  | 0x06 => some (return .dishRehome tag (← num 1))
  | 0x07 => some (return .dishAckChanges tag (← dishSet) (← mask))
  | 0x08 => some (return .dishSetProfile tag (← dishSet) (← profileEdit) (← supervisionEdit))
  | 0x09 => some (return .dishAssign tag (← dishSet) (← opt (num 1)) (← opt (num 1)))
  | 0x0A => some (return .slew tag (← num 1) (← slewArgs))
  | 0x0B => some (return .jointSlew tag (← selector) (← num 1) (← slewArgs))
  | 0x0C => some (return .slewCancel tag (← num 1) (← opt dishSet))
  | 0x0D => some (return .slewStatus tag (← num 1))
  | 0x0E => some (return .queueStatus tag)
  | 0x0F => some (return .groupSet tag (← num 1) (← dishSet))
  | 0x10 => some (return .groupRead tag (BitVec.ofNat 16 (← num 2)))
  | 0x11 => some (return .feederSet tag (← num 1) (← opt (num 4)) (← opt (num 4)) (← opt (num 4)))
  | 0x12 => some (return .feederStatus tag (← mask))
  | 0x13 => some (return .mastSet tag (← num 1) (← opt (num 2)) (← opt (num 1)))
  | 0x14 => some (return .mastStatus tag (← mask) (← yesNo))
  | 0x15 => some (return .zoneSet tag (← num 1) (← zoneEdit))
  | 0x16 => some (return .zoneStatus tag (← mask))
  | 0x17 => some (return .bankWriteRow tag (← num 1) (← num 1) (← row))
  | 0x18 => some (return .bankRead tag (← num 1))
  | 0x19 => some (return .bankSelect tag (← num 1))
  | 0x1A => some (return .zoneStow tag (← num 1))
  | 0x1B => some (return .zoneRelease tag (← num 1))
  | 0x1C => some (return .heatPolicySet tag (← policyEdit))
  | 0x1D => some (return .heatEnable tag (← dishSet) (← opt yesNo) (← opt yesNo))
  | 0x1E => some (return .heatStatus tag (← dishSet) (← mask))
  | 0x1F => some (return .lockPlace tag (← placeArgs))
  | 0x20 => some (return .lockAmend tag (← num 1) (← opt (num 2)) (← dishSet))
  | 0x21 => some (return .lockRelease tag (← num 1) (← opt (num 2)) (← opt (num 4)))
  | 0x22 => some (return .lockRetire tag (← num 1))
  | 0x23 => some (return .lockFind tag (← opt dishSet) (← opt mask) (← opt mask))
  | 0x24 => some (return .lockRead tag (BitVec.ofNat 64 (← num 8)))
  | 0x25 => some (return .estopClear tag)
  | 0x26 => some (return .counterSet tag (← num 1) (← counterArgs))
  | 0x27 => some (return .counterRead tag (← mask))
  | 0x28 => some (return .counterClear tag (← mask))
  | 0x29 => some (return .timingArm tag (← mask))
  | 0x2A => some (return .timingRead tag)
  | 0x2B => some (return .settingsSave tag)
  | 0x2C => some (return .restart tag)
  | _ => none

/-- R211: a body fits its layout when the layout reads it to its last byte. -/
def readBody (r : Reader Instr) (body : List Byte) : Option Instr :=
  match r body with
  | some (i, []) => some i
  | _ => none

/-- The kind and the tag of a request command; none for a command that is no request. -/
def requestOf : Instr → Option (Nat × Nat)
  | .identify tag => some (0x01, tag)
  | .linkStatus tag => some (0x02, tag)
  | .noticeEnable tag _ => some (0x03, tag)
  | .dishStatus tag _ => some (0x04, tag)
  | .dishStop tag _ => some (0x05, tag)
  | .dishRehome tag _ => some (0x06, tag)
  | .dishAckChanges tag _ _ => some (0x07, tag)
  | .dishSetProfile tag _ _ _ => some (0x08, tag)
  | .dishAssign tag _ _ _ => some (0x09, tag)
  | .slew tag _ _ => some (0x0A, tag)
  | .jointSlew tag _ _ _ => some (0x0B, tag)
  | .slewCancel tag _ _ => some (0x0C, tag)
  | .slewStatus tag _ => some (0x0D, tag)
  | .queueStatus tag => some (0x0E, tag)
  | .groupSet tag _ _ => some (0x0F, tag)
  | .groupRead tag _ => some (0x10, tag)
  | .feederSet tag _ _ _ _ => some (0x11, tag)
  | .feederStatus tag _ => some (0x12, tag)
  | .mastSet tag _ _ _ => some (0x13, tag)
  | .mastStatus tag _ _ => some (0x14, tag)
  | .zoneSet tag _ _ => some (0x15, tag)
  | .zoneStatus tag _ => some (0x16, tag)
  | .bankWriteRow tag _ _ _ => some (0x17, tag)
  | .bankRead tag _ => some (0x18, tag)
  | .bankSelect tag _ => some (0x19, tag)
  | .zoneStow tag _ => some (0x1A, tag)
  | .zoneRelease tag _ => some (0x1B, tag)
  | .heatPolicySet tag _ => some (0x1C, tag)
  | .heatEnable tag _ _ _ => some (0x1D, tag)
  | .heatStatus tag _ _ => some (0x1E, tag)
  | .lockPlace tag _ => some (0x1F, tag)
  | .lockAmend tag _ _ _ => some (0x20, tag)
  | .lockRelease tag _ _ _ => some (0x21, tag)
  | .lockRetire tag _ => some (0x22, tag)
  | .lockFind tag _ _ _ => some (0x23, tag)
  | .lockRead tag _ => some (0x24, tag)
  | .estopClear tag => some (0x25, tag)
  | .counterSet tag _ _ => some (0x26, tag)
  | .counterRead tag _ => some (0x27, tag)
  | .counterClear tag _ => some (0x28, tag)
  | .timingArm tag _ => some (0x29, tag)
  | .timingRead tag => some (0x2A, tag)
  | .settingsSave tag => some (0x2B, tag)
  | .restart tag => some (0x2C, tag)
  | .powerUp _ => none
  | .powerFail _ => none
  | .olFrameArrival _ _ _ _ => none
  | .olFrameDrop _ => none
  | .olRxGapTimeout => none
  | .olFrameSent => none
  | .storeWriteStart => none
  | .lockStoreComplete _ => none
  | .settingsSaveComplete _ => none
  | .restartStopTimerExpiry => none
  | .quietTimerExpiry => none
  | .estopAssert => none
  | .estopDeassert => none
  | .plTransactionStart => none
  | .plReplyReceived _ => none
  | .plReplyWindowExpiry => none
  | .plReplyGap _ => none
  | .plBroadcastEnd => none
  | .slewTimerExpiry _ => none
  | .homeTimerExpiry _ => none
  | .stopTimerExpiry _ => none
  | .mastReportFrame _ _ _ => none
  | .mastFrameGapTimeout _ => none
  | .slotTimerExpiry _ => none
  | .releaseTimerExpiry _ => none
  | .admissionPass => none
  | .sensorHoldExpiry _ => none
  | .deadlineExpiry _ => none
  | .oneSecondTick => none

end Sys2Proof.Machine
end

