-- ==== Sys2Proof/Machine/ZoneOps.lean ====
section
/-! DEFINITION. The Zone Controller: source selection (R67), evaluation (R72 to R74), changes of the cause set (R76), stow waves
(R78, R79, R80, R83) and mast updates (R61). -/

namespace Sys2Proof.Machine

/-! ## Source mast -/

/-- Whether a mast number names a mast in the given state; 0 (no fallback) names none. -/
def State.mastIs (s : State) (m : Nat) (st : MastState) : Bool := thas s.wmn.masts m && (s.mast m).state == st

/-- R67: the selection from the states of the primary and fallback masts. -/
def State.selectSource (s : State) (z : Nat) : Option Nat :=
  let r := s.zone z
  if s.mastIs r.primary .live then some r.primary else if s.mastIs r.fallback .live then some r.fallback else none

/-- R67: sourced, awaiting or sourceless. -/
def State.sourceCondition (s : State) (z : Nat) : SourceCondition :=
  let r := s.zone z
  if r.source.isSome then .sourced
  else if s.mastIs r.primary .warming || s.mastIs r.fallback .warming then .awaiting
  else .sourceless

/-- R67: record a new selection; a change makes a ZONE notice pending. -/
def State.reselect (s : State) (z : Nat) : State :=
  let src := s.selectSource z
  if (s.zone z).source = src then s else (s.modZone z (fun r => { r with source := src })).raise (.zone z)

/-! ## Waves -/

/-- Member states that hold the dish's claim. -/
def WaveState.holdsClaim (st : WaveState) : Bool := st == .waiting || st == .admitted

/-- Lines 3 to 6 of Table 25 with the claim of a WAITING member recorded. -/
def State.assessAndOpen (s : State) (z d : Nat) : State × WaveState :=
  let st := s.assessMember z d
  (if st == .waiting then s.openClaim d (.wave z) else s, st)

/-- R80: preemption of an open OBSERVE or SHED claim; true when the claim was admitted and the dish is being stopped. -/
def State.preempt (s : State) (d : Nat) : State × Bool :=
  if (s.dish d).isAdmitted then (s.stopOrder d .preemptedStow, true)
  else (s.closeClaim d .preemptedStow .stoppedByHost, false)

/-- Whether a dish holds an open OBSERVE or SHED claim. -/
def Dish.preemptible (r : Dish) : Bool := r.claimClass == some .observe || r.claimClass == some .shed

/-- R80, line 2 of Table 25: the STOW task is dropped, its budget-waiting mark with it (R135), and the member takes its place, keeping its
standing, its reservation, its MOVE and its slew timer. -/
def State.takeOver (s : State) (z d : Nat) : State × WaveState :=
  let admitted := (s.dish d).isAdmitted
  let s1 := (s.modDish d (fun r =>
    { r with claim := r.claim.map (fun c => { c with ref := .wave z, budgetWaiting := false }), task := none })).trigger
  if admitted then (s1.monitorAdmitted (.wave z), .admitted) else (s1, .waiting)

/-- R79: the first line of Table 25 that applies to dish `d`. -/
def State.assessDish (s : State) (z d : Nat) : State × WaveState :=
  let r := s.dish d
  if r.preemptible then
    let (s1, stopping) := s.preempt d
    if stopping then (s1, .preemptWait) else s1.assessAndOpen z d
  else if r.task == some .stow && r.claim.isSome then s.takeOver z d
  else s.assessAndOpen z d

/-- The dishes assigned to a zone, in dish order. -/
def State.zoneDishes (s : State) (z : Nat) : List Nat := s.dishNumbers.filter (fun d => (s.dish d).zone == z)

/-- Assess a list of dishes in order, building their members. -/
def State.assessAll (s : State) (z : Nat) : List Nat → State × List WaveMember
  | [] => (s, [])
  | d :: ds =>
    let (s1, st) := s.assessDish z d
    let (s2, rest) := State.assessAll s1 z ds
    (s2, { dish := d, state := st } :: rest)

/-- R78: a stow wave is created, which is a pass trigger (R137).
DESIGN CHOICE, log entry 27: the creation is handed to the timing monitor before the members are assessed. -/
def State.createWave (s : State) (z : Nat) : State :=
  let s0 := s.monitorCreated (.wave z) true
  let (s1, ms) := s0.assessAll z (s.zoneDishes z)
  let wave : Wave := { created := s.now, moment := s.moment, members := ms }
  let s2 := (s1.modZone z (fun r => { r with wave := some wave })).raise (.zone z)
  ((s2.count .stowOrder (some (z - 1))).trigger).waveTest z

/-- R83: a closed member is assessed again where its dish is still assigned to the zone; an open one keeps its state. -/
def State.reassessAll (s : State) (z : Nat) : List WaveMember → State × List WaveMember
  | [] => (s, [])
  | m :: ms =>
    let (s1, m1) :=
      if m.state.isOpen || (s.dish m.dish).zone ≠ z then (s, m)
      else
        let (t, st) := s.assessDish z m.dish
        (t, { m with state := st })
    let (s2, rest) := State.reassessAll s1 z ms
    (s2, m1 :: rest)

/-- R83: the claims of dishes that joined the zone after the wave was created are preempted without a member. -/
def State.preemptJoined (s : State) (z : Nat) (listed : List Nat) : State :=
  (s.zoneDishes z).foldl (fun t d => if !listed.contains d && (t.dish d).preemptible then (t.preempt d).1 else t) s

/-- R83: the wave that is still open is kept and its closed members are assessed again, which is a pass trigger (R137). DESIGN CHOICE, log
entry 39: the listed members are taken first, and the dishes that joined the zone after them. -/
def State.reassessWave (s : State) (z : Nat) (w : Wave) : State :=
  let (s1, ms) := s.reassessAll z w.members
  let s2 := s1.preemptJoined z (w.members.map (·.dish))
  ((s2.modZone z (fun r => { r with wave := r.wave.map (fun w => { w with members := ms }) })).trigger).waveTest z

/-! ## The cause set -/

/-- CALM or WATCH by the sustained value of the source mast (R76). -/
def State.calmOrWatch (s : State) (z : Nat) : ZoneState :=
  match (s.zone z).source.bind s.sustained with
  | some v => if (s.activeRow z).w ≤ v then .watch else .calm
  | none => .calm

/-- Set the state of a zone; a change makes a ZONE notice pending, and leaving WATCH is a pass trigger (R76). -/
def State.enterZoneState (s : State) (z : Nat) (st : ZoneState) : State :=
  let old := (s.zone z).state
  if old = st then s
  else
    let s1 := (s.modZone z (fun r => { r with state := st })).raise (.zone z)
    if old == .watch then s1.trigger else s1

/-- R76: every waiting STOW task of the zone's dishes is dropped. -/
def State.dropStowTasks (s : State) (z : Nat) : State :=
  (s.zoneDishes z).foldl
    (fun t d => if (t.dish d).task == some .stow && (t.dish d).isWaiting then t.closeClaim d .cancelled .stoppedByHost else t) s

/-- The cause set of a zone becomes `new`, with what follows from R76, R78 and R83. -/
def State.setCauses (s : State) (z : Nat) (new : Causes) : State :=
  let old := (s.zone z).causes
  if old = new then s
  else
    let s1 := ((s.modZone z (fun r => { r with causes := new })).syncStowOrder).raise (.zone z)
    if old.isEmpty then
      let s2 := s1.enterZoneState z .stowing
      match (s2.zone z).wave with
      | none => s2.createWave z
      | some w => s2.reassessWave z w
    else if new.isEmpty then (s1.enterZoneState z (s1.calmOrWatch z)).dropStowTasks z
    else s1

/-! ## Evaluation -/

/-- Cancel a running release timer; the cancellation makes a ZONE notice pending (R87). -/
def State.cancelRelease (s : State) (z : Nat) : State :=
  if (s.zone z).releaseDue.isSome then (s.modZone z (fun r => { r with releaseDue := none })).raise (.zone z) else s

/-- Start the release timer at the Th of the active row; the start makes a ZONE notice pending (R87). -/
def State.startRelease (s : State) (z : Nat) : State :=
  (s.modZone z (fun r => { r with releaseDue := some (s.now + (s.activeRow z).th * 1000) })).raise (.zone z)

/-- R74: the stow condition. -/
def rowStows (r : Row) (sustained gust : Nat) : Bool := r.s1 ≤ sustained || r.g1 ≤ gust

/-- R74: the release condition. -/
def rowReleases (r : Row) (sustained gust : Nat) : Bool := sustained ≤ r.s0 && gust ≤ r.g0

/-- R74 with R73 and R76: the evaluation of a zone with a source whose figures are given. -/
def State.evaluateSourced (s : State) (z sustained gust : Nat) : State :=
  let row := s.activeRow z
  let old := (s.zone z).causes
  let s1 :=
    if rowStows row sustained gust then s.cancelRelease z
    else if old.wind then
      if rowReleases row sustained gust then (if (s.zone z).releaseDue.isSome then s else s.startRelease z) else s.cancelRelease z
    else s
  let new : Causes := { old with noSource := false, wind := old.wind || rowStows row sustained gust }
  let s2 := s1.setCauses z new
  if old.isEmpty && new.isEmpty then s2.enterZoneState z (s2.calmOrWatch z) else s2

/-- R73: the evaluation of a zone. A LIVE mast always has its figures (R61). DESIGN CHOICE, log entry 33: a zone in WATCH that is evaluated
while awaiting stays in WATCH (R73), although note 1 of Table 24 calls a zone without a source and without a cause CALM. -/
def State.evaluate (s : State) (z : Nat) : State :=
  match (s.zone z).source with
  | some m =>
    match s.sustained m, s.gust m with
    | some v, some g => s.evaluateSourced z v g
    | _, _ => s
  | none =>
    if s.sourceCondition z = .awaiting then s
    else (s.cancelRelease z).setCauses z { (s.zone z).causes with noSource := true }

/-! ## Mast updates -/

/-- R67, R72: what one update of mast `m` does to one zone. `changed` says that the update reports a change of mast state, `added`
that it adds a valid sample, and `wasAwaiting` that the zone was awaiting before it. -/
def State.zoneUpdate (s : State) (m : Nat) (changed added wasAwaiting : Bool) (z : Nat) : State :=
  let r := s.zone z
  let concerned := r.primary == m || r.fallback == m
  let s1 := if changed && concerned then s.reselect z else s
  let src := (s1.zone z).source
  let moved := src != r.source
  let lost := concerned && src.isNone && (s1.sourceCondition z == .sourceless || wasAwaiting)
  if (added && src == some m) || moved || lost then s1.evaluate z else s1

/-- R61: one mast update is handed to ZNC, which takes it for the zones in ascending order (DESIGN CHOICE, log entry 30). `before` is the
state before the event. -/
def State.mastUpdate (s : State) (before : State) (m : Nat) (added : Bool) : State :=
  let changed := (before.mast m).state != (s.mast m).state
  s.zoneNumbers.foldl (fun t z => t.zoneUpdate m changed added (before.sourceCondition z == .awaiting) z) s

end Sys2Proof.Machine
end

