-- ==== Sys2Proof/Machine/Reports.lean ====
section
/-! DEFINITION. What the blocks report of their records: the contents of notices (R87, R114, R139, R181, R186, R198) and of the
status replies (R27, R65, R88, R115, R116, R140, R161, R166, R187, R189, R200, R201). A remaining time is rounded up to its unit,
an elapsed time is rounded down (log entry 13). -/

namespace Sys2Proof.Machine

/-- Saturate a count at the top of a 16-bit field. -/
def sat16 (x : Nat) : Nat := min 65535 x

/-! ## Dishes -/

def Dish.claimReport (r : Dish) (d : Nat) : Option ClaimReport :=
  match r.claim with
  | none => none
  | some c =>
    match c.ref with
    | .host id => some (.host id d c.standing)
    | .wave z => some (.wave z c.standing)
    | .task => r.task.map (fun k => .task k c.standing)

/-- R27. -/
def State.dishReport (s : State) (d : Nat) : DishReport :=
  let r := s.dish d
  { dish := d, state := r.state, supFault := r.supFault, flags := r.flags, good := r.good, miss := r.miss,
    sinceGood := r.lastGood.map (fun t => sat16 (s.now - t)), last := r.last, reservation := r.reservation,
    claim := r.claimReport d, timer := r.timer.map (fun t => (t.kind, remaining s.now t.due 100)), governing := s.governing d }

/-- The dishes with a change flag set, in dish order (R198). -/
def State.flagged (s : State) (ds : List Nat) : List (Nat × ChangeFlags) :=
  (ds.filter (fun d => !(s.dish d).flags.isEmpty)).map (fun d => (d, (s.dish d).flags))

/-! ## Zones -/

def Wave.countOf (w : Wave) (st : WaveState) : Nat := w.members.countP (fun m => m.state == st)

def Zone.settings (z : Zone) : ZoneSettings := { primary := z.primary, fallback := z.fallback, stowEl := z.stowEl, stowAz := z.stowAz }

/-- R87. -/
def State.zoneReport (s : State) (z : Nat) : ZoneReport :=
  let r := s.zone z
  let countIn (st : WaveState) : Nat := match r.wave with | some w => w.countOf st | none => 0
  { zone := z, state := r.state, causes := r.causes, source := r.source, condition := s.sourceCondition z, active := s.znc.active,
    releaseLeft := r.releaseDue.map (fun t => remaining s.now t 1000), waveOpen := r.wave.isSome, waiting := countIn .waiting,
    preemptWait := countIn .preemptWait, admitted := countIn .admitted, lastOutcome := r.lastOutcome }

/-- R88. DESIGN CHOICE, log entry 38: the wave's creation time, for which the rule states no top, does not saturate. -/
def State.zoneStatusReport (s : State) (z : Nat) : ZoneStatusReport :=
  let r := s.zone z
  { settings := r.settings, report := s.zoneReport z, gust := r.source.bind s.gust, sustained := r.source.bind s.sustained,
    wave := r.wave.map (fun w => (w.created, w.members)) }

/-! ## Slews -/

/-- The record reported where the table holds none; no rule reads it. -/
def SlewRecord.blank (id : Nat) : SlewRecord :=
  { id := id, complete := true, mode := .single, selector := .dishes 0, targetAz := 0, targetEl := 0, rateAz := none, rateEl := none,
    deadline := none, deadlineDue := none, accepted := 0, completed := none, members := [] }

def SlewRecord.countP (r : SlewRecord) (p : MemberState → Bool) : Nat := r.members.countP (fun m => p m.state)

def MemberState.isExcused : MemberState → Bool
  | .excused _ => true
  | _ => false

def MemberState.isAborted : MemberState → Bool
  | .aborted _ => true
  | _ => false

/-- R114. -/
def SlewRecord.doneNotice (r : SlewRecord) : SlewDone :=
  { id := r.id, mode := r.mode, selector := r.selector, az := r.targetAz, el := r.targetEl, rateAz := r.rateAz, rateEl := r.rateEl,
    deadline := r.deadline, elapsed := sat16 (elapsed (r.completed.getD r.accepted) r.accepted 1000), members := r.members,
    counts := { done := r.countP (· == .done), excused := r.countP (·.isExcused), preemptedStow := r.countP (· == .preemptedStow),
                aborted := r.countP (·.isAborted), stoppedByHost := r.countP (· == .stoppedByHost),
                cancelled := r.countP (· == .cancelled), expired := r.countP (· == .expired) } }

/-- R115. DESIGN CHOICE, log entry 38: the completion time, for which the rule states no top, does not saturate. -/
def SlewRecord.report (r : SlewRecord) (now : Nat) : SlewReport :=
  { id := r.id, complete := r.complete, mode := r.mode, selector := r.selector, az := r.targetAz, el := r.targetEl, rateAz := r.rateAz,
    rateEl := r.rateEl, deadline := r.deadline, age := sat16 (elapsed now r.accepted 1000),
    deadlineLeft := r.deadlineDue.map (fun t => remaining now t 1000), completion := r.completed.map (fun t => elapsed t r.accepted 1000),
    members := r.members }

/-- R116. -/
def SlewRecord.queueRow (r : SlewRecord) (now : Nat) : QueueRow :=
  { id := r.id, mode := r.mode, complete := r.complete, members := r.members.length, waiting := r.countP (· == .waiting),
    iceHeld := r.members.countP (fun m => m.state == .waiting && m.ice), admitted := r.countP (· == .admitted),
    deadlineLeft := r.deadlineDue.map (fun t => remaining now t 1000) }

/-! ## Feeders -/

/-- R139. -/
def State.feederReport (s : State) (f : Feeder) : FeederReport :=
  let r := s.feeder f
  { feeder := f, limit := r.limit, reserve := r.reserve, heatCap := r.heatCap, ceiling := r.ceiling, above := r.over,
    slewCommitted := r.slewCommitted, heatCommitted := r.heatCommitted, committed := r.committed, allowance := r.allowance,
    shedDemand := r.shedDemand, waits := r.waits }

/-- R140. -/
def State.feederStatusReport (s : State) (f : Feeder) : FeederStatusReport :=
  let on := s.dishNumbers.filter (fun d => (s.dish d).feeder == f)
  { report := s.feederReport f, passDue := s.fbu.passDue,
    reservations := on.filterMap (fun d => (s.dish d).reservation.map (fun w =>
      { dish := d, watts := w, cls := if (s.dish d).isAdmitted then (s.dish d).claimClass else none })),
    heaters := (on.filter (fun d => 0 < (s.heater d).counted)).map (fun d =>
      { dish := d, counted := (s.heater d).counted, granted := (s.heater d).granted }) }

/-! ## Masts -/

/-- R65. -/
def State.mastReport (s : State) (m : Nat) (window : Bool) : MastReportOut :=
  let r := s.mast m
  { mast := m, state := r.state, gain := r.gain, offset := r.offset, lastSeq := r.lastSeq, lastReport := r.lastReport,
    since := r.lastTime.map (fun t => sat16 (s.now - t)), samples := r.window.length, newest := r.window.getLast?, largest := r.window.max?,
    gust := gustOf r.window, sustained := sustainedOf r.window, peak := r.peak, validRun := r.validRun, missedRun := r.missedRun,
    valid := r.valid, missed := r.missed, duplicates := r.duplicates, rejected := r.rejected,
    window := if window then some r.window else none }

/-! ## Heaters -/

/-- A sensor hold as it is reported, with its remaining seconds while it runs (R161). -/
def SensorHold.report (h : SensorHold) (now : Nat) : SensorHold :=
  match h with
  | .running due => .running (remaining now due 1000)
  | h => h

/-- R161, for one dish. -/
def State.heatDishReport (s : State) (d : Nat) : HeatDishReport :=
  let r := s.dish d
  let h := s.heater d
  { dish := d, state := h.state, requested := h.requested, granted := h.granted, counted := h.counted, applied := r.last.map (·.applied),
    prioTemp := h.prioTemp, inMelt := h.meltEntry.map (fun t => sat16 (elapsed s.now t 1000)), hold := h.hold.report s.now,
    lastShed := h.lastShed, shedTask := if r.task == some .shed then r.claim.map (·.standing) else none, melts := h.melts,
    shedsCreated := h.shedsCreated, shedsSkipped := h.shedsSkipped, shedsDone := h.shedsDone }

/-- R161, for one feeder. -/
def State.heatFeederReport (s : State) (f : Feeder) : HeatFeederReport :=
  let r := s.feeder f
  { feeder := f, allowance := r.allowance, heatCommitted := r.heatCommitted, inFlight := s.inFlight f, shedDemand := r.shedDemand,
    unmet := s.dishNumbers.countP (fun d => (s.dish d).feeder == f && (s.heater d).granted < (s.heater d).requested),
    raisesAllowed := r.raisesAllowed }

/-! ## Lockouts -/

/-- R166, R181. -/
def State.lockReport (s : State) (i : Nat) : LockReport :=
  { index := i, entry := s.entry i, op := (s.lkt.queue.find? (fun o => o.index == i)).map (fun o => (o.kind, o.running)),
    level := i == 0 && s.lkt.estopLevel }

/-! ## Counters and monitor -/

/-- The condition set of a class; empty for a class without a DURATION mode (Table 53). -/
def Conditions.of (c : Conditions) : EventClass → Mask
  | .budgetWait => c.budgetWait
  | .heatUnmet => c.heatUnmet
  | .stowOrder => c.stowOrder
  | .mastStale => c.mastStale
  | .ceilingHigh => c.ceilingHigh
  | .admission => 0
  | .shedStage => 0
  | .lockBlock => 0
  | .pedestalMiss => 0
  | .commandRetry => 0
  | .dishFault => 0
  | .spentLost => 0

/-- R185: whether the condition of a counter holds. -/
def Counter.holds (c : Counter) (conds : Conditions) : Bool :=
  match c.cls with
  | none => false
  | some k =>
    match c.quals with
    | none => conds.of k != 0
    | some m => m &&& conds.of k != 0

def State.counter (s : State) (n : Nat) : Counter := tget s.act.counters n {}

/-- R186: the counter as a notice carries it. -/
def State.counterReport (s : State) (n : Nat) : CounterReport := { counter := n, record := s.counter n, holds := none }

/-- R187: the counter as COUNTER_READ gives it. -/
def State.counterRead (s : State) (n : Nat) : CounterReport :=
  let c := s.counter n
  { counter := n, record := c, holds := if c.mode == .duration then some (c.holds s.act.conds) else none }

/-- R189. DESIGN CHOICE, log entry 38: the two times before the read, for which the rule states no top, do not saturate. -/
def State.timingReport (s : State) : TimingReport :=
  let m := s.act.monitor
  { state := m.state, stow := m.stow, observe := m.observe, ref := m.tracked.map (·.ref),
    createdAgo := m.tracked.map (fun t => elapsed s.now t.created 1000),
    admittedAgo := (m.tracked.bind (·.admittedAt)).map (fun t => elapsed s.now t 1000), waitTotal := m.waitTotal, runTotal := m.runTotal,
    count := m.count, unadmitted := m.unadmitted, untracked := m.untracked, overflow := m.overflow }

/-! ## The link -/

/-- R200. DESIGN CHOICE, log entry 38: the time since the last RESTART reset, for which the rule states no top, does not saturate. -/
def State.identity (s : State) : Identity :=
  { partCode := Config.partCode, hardwareRevision := Config.hardwareRevision, protocolVersion := Config.protocolVersion, stations := 48,
    defaulted := s.nvs.defaulted, restarting := s.nvs.phase != .idle, uptime := min top32 (s.now / 1000),
    sinceRestart := s.nvs.lastRestart.map (fun t => elapsed s.now t 1000) }

/-- The class of a notice key, as its place 0..6 in Table 63. -/
def NoticeKey.cls : NoticeKey → Nat
  | .zone _ => 0
  | .lockout _ => 1
  | .dishChange => 2
  | .slewDone _ => 3
  | .budget _ => 4
  | .counter _ => 5
  | .system => 6

/-- The number of pending notices of each class; a key on the line that is pending again counts once (log entry 13). -/
def Oli.pendingCounts (o : Oli) : PerClass :=
  let countOf (c : Nat) : Nat := o.notices.eraseDups.countP (fun k => k.cls == c)
  { zone := countOf 0, lockout := countOf 1, dishChange := countOf 2, slewDone := countOf 3, budget := countOf 4, counter := countOf 5,
    system := countOf 6 }

/-- R201. -/
def State.linkReport (s : State) : LinkReport :=
  { counts := s.oli.counts, queued := s.oli.inbound.length, flow := s.oli.flow, replies := s.oli.replies.length,
    pending := s.oli.pendingCounts, enables := s.oli.enables, totals := s.pbc.totals }

/-- R197: a notice is built from the records as they stand. -/
def State.buildNotice (s : State) : NoticeKey → Notice
  | .zone z => .zone (s.zoneReport z)
  | .lockout i => .lockout (s.lockReport i)
  | .dishChange => .dishChange (s.flagged s.dishNumbers)
  | .slewDone id => .slewDone ((s.record id).getD (SlewRecord.blank id)).doneNotice
  | .budget f => .budget (s.feederReport f)
  | .counter n => .counter (s.counterReport n)
  | .system => .system s.nvs.defaulted

end Sys2Proof.Machine
end

