-- ==== Sys2Proof/Machine/Link.lean ====
section
/-! DEFINITION. The Observatory Link Interface: flow state (R194), replies (R196), the transmit order (R197), arrival checks (R193)
and the taking of requests (R195). -/

namespace Sys2Proof.Machine

/-! ## Counts of R201 -/

/-- One more on a 32-bit saturating count. -/
def inc32 (x : Nat) : Nat := satAdd top32 x 1

/-- One more notice sent, for the class of a key. -/
def PerClass.inc (p : PerClass) : NoticeKey → PerClass
  | .zone _ => { p with zone := inc32 p.zone }
  | .lockout _ => { p with lockout := inc32 p.lockout }
  | .dishChange => { p with dishChange := inc32 p.dishChange }
  | .slewDone _ => { p with slewDone := inc32 p.slewDone }
  | .budget _ => { p with budget := inc32 p.budget }
  | .counter _ => { p with counter := inc32 p.counter }
  | .system => { p with system := inc32 p.system }

/-! ## Flow state -/

/-- R194: the flow state becomes `f`; a flow frame is pending unless `f` is the value last sent. DESIGN CHOICE,
log entry 31: before any HOLD or GO has been sent, the value last sent counts as GO. -/
def Oli.setFlow (o : Oli) (f : Flow) : Oli := { o with flow := f, flowPending := f != o.lastFlow }

/-- R193, R194: a request joins the inbound queue. -/
def Oli.join (o : Oli) (c : Instr) : Oli :=
  let o1 := { o with inbound := o.inbound ++ [c] }
  if o1.flow == .go && o1.inbound.length == 6 then o1.setFlow .hold else o1

/-- R194, R195: the oldest request leaves the inbound queue. -/
def Oli.leave (o : Oli) : Oli :=
  let o1 := { o with inbound := o.inbound.tail, counts.taken := inc32 o.counts.taken }
  if o1.flow == .hold && o1.inbound.length == 2 then o1.setFlow .go else o1

/-! ## Replies -/

/-- R196: a ready reply joins the reply list at the newest end. -/
def State.reply (s : State) (r : Reply) : State := { s with oli.replies := s.oli.replies ++ [r] }

/-- R196: an immediate refusal is discarded and counted when the list holds 16 or more replies. -/
def State.refuseArrival (s : State) (kind tag : Nat) (why : Reason) : State :=
  if 16 ≤ s.oli.replies.length then { s with oli.counts.replyDrops := inc32 s.oli.counts.replyDrops }
  else s.reply { kind := kind, tag := tag, result := .refused why }

/-! ## The transmit order -/

/-- R199: whether the class of a key is enabled. -/
def Enables.allows (e : Enables) : NoticeKey → Bool
  | .zone _ => e.zone
  | .lockout _ => e.lockout
  | .dishChange => e.dishChange
  | .slewDone _ => e.slewDone
  | .budget _ => e.budget
  | .counter _ => e.counter
  | .system => e.system

/-- R197 line 3: the enabled pending notice to send: classes in the order of Table 63, and within a class the oldest. -/
def Oli.nextNotice (o : Oli) : Option NoticeKey :=
  (List.range 7).findSome? (fun c => o.notices.find? (fun k => k.cls == c && o.enables.allows k))

/-- R197: the choice of the next outbound frame, made whenever the line is free. -/
def State.transmit (s : State) : State :=
  if !s.powered || s.oli.sending.isSome then s
  else if s.oli.flowPending then
    { s with oli.flowPending := false, oli.lastFlow := s.oli.flow, oli.sending := some { out := .flow s.oli.flow, segments := [[]] } }
  else
    match s.oli.replies with
    | r :: _ => { s with oli.sending := some { out := .reply r true, segments := segmentsOf r.result.bytes } }
    | [] =>
      match s.oli.nextNotice with
      | some k =>
        let n := s.buildNotice k
        { s with oli.sending := some { out := .notice k n true, segments := segmentsOf n.bytes } }
      | none => s

/-- One frame of the Observatory link: start byte, body length, kind, tag, body and CRC (R191, R212). -/
def olFrame (kind tag : Nat) (body : List Byte) : List Byte :=
  let covered := BitVec.ofNat 8 kind :: BitVec.ofNat 8 tag :: body
  le 1 0x7E ++ le 2 body.length ++ covered ++ le 2 (crc16 covered).toNat

/-- The kind byte of a reply (Frame Layouts): its request's kind plus 0x80; a free value where the received kind is no request
(UNKNOWN_KIND, log entry 26). -/
def replyKind (kind : Nat) : Nat :=
  if inRange 0x01 0x2C kind then kind + 0x80 else (Config.unknownKindReply (BitVec.ofNat 8 kind)).toNat

/-- The kind and the tag under which a frame is sent (Frame Layouts): HOLD and GO, a reply with its request's tag, a notice by its
class with tag 0. -/
def Outgoing.header : Outgoing → Nat × Nat
  | .flow .hold => (0xFE, 0)
  | .flow .go => (0xFF, 0)
  | .reply r _ => (replyKind r.kind, r.tag)
  | .notice k _ _ => (0xF0 + k.cls, 0)

/-- The bytes of the frame that is on OL_TX; none while the line is free. -/
def Oli.line (o : Oli) : Option (List Byte) :=
  o.sending.map (fun x => olFrame x.out.header.1 x.out.header.2 (x.segments.headD []))

/-- R114: SLS frees a record whose SLEW_DONE has been sent. -/
def State.freeRecord (s : State) (k : NoticeKey) : State :=
  match k with
  | .slewDone id => { s with sls.table := s.sls.table.filter (fun r => r.id != id) }
  | _ => s

/-- R196, R197: a reply or notice has been sent whole: it leaves its list or set, unless a reset took it away meanwhile, and is
counted. -/
def State.sent (s : State) (out : Outgoing) : State :=
  match out with
  | .flow _ => s
  | .reply _ live =>
    { s with oli.counts.repliesSent := inc32 s.oli.counts.repliesSent,
             oli.replies := if live then s.oli.replies.tail else s.oli.replies }
  | .notice k _ live =>
    let s1 := { s with oli.counts.noticesSent := s.oli.counts.noticesSent.inc k }
    if live then ({ s1 with oli.notices := s1.oli.notices.erase k }).freeRecord k else s1

/-- The end of one outbound frame: the next segment goes at once, or the reply or notice is complete (R196, R197). -/
def State.frameEnd (s : State) : State :=
  match s.oli.sending with
  | none => s
  | some x =>
    match x.segments with
    | _ :: next :: rest => { s with oli.sending := some { x with segments := next :: rest } }
    | _ => ({ s with oli.sending := none }).sent x.out

/-! ## Arrival -/

/-- The bytes that the CRC of an inbound frame covers (R191, R212). -/
def coveredBytes (kind tag : Byte) (body : List Byte) : List Byte := kind :: tag :: body

/-- R192: a dropped frame is counted. -/
def State.dropFrame (s : State) (cause : DropCause) : State :=
  match cause with
  | .badLength => { s with oli.counts.badLength := inc32 s.oli.counts.badLength }
  | .framingError => { s with oli.counts.framing := inc32 s.oli.counts.framing }
  | .badCrc => { s with oli.counts.badCrc := inc32 s.oli.counts.badCrc }

/-- R193: the arrival checks of a received frame, in order. -/
def State.arrive (s0 : State) (kind tag : Nat) (body : List Byte) : State :=
  let s := { s0 with oli.counts.received := inc32 s0.oli.counts.received }
  if tag = 0 then { s with oli.counts.tagErrors := inc32 s.oli.counts.tagErrors }
  else
    match layout kind tag with
    | none =>
      ({ s with oli.counts.refusedUnknownKind := inc32 s.oli.counts.refusedUnknownKind }).refuseArrival kind tag .unknownKind
    | some l =>
      match readBody l body with
      | none =>
        ({ s with oli.counts.refusedBadLength := inc32 s.oli.counts.refusedBadLength }).refuseArrival kind tag .badLength
      | some c =>
        if 8 ≤ s.oli.inbound.length then
          ({ s with oli.counts.refusedBusy := inc32 s.oli.counts.refusedBusy }).refuseArrival kind tag .busy
        else { s with oli := s.oli.join c }

/-- R192, R193: a whole frame with its body and the CRC received. -/
def State.frameIn (s : State) (kind tag : Byte) (body : List Byte) (crc : BitVec 16) : State :=
  if 1024 < body.length then s.dropFrame .badLength
  else if crc16 (coveredBytes kind tag body) ≠ crc then s.dropFrame .badCrc
  else s.arrive kind.toNat tag.toNat body

end Sys2Proof.Machine
end

