-- ==== Sys2Proof/Machine/RestartOps.lean ====
section
/-! DEFINITION. The RESTART sequence (R207 to R209), the reset it ends in, and the frame of every event: its moment, the taking of a
request (R195), and what follows at its end. -/

namespace Sys2Proof.Machine

/-! ## Phases -/

/-- A dish that keeps STOPPING open (R208). -/
def DishState.isMoving : DishState → Bool
  | .slewing => true
  | .homing => true
  | .stopping => true
  | _ => false

/-- R208: entry to STOPPING. -/
def State.enterStopping (s : State) : State :=
  let s1 := (s.orderAllStop).orderHeatAllOff
  let s2 := s1.dishNumbers.foldl (fun t d => t.stopOrder d .stoppedByHost) s1
  { s2 with nvs.phase := .stopping, nvs.stopDue := some (s2.now + 10000) }

/-- R208: entry to QUIET; the quiet timer starts at once when no transaction is in flight. -/
def State.enterQuiet (s : State) : State :=
  { s with nvs.phase := .quiet, nvs.stopDue := none,
           nvs.quietDue := if s.pbc.flight.isNone then some (s.now + 2000) else none }

/-- R207: the store is idle: the queue and the write-back list are empty and the save standing is NONE. -/
def State.drained (s : State) : Bool := s.lkt.queue.isEmpty && s.lkt.writeBacks.isEmpty && s.nvs.save == .idle

/-- R208: no dish is SLEWING, HOMING or STOPPING. -/
def State.atRest (s : State) : Bool := s.dsv.dishes.all (fun d => !d.state.isMoving)

/-- The phase changes that an event may have made due (Table 62). -/
def State.restartProgress (s : State) : State :=
  let s1 := if s.nvs.phase == .draining && s.drained then s.enterStopping else s
  if s1.nvs.phase == .stopping && s1.atRest then s1.enterQuiet else s1

/-! ## The reset -/

/-- Table 9, RESTART column. -/
def Dish.restarted (r : Dish) : Dish := { profile := r.profile, feeder := r.feeder, zone := r.zone }

/-- R91: every open member of an open wave takes ABORTED(RESTART). -/
def Wave.restarted (w : Wave) : List WaveMember :=
  w.members.map (fun m => if m.state.isOpen then { m with state := .aborted .restart } else m)

/-- R91: the closure of an open wave at the reset. -/
def Zone.restarted (z : Zone) : Zone :=
  match z.wave with
  | none => z
  | some w =>
    { z with wave := none, lastOutcome := some w.restarted,
             state := if z.state == .stowing && !z.causes.isEmpty then .stowed else z.state }

/-- Table 38, RESTART column. -/
def FeederRec.restarted (r : FeederRec) : FeederRec := feederAtReset { limit := r.limit, reserve := r.reserve, heatCap := r.heatCap }

/-- R202: what is on the line is finished; a reply or notice whose list or set was emptied no longer belongs to it. -/
def Sending.restarted (x : Sending) : Sending :=
  match x.out with
  | .flow _ => x
  | .reply r live => { x with out := .reply r (live && r.deferred) }
  | .notice k n _ => { x with out := .notice k n false }

/-- A request still in the inbound queue at the reset is answered RESTARTING (R202). DESIGN CHOICE, log entry 40: an IDENTIFY too, which R200
and Table 57 except. -/
def restartingReply (c : Instr) : Option Reply := (requestOf c).map (fun (k, t) => { kind := k, tag := t, result := .refused .restarting })

/-- R202, Table 59: OLI at the reset. The RESTART reply, owed to `tag`, joins last. -/
def Oli.restarted (o : Oli) (tag : Option Nat) : Oli :=
  { o with inbound := [], flow := .go, flowPending := o.flow == .hold || o.flowPending,
           replies := o.replies.filter (·.deferred) ++ o.inbound.filterMap restartingReply
             ++ (match tag with | some t => [{ kind := 0x2C, tag := t, result := .ok .accepted, deferred := true }] | none => []),
           notices := [.system], sending := o.sending.map (·.restarted), counts := {} }

/-- R190: ACT at the reset; the condition sets are formed afresh after it. -/
def Act.restarted (a : Act) : Act := { actAtPowerUp with tickDue := a.tickDue }

/-- R209: the reset of a RESTART. -/
def State.restartReset (s : State) : State :=
  let dishes := s.dsv.dishes.map (·.restarted)
  let f := s.fbu.feeders
  let s1 : State :=
    { s with dsv.dishes := dishes, pbc := pbcAtPowerUp s.pbc.replyWindow,
             znc.zones := s.znc.zones.map (·.restarted), sls := { groups := s.sls.groups },
             fbu := { feeders := ⟨f.a.restarted, f.b.restarted, f.c.restarted, f.d.restarted⟩ },
             mlc := { heaters := heatersAtReset dishes s.heatBlocked, policy := s.mlc.policy }, act := s.act.restarted,
             oli := s.oli.restarted s.nvs.restartTag,
             nvs := { s.nvs with phase := .idle, restartTag := none, stopDue := none, quietDue := none, resetDue := false,
                                 lastRestart := some s.now } }
  (s1.syncStale).syncStowOrder

/-! ## The frame of an event -/

/-- What follows every event: a phase change of a RESTART, and the next outbound frame if the line is free. -/
def State.finish (s : State) : State := s.restartProgress.transmit

/-- The start of an event: it takes the next moment (log entry 5). -/
def State.begin (s : State) : State := { s with moment := s.moment + 1 }

/-- The start of an event that belongs to the moment `due`, a timer's expiry or a frame's end: the clock moves there where that moment
lies ahead (log entry 4). -/
def State.beginAt (s : State) (due : Nat) : State := { s with moment := s.moment + 1, now := max s.now due }

/-- An event of the part: it happens only while the part runs (R206) and where `occurs` holds (log entry 1). -/
def State.onEvent (s : State) (occurs : Bool) (f : State → State) : State :=
  if s.powered && occurs then (f s.begin).finish else s

/-- An event with a moment of its own, such as a timer expiry: it happens only while the part runs and there is such a moment (the
timer is running). -/
def State.onTimer (s : State) (due : Option Nat) (f : State → State) : State :=
  match due with
  | some t => if s.powered then (f (s.beginAt t)).finish else s
  | none => s

/-- The state in which request `c` is considered: where no request waits, the command stands for the arrival of its frame as well
(log entry 1). -/
def State.queued (s : State) (c : Instr) : State :=
  if s.oli.inbound.isEmpty then { s with oli := { s.oli with inbound := [c], counts.received := inc32 s.oli.counts.received } } else s

/-- R195: OLI takes a request when it is the oldest and the reply list holds fewer than 16 replies. -/
def State.takes (s : State) (c : Instr) : Bool := s.powered && s.oli.inbound.head? == some c && s.oli.replies.length < 16

/-- What the owning block answers at the hand-over: its records, and the reply unless it is deferred. -/
abbrev Handled := State × Option Result

/-- R195: the hand-over of a request to its owner, or the answer RESTARTING while a RESTART is in progress. `always` marks
IDENTIFY, which is handed as usual. -/
def State.handOver (s : State) (c : Instr) (always : Bool) (owner : State → Handled) : State :=
  match requestOf c with
  | none => s
  | some (kind, tag) =>
    if s.nvs.phase != .idle && !always then s.reply { kind := kind, tag := tag, result := .refused .restarting }
    else
      match owner s with
      | (t, some r) => t.reply { kind := kind, tag := tag, result := r }
      | (t, none) => t

/-- The request at the front leaves the inbound queue and is handed over (R195). -/
def State.takeRequest (s : State) (c : Instr) (always : Bool) (owner : State → Handled) : State :=
  ((({ s with oli := s.oli.leave }).begin).handOver c always owner).finish

/-- R195: the event of taking request `c`. -/
def State.onRequest (s : State) (c : Instr) (owner : State → Handled) (always : Bool := false) : State :=
  if (s.queued c).takes c then (s.queued c).takeRequest c always owner else s

/-- A request refused by its owner changes nothing. -/
def State.refuse (s : State) (r : Reason) : Handled := (s, some (.refused r))

/-- A request answered with contents. -/
def State.answer (s : State) (c : Contents) : Handled := (s, some (.ok c))

/-- The outcome of an event. -/
abbrev Step := Host.Outcome State Fault Refusal

def State.done (s : State) : Step := .next s

end Sys2Proof.Machine
end

