-- ==== Sys2Proof/Machine/Counters.lean ====
section
/-! DEFINITION. The requests of the Activity Counters and the 1 s timer (09_activity_counters.md). -/

namespace Sys2Proof.Machine

/-- The event class of an enumeration byte (Table 53). -/
def classOf (n : Nat) : Option EventClass :=
  [EventClass.admission, .budgetWait, .shedStage, .heatUnmet, .stowOrder, .lockBlock, .pedestalMiss, .commandRetry, .mastStale,
   .dishFault, .ceilingHigh, .spentLost][n]?

def modeOf : Nat → Option CountMode
  | 0 => some .occurrence
  | 1 => some .duration
  | _ => none

/-- The number of qualifier values of a class (Table 53). -/
def EventClass.values : EventClass → Nat
  | .admission => 4
  | .budgetWait => 4
  | .shedStage => 4
  | .heatUnmet => 4
  | .stowOrder => 8
  | .lockBlock => 3
  | .pedestalMiss => 3
  | .commandRetry => 0
  | .mastStale => 4
  | .dishFault => 5
  | .ceilingHigh => 4
  | .spentLost => 0

/-- Whether Table 53 gives a mode for a class. -/
def EventClass.hasMode : EventClass → CountMode → Bool
  | .heatUnmet, .occurrence => false
  | _, .occurrence => true
  | .budgetWait, .duration => true
  | .heatUnmet, .duration => true
  | .stowOrder, .duration => true
  | .mastStale, .duration => true
  | .ceilingHigh, .duration => true
  | _, .duration => false

/-- R183: whether a carried qualifier set is refused with OUT_OF_RANGE for a class; without a class no value is tested
(log entry 20). -/
def qualsBad (cls : Option EventClass) (quals : Option Mask) : Bool :=
  match cls, quals with
  | some k, some m => k.values == 0 || !within m k.values
  | _, _ => false

/-- R183. -/
def State.counterSetOf (s : State) (n : Nat) (a : CounterArgs) : Handled :=
  match modeOf a.mode with
  | none => s.refuse .outOfRange
  | some mode =>
    let cls := a.cls.bind classOf
    if !thas s.act.counters n || (a.cls.isSome && cls.isNone)
        || (match cls with | some k => !k.hasMode mode | none => false) || qualsBad cls a.quals || a.threshold == some 0 then
      s.refuse .outOfRange
    else if a.quals == some 0 then s.refuse .emptySet
    else
      let t := { s with act.counters := tmod s.act.counters n (fun _ =>
        { cls := cls, quals := a.quals, mode := mode, threshold := a.threshold }) }
      t.answer (.counter (t.counterReport n))

/-- R187. -/
def State.counterReadOf (s : State) (m : Mask) : Handled :=
  if m = 0 then s.refuse .emptySet else s.answer (.counters ((bitsOf m 8 1).map s.counterRead))

/-- R187: a cleared counter. -/
def Counter.cleared (c : Counter) : Counter := { c with value := 0, overflow := false, notified := false }

/-- R187. -/
def State.counterClearOf (s : State) (m : Mask) : Handled :=
  if m = 0 then s.refuse .emptySet
  else
    let ns := bitsOf m 8 1
    ({ s with act.counters := ns.foldl (fun l n => tmod l n Counter.cleared) s.act.counters }).answer
      (.cleared (ns.map (fun n => (n, (s.counter n).value, (s.counter n).overflow))))

/-- R189. -/
def State.timingArmOf (s : State) (m : Mask) : Handled :=
  if !within m 2 then s.refuse .outOfRange
  else
    let monitor : Monitor :=
      { state := if m = 0 then .disarmed else .armed, stow := m.getLsbD 0, observe := m.getLsbD 1 }
    ({ s with act.monitor := monitor }).answer .accepted

/-- R189. -/
def State.timingReadOf (s : State) : Handled := s.answer (.timing s.timingReport)

/-- R185: one tick of the 1 s timer. -/
def State.secondTick (s : State) : State :=
  (s.bumpWhere (fun c => c.mode == .duration && c.holds s.act.conds))

/-- COUNTER_SET (R183). -/
def execCounterSet (tag n : Nat) (a : CounterArgs) (s : State) : Step :=
  .next (s.onRequest (.counterSet tag n a) (fun s => s.counterSetOf n a))

/-- COUNTER_READ (R187). -/
def execCounterRead (tag : Nat) (m : Mask) (s : State) : Step :=
  .next (s.onRequest (.counterRead tag m) (fun s => s.counterReadOf m))

/-- COUNTER_CLEAR (R187). -/
def execCounterClear (tag : Nat) (m : Mask) (s : State) : Step :=
  .next (s.onRequest (.counterClear tag m) (fun s => s.counterClearOf m))

/-- TIMING_ARM (R189). -/
def execTimingArm (tag : Nat) (m : Mask) (s : State) : Step :=
  .next (s.onRequest (.timingArm tag m) (fun s => s.timingArmOf m))

/-- TIMING_READ (R189). -/
def execTimingRead (tag : Nat) (s : State) : Step :=
  .next (s.onRequest (.timingRead tag) (fun s => s.timingReadOf))

/-- ONE_SECOND_TICK (R185): the timer runs from power-up and restarts itself. -/
def execOneSecondTick (s : State) : Step :=
  .next (s.onTimer (some s.act.tickDue) (fun t => { t.secondTick with act.tickDue := s.act.tickDue + 1000 }))

end Sys2Proof.Machine
end

