-- ==== Sys2Proof/Machine/Feeders.lean ====
section
/-! DEFINITION. The requests of the Feeder Budget Unit (R128, R140). -/

namespace Sys2Proof.Machine

/-- R128: the settings of a feeder written in their order: the limit, then the stow reserve and the heat cap, each clamped to it. -/
def FeederRec.withSettings (r : FeederRec) (limit reserve heatCap : Option Nat) : FeederRec :=
  let l := limit.getD r.limit
  { r with limit := l, reserve := min l (reserve.getD r.reserve), heatCap := min l (heatCap.getD r.heatCap) }

/-- R128: the account after the write, with the BUDGET notice and the pass trigger. -/
def State.applyFeederSet (s : State) (f : Feeder) (limit reserve heatCap : Option Nat) : State :=
  let wasOver := (s.feeder f).over
  (((s.modFeeder f (fun r => r.withSettings limit reserve heatCap)).settleFrom f wasOver).raise (.budget f)).trigger

/-- R128. -/
def State.feederSetOf (s : State) (b : Nat) (limit reserve heatCap : Option Nat) : Handled :=
  match feederOf b with
  | none => s.refuse .outOfRange
  | some f =>
    if 400000 < limit.getD 0 then s.refuse .outOfRange
    else
      let old := s.feeder f
      let t := s.applyFeederSet f limit reserve heatCap
      let r := t.feeder f
      t.answer (.feederSet r.limit r.reserve r.heatCap r.ceiling (r.reserve != reserve.getD old.reserve)
        (r.heatCap != heatCap.getD old.heatCap))

/-- R140. -/
def State.feederStatusOf (s : State) (m : Mask) : Handled :=
  if !within m 4 then s.refuse .outOfRange
  else if m = 0 then s.refuse .emptySet
  else s.answer (.feeders ((feedersOf m).map s.feederStatusReport))

/-- FEEDER_SET (R128). -/
def execFeederSet (tag f : Nat) (limit reserve heatCap : Option Nat) (s : State) : Step :=
  .next (s.onRequest (.feederSet tag f limit reserve heatCap) (fun s => s.feederSetOf f limit reserve heatCap))

/-- FEEDER_STATUS (R140). -/
def execFeederStatus (tag : Nat) (m : Mask) (s : State) : Step :=
  .next (s.onRequest (.feederStatus tag m) (fun s => s.feederStatusOf m))

end Sys2Proof.Machine
end

