-- ==== Sys2Proof/Machine/Dishes.lean ====
section
/-! DEFINITION. The requests of the Drive Supervisor (01_dish_drive_supervision.md): status, stop, rehome, change flags, profile and
assignment; and the write of the heat and shed enables that DISH_SET_PROFILE and HEAT_ENABLE share (R159). -/

namespace Sys2Proof.Machine

/-! ## Status, stop, rehome, flags -/

/-- R27. -/
def State.dishStatusOf (s : State) (ds : DishSet) : Handled :=
  if ds = 0 then s.refuse .emptySet else s.answer (.dishes ((members ds).map s.dishReport))

/-- R22: the stop order on one dish and the result it reports. -/
def State.hostStop (s : State) (d : Nat) : State × StopResult :=
  let t := s.stopOrder d .stoppedByHost
  (t, if (s.dish d).state == .stopping then .alreadyStopping else if (t.dish d).state == .stopping then .stopOrdered else .notMoving)

/-- R22: the stop orders of a dish list, in order, with their results. -/
def State.hostStops (s : State) : List Nat → State × List (Nat × StopResult)
  | [] => (s, [])
  | d :: ds =>
    let (s1, r) := s.hostStop d
    let (s2, rest) := State.hostStops s1 ds
    (s2, (d, r) :: rest)

/-- R22. -/
def State.dishStopOf (s : State) (ds : DishSet) : Handled :=
  if ds = 0 then s.refuse .emptySet
  else
    let (t, l) := s.hostStops (members ds)
    t.answer (.stops l)

/-- Whether the last status of a dish carries a drive fault code. -/
def Dish.driveFaulted (r : Dish) : Bool :=
  match r.last with
  | some st => st.fault != 0
  | none => false

/-- R13. -/
def State.rehome (s : State) (d : Nat) : Handled :=
  if !s.isDish d then s.refuse .outOfRange
  else if (s.dish d).state != .faulted then s.refuse .state
  else if (s.dish d).driveFaulted then s.refuse .faultPresent
  else if (s.dish d).reservation.isSome then s.refuse .busy
  else (s.modDish d (fun r => { r with supFault := .clear, state := .settling, good := 0 })).answer .accepted

/-- R26. The reply lists every dish of the array with a flag set afterwards, also outside the request's set, where R26 leaves the list's scope
open (DEDUCED, log entry 7). -/
def State.ackChanges (s : State) (ds : DishSet) (m : Mask) : Handled :=
  if !within m 5 then s.refuse .outOfRange
  else
    let t := (members ds).foldl (fun t d => t.modDish d (fun r => { r with flags := r.flags.without m })) s
    t.answer (.flags (t.flagged t.dishNumbers))

/-! ## Profile -/

/-- A field as it is written, and its name where it was clamped (R1). -/
def clampField (name : ClampField) (lo hi : Nat) (x : Option Nat) : Option Nat × List ClampField :=
  match x with
  | none => (none, [])
  | some v => (some (clampNat lo hi v), if inRange lo hi v then [] else [name])

/-- Table 3: the profile fields of a request as they are written, with the clamped ones. -/
def clampProfile (e : ProfileEdit) : ProfileEdit × List ClampField :=
  let bSlew := clampField .bSlew 0 30000 e.bSlew
  let bHome := clampField .bHome 0 30000 e.bHome
  let c := clampField .c 0 255 e.c
  let dmax := clampField .dmax 1000 60000 e.dmax
  let h := clampField .h 0 6000 e.h
  let vmaxAz := clampField .vmaxAz 1 10000 e.vmaxAz
  let vmaxEl := clampField .vmaxEl 1 10000 e.vmaxEl
  let aAz := clampField .aAz 1 5000 e.aAz
  let aEl := clampField .aEl 1 5000 e.aEl
  ({ bSlew := bSlew.1, bHome := bHome.1, c := c.1, dmax := dmax.1, h := h.1, vmaxAz := vmaxAz.1, vmaxEl := vmaxEl.1, aAz := aAz.1,
     aEl := aEl.1, shedEl := e.shedEl.map (clampInt 5000 90000), shedEnable := e.shedEnable, heatEnable := e.heatEnable },
   bSlew.2 ++ bHome.2 ++ c.2 ++ dmax.2 ++ h.2 ++ vmaxAz.2 ++ vmaxEl.2 ++ aAz.2 ++ aEl.2
     ++ (match e.shedEl with | some x => if elOk x then [] else [.shedEl] | none => []))

/-- Table 4: the supervision settings of a request as they are written, with the clamped ones. -/
def clampSupervision (e : SupervisionEdit) : SupervisionEdit × List ClampField :=
  let nSettle := clampField .nSettle 2 50 e.nSettle
  let nMiss := clampField .nMiss 2 16 e.nMiss
  let homeTimeout := clampField .homeTimeout 30 600 e.homeTimeout
  let replyWindow := clampField .replyWindow 1 20 e.replyWindow
  ({ nSettle := nSettle.1, nMiss := nMiss.1, homeTimeout := homeTimeout.1, replyWindow := replyWindow.1 },
   nSettle.2 ++ nMiss.2 ++ homeTimeout.2 ++ replyWindow.2)

/-- Write the carried fields, but for the two enables, which MLC takes (`State.writeEnables`). -/
def applyProfile (e : ProfileEdit) (p : Profile) : Profile :=
  { p with bSlew := e.bSlew.getD p.bSlew, bHome := e.bHome.getD p.bHome, c := e.c.getD p.c, dmax := e.dmax.getD p.dmax,
           h := e.h.getD p.h, vmaxAz := e.vmaxAz.getD p.vmaxAz, vmaxEl := e.vmaxEl.getD p.vmaxEl, aAz := e.aAz.getD p.aAz,
           aEl := e.aEl.getD p.aEl, shedEl := e.shedEl.getD p.shedEl }

/-- R1: whether the request writes B_slew, B_home, C, Dmax or H. -/
def pricesProfile (e : ProfileEdit) : Bool := e.bSlew.isSome || e.bHome.isSome || e.c.isSome || e.dmax.isSome || e.h.isSome

/-- R1: write one dish's profile; the account of its feeder follows a change of H. -/
def State.writeProfile (s : State) (e : ProfileEdit) (d : Nat) : State :=
  (s.modDish d (fun r => { r with profile := applyProfile e r.profile })).settle (s.dish d).feeder

/-! ## Heat and shed enables (R159) -/

/-- A write of the enables of one dish: the heater state follows by R144, and a waiting SHED task is dropped when shed enable is
turned off. -/
def State.writeEnablesOn (s : State) (heat shed : Option Bool) (d : Nat) : State :=
  let p := (s.dish d).profile
  let s1 := (s.modDish d (fun r =>
    { r with profile.heatEnable := heat.getD p.heatEnable, profile.shedEnable := shed.getD p.shedEnable })).gateHeater d
  if p.shedEnable && shed == some false then s1.dropWaitingShed d else s1

/-- R159: the enables are written to the dishes in order; the list holds the dishes whose heater state changed. -/
def State.writeEnables (s : State) (heat shed : Option Bool) (ds : List Nat) : State × List (Nat × HeaterState) :=
  let s1 := ds.foldl (fun t d => t.writeEnablesOn heat shed d) s
  let changed := ds.filter (fun d => (s1.heater d).state != (s.heater d).state)
  let s2 := (allFeeders.filter (fun f => changed.any (fun d => (s1.dish d).feeder == f))).foldl (fun t f => t.allocateOn f) s1
  (s2, changed.map (fun d => (d, (s2.heater d).state)))

/-- R2: write the supervision settings; the reply window goes to PBC. -/
def State.writeSupervision (s : State) (e : SupervisionEdit) : State :=
  { s with dsv.nSettle := e.nSettle.getD s.dsv.nSettle, dsv.nMiss := e.nMiss.getD s.dsv.nMiss,
           dsv.homeTimeout := e.homeTimeout.getD s.dsv.homeTimeout, pbc.replyWindow := e.replyWindow.getD s.pbc.replyWindow }

/-- R1, R2. The dishes are written in dish order, each change of H reaching the ceiling rule at its dish (DESIGN CHOICE, log entry 30). A
wholly empty request is EMPTY_SET, and the enables are written after the other fields (DEDUCED, log entry 18). -/
def State.setProfile (s : State) (ds : DishSet) (pe : ProfileEdit) (se : SupervisionEdit) : Handled :=
  if ds = 0 && (pe != {} || se == {}) then s.refuse .emptySet
  else
    let (p, cut1) := clampProfile pe
    let (v, cut2) := clampSupervision se
    let s1 := (members ds).foldl (fun t d => t.writeProfile p d) (s.writeSupervision v)
    let s2 := (s1.writeEnables p.heatEnable p.shedEnable (members ds)).1
    (if pricesProfile p && ds != 0 then s2.trigger else s2).answer (.clamped (cut1 ++ cut2))

/-! ## Assignment -/

/-- R3: whether a dish keeps a DISH_ASSIGN from being taken. -/
def Dish.isBusy (r : Dish) : Bool := r.reservation.isSome || r.claim.isSome

/-- R3: the assignment of one dish. A feeder change moves its counted power, a zone change counts as a gain in the new zone. DESIGN CHOICE, log
entry 41: the ceiling rule is applied to the old feeder first and to the new one after it, which orders their BUDGET notices. -/
def State.assignDish (s : State) (feeder : Option Feeder) (zone : Option Nat) (d : Nat) : State :=
  let r := s.dish d
  let s1 := s.modDish d (fun r => { r with feeder := feeder.getD r.feeder, zone := zone.getD r.zone })
  let s2 := if (s1.dish d).feeder = r.feeder then s1 else (s1.settle r.feeder).settle (s1.dish d).feeder
  if (s2.dish d).zone ≠ r.zone && s2.eligible d then s2.gain d else s2

/-- R3. The dishes are reassigned in dish order (DESIGN CHOICE, log entry 30), each with its old feeder before its new one (log entry 41). -/
def State.assign (s : State) (ds : DishSet) (feeder zone : Option Nat) : Handled :=
  if ds = 0 then s.refuse .emptySet
  else if (match feeder with | some b => (feederOf b).isNone | none => false)
      || (match zone with | some z => !inRange 1 8 z | none => false) then s.refuse .outOfRange
  else if (members ds).any (fun d => (s.dish d).isBusy) then s.refuse .busy
  else ((members ds).foldl (fun t d => t.assignDish (feeder.bind feederOf) zone d) s).trigger.answer .accepted

/-! ## The meanings -/

/-- DISH_STATUS (R27). -/
def execDishStatus (tag : Nat) (ds : DishSet) (s : State) : Step :=
  .next (s.onRequest (.dishStatus tag ds) (fun s => s.dishStatusOf ds))

/-- DISH_STOP (R22). -/
def execDishStop (tag : Nat) (ds : DishSet) (s : State) : Step :=
  .next (s.onRequest (.dishStop tag ds) (fun s => s.dishStopOf ds))

/-- DISH_REHOME (R13). -/
def execDishRehome (tag d : Nat) (s : State) : Step :=
  .next (s.onRequest (.dishRehome tag d) (fun s => s.rehome d))

/-- DISH_ACK_CHANGES (R26). -/
def execDishAckChanges (tag : Nat) (ds : DishSet) (flags : Mask) (s : State) : Step :=
  .next (s.onRequest (.dishAckChanges tag ds flags) (fun s => s.ackChanges ds flags))

/-- DISH_SET_PROFILE (R1, R2). -/
def execDishSetProfile (tag : Nat) (ds : DishSet) (p : ProfileEdit) (v : SupervisionEdit) (s : State) : Step :=
  .next (s.onRequest (.dishSetProfile tag ds p v) (fun s => s.setProfile ds p v))

/-- DISH_ASSIGN (R3). -/
def execDishAssign (tag : Nat) (ds : DishSet) (feeder zone : Option Nat) (s : State) : Step :=
  .next (s.onRequest (.dishAssign tag ds feeder zone) (fun s => s.assign ds feeder zone))

end Sys2Proof.Machine
end

