-- ==== Sys2Proof/Machine/Melt.lean ====
section
/-! DEFINITION. The requests of the Melt Controller and the sensor hold (R143, R149, R159, R161). -/

namespace Sys2Proof.Machine

/-- R143: the policy with the carried values applied. -/
def policyEdited (e : PolicyEdit) (p : Policy) : Policy :=
  { bandHigh := e.bandHigh.getD p.bandHigh, bandLow := e.bandLow.getD p.bandLow, guardOn := e.guardOn.getD p.guardOn,
    guardOff := e.guardOff.getD p.guardOff, minMelt := e.minMelt.getD p.minMelt, sensorHold := e.sensorHold.getD p.sensorHold }

/-- R143: every carried value lies in its range (Table 39). -/
def policyEditOk (e : PolicyEdit) : Bool :=
  let temp (x : Option Int) : Bool := match x with | some v => tempOk v | none => true
  let time (x : Option Nat) : Bool := match x with | some v => v ≤ 3600 | none => true
  temp e.bandHigh && temp e.bandLow && temp e.guardOn && temp e.guardOff && time e.minMelt && time e.sensorHold

/-- R143. -/
def State.heatPolicyOf (s : State) (e : PolicyEdit) : Handled :=
  let p := policyEdited e s.mlc.policy
  if !(policyEditOk e && p.bandLow < p.bandHigh && p.guardOn < p.guardOff) then s.refuse .outOfRange else ({ s with mlc.policy := p }).answer (.policy p)

/-- R159. -/
def State.heatEnableOf (s : State) (ds : DishSet) (heat shed : Option Bool) : Handled :=
  if ds = 0 then s.refuse .emptySet
  else
    let (t, l) := s.writeEnables heat shed (members ds)
    t.answer (.heatChanged l)

/-- R161. -/
def State.heatStatusOf (s : State) (ds : DishSet) (m : Mask) : Handled :=
  if !within m 4 then s.refuse .outOfRange
  else if ds = 0 && m = 0 then s.refuse .emptySet
  else s.answer (.heat s.mlc.policy ((members ds).map s.heatDishReport) ((feedersOf m).map s.heatFeederReport))

/-- R149: the moment at which a running hold expires. -/
def SensorHold.due : SensorHold → Option Nat
  | .running t => some t
  | _ => none

/-- R149: expiry of a running hold. -/
def State.holdExpires (s : State) (d : Nat) : State :=
  (s.modHeater d (fun h => { h with hold := .expired, requested := 0 })).allocateOn (s.dish d).feeder

/-- HEAT_POLICY_SET (R143). -/
def execHeatPolicySet (tag : Nat) (e : PolicyEdit) (s : State) : Step :=
  .next (s.onRequest (.heatPolicySet tag e) (fun s => s.heatPolicyOf e))

/-- HEAT_ENABLE (R159). -/
def execHeatEnable (tag : Nat) (ds : DishSet) (heat shed : Option Bool) (s : State) : Step :=
  .next (s.onRequest (.heatEnable tag ds heat shed) (fun s => s.heatEnableOf ds heat shed))

/-- HEAT_STATUS (R161). -/
def execHeatStatus (tag : Nat) (ds : DishSet) (m : Mask) (s : State) : Step :=
  .next (s.onRequest (.heatStatus tag ds m) (fun s => s.heatStatusOf ds m))

/-- SENSOR_HOLD_EXPIRY (R149). -/
def execSensorHoldExpiry (d : Nat) (s : State) : Step :=
  .next (s.onTimer (s.heater d).hold.due (fun s => s.holdExpires d))

end Sys2Proof.Machine
end

