-- ==== Sys2Proof/Machine/Pass.lean ====
section
/-! DEFINITION. The admission pass (R119, R120, R130 to R136): the order of the waiting claims, the tests, the admission of a claim,
and the end of the pass. -/

namespace Sys2Proof.Machine

/-! ## The order of the claims -/

/-- A unit of the pass: one claim, or the WAITING members of a GANG record. -/
inductive PassUnit where
  | claim (d : Nat) (cls : ClaimClass)
  | gang (id : Nat) (ds : List Nat)
  deriving DecidableEq, Repr

/-- The zones with an open wave, in order of its creation, zones in order where it is the same (R120). -/
def State.waveOrder (s : State) : List Nat :=
  sortBy (fun x y => match (s.zone x).wave, (s.zone y).wave with | some a, some b => a.moment < b.moment | _, _ => false)
    (s.zoneNumbers.filter (fun z => (s.zone z).wave.isSome))

/-- The WAITING members of a wave, in dish order. -/
def State.waveWaiting (s : State) (z : Nat) : List Nat :=
  match (s.zone z).wave with
  | none => []
  | some w => (w.members.filter (fun m => m.state == .waiting)).map (·.dish)

/-- The waiting auto tasks of one kind, in dish order. -/
def State.taskWaiting (s : State) (t : Task) : List Nat :=
  s.dishNumbers.filter (fun d => (s.dish d).task == some t && (s.dish d).isWaiting)

/-- The WAITING members of a host record, in dish order. -/
def SlewRecord.waiting (r : SlewRecord) : List Nat := (r.members.filter (fun m => m.state == .waiting)).map (·.dish)

/-- The units of one open record (R119). -/
def SlewRecord.units (r : SlewRecord) : List PassUnit :=
  if r.complete || r.waiting.isEmpty then []
  else if r.mode == .gang then [.gang r.id r.waiting]
  else r.waiting.map (.claim · .observe)

/-- R120: the five tiers. -/
def State.passUnits (s : State) : List PassUnit :=
  (s.waveOrder.flatMap s.waveWaiting).map (.claim · .stow) ++ (s.taskWaiting .stow).map (.claim · .stow)
    ++ (s.taskWaiting .home).map (.claim · .home) ++ s.sls.table.flatMap (·.units) ++ (s.taskWaiting .shed).map (.claim · .shed)

/-! ## The walk -/

/-- What a pass keeps for each feeder: the two marks (R133) and the shed demand of its first failing STOW claim (R136). -/
structure FeederMarks where
  held : Bool := false
  stowHeld : Bool := false
  demand : Option Nat := none
  deriving DecidableEq, Repr

abbrev Marks := PerFeeder FeederMarks

def Marks.clear : Marks := ⟨{}, {}, {}, {}⟩

/-- R135: the budget-waiting mark of a claim is cleared. -/
def State.unmarkWait (s : State) (d : Nat) : State :=
  s.modDish d (fun r => { r with claim := r.claim.map (fun c => { c with budgetWaiting := false }) })

/-- R135: a claim that is not admitted for budget is marked; the first time ACT receives one budget wait. -/
def State.markWait (s : State) (d : Nat) (cls : ClaimClass) : State :=
  if (match (s.dish d).claim with | some c => c.budgetWaiting | none => true) then s
  else
    (s.modDish d (fun r => { r with claim := r.claim.map (fun c => { c with budgetWaiting := true }) })).count .budgetWait (some cls.bit)

/-- Whether the dish's claim is a host member marked ice-held. -/
def State.iceHeld (s : State) (d : Nat) : Bool :=
  match (s.dish d).claim with
  | some { ref := .host id, .. } => match (s.record id).bind (·.member d) with | some m => m.ice | none => false
  | _ => false

/-- R130: whether a claim is skipped. -/
def State.skips (s : State) (d : Nat) (cls : ClaimClass) : Bool :=
  !s.eligibleFor d cls || s.iceHeld d || (cls == .shed && (s.zone (s.dish d).zone).state == .watch)

/-! ## Admission -/

/-- The position of the last status, read for a dish that has none as the end of its range; no admission reads it so, since an
eligible dish has a last status. -/
def Dish.position (r : Dish) : Status :=
  r.last.getD { az := 0, el := 5000, moving := false, inPosition := false, echo := 0, referenced := false, owner := .remote, key := .clear,
                fault := 0, temp := 0, surface := .dry, applied := 0 }

/-- R125, R81: the target and the resolved rates of a claim. -/
def State.targetOf (s : State) (d : Nat) (cls : ClaimClass) : Int × Int × Nat × Nat :=
  let r := s.dish d
  let p := r.profile
  match cls, r.claim with
  | .observe, some { ref := .host id, .. } =>
    match s.record id with
    | some rec => (rec.targetAz, rec.targetEl, resolveRate rec.rateAz p.vmaxAz, resolveRate rec.rateEl p.vmaxEl)
    | none => (r.position.az, r.position.el, p.vmaxAz, p.vmaxEl)
  | .shed, _ => (r.position.az, p.shedEl, p.vmaxAz, p.vmaxEl)
  | _, _ =>
    let z := s.zone r.zone
    (z.stowAz.getD r.position.az, z.stowEl, p.vmaxAz, p.vmaxEl)

/-- R134 step 4: the admission is recorded at the claim's owner. -/
def State.recordAdmission (s : State) (d demand estimate : Nat) : State :=
  match (s.dish d).claim with
  | some { ref := .host id, .. } =>
    (s.modRecord id (·.modMember d (fun m =>
      { m with state := .admitted, running := false, demand := some demand, estimate := some estimate }))).monitorAdmitted (.host id)
  | some { ref := .wave z, .. } =>
    (s.modZone z (fun r => { r with wave := r.wave.map (·.setMember d .admitted) })).monitorAdmitted (.wave z)
  | _ => s

/-- The dish record at admission: the claim is admitted, unmarked, with the slew timeout that its slew timer will be armed with. -/
def Dish.admitted (r : Dish) (timeout : Option Nat) : Dish :=
  { r with claim := r.claim.map (fun c => { c with standing := .admitted, running := false, budgetWaiting := false }),
           slewTimeout := timeout, acceptedSeq := none }

/-- R134: the steps of one admission. -/
def State.admitClaim (s : State) (d : Nat) (cls : ClaimClass) : State :=
  let demand := s.demand d cls
  let p := (s.dish d).profile
  let s1 := s.reserve d demand
  if cls == .home then
    (((s1.modDish d (·.admitted none)).recordAdmission d demand 0).orderMove d .home).count .admission (some cls.bit)
  else
    let (az, el, vAz, vEl) := s1.targetOf d cls
    let est := slewEstimate (s.dish d).position p az el vAz vEl
    let s2 := (s1.modDish d (·.admitted (some (slewTimeoutOf est)))).recordAdmission d demand est
    (s2.orderMove d (.move az el vAz vEl p.aAz p.aEl)).count .admission (some cls.bit)

/-! ## The tests -/

/-- R131: the test of one claim of a class that must leave the stow reserve free. -/
def FeederRec.carries (r : FeederRec) (demand : Nat) : Bool := r.committed + demand + r.reserve ≤ r.ceiling

/-- R131: the test of a STOW claim. -/
def FeederRec.carriesStow (r : FeederRec) (demand : Nat) : Bool := r.committed + demand ≤ r.ceiling

/-- R133, R136: a STOW claim at its place. -/
def State.passStow (s : State) (m : Marks) (d : Nat) : State × Marks :=
  let f := (s.dish d).feeder
  let r := s.feeder f
  let demand := s.demand d .stow
  if (m.get f).stowHeld then (s.markWait d .stow, m)
  else if r.carriesStow demand then (s.admitClaim d .stow, m)
  else (s.markWait d .stow, m.set f { held := true, stowHeld := true, demand := some (r.committed + demand - r.ceiling) })

/-- R131, R133: a HOME, OBSERVE or SHED claim at its place. -/
def State.passOther (s : State) (m : Marks) (d : Nat) (cls : ClaimClass) : State × Marks :=
  let f := (s.dish d).feeder
  if (m.get f).held then (s.markWait d cls, m)
  else if (s.feeder f).carries (s.demand d cls) then (s.admitClaim d cls, m)
  else (s.markWait d cls, m.set f { m.get f with held := true })

/-- R132: the summed demand of a GANG unit on one feeder. -/
def State.gangSum (s : State) (ds : List Nat) (f : Feeder) : Nat :=
  (ds.filter (fun d => (s.dish d).feeder == f)).foldl (fun acc d => acc + s.demand d .observe) 0

/-- R132: a GANG unit at its place. -/
def State.passGang (s : State) (m : Marks) (ds : List Nat) : State × Marks :=
  let touched := allFeeders.filter (fun f => ds.any (fun d => (s.dish d).feeder == f))
  if touched.all (fun f => !(m.get f).held && (s.feeder f).carries (s.gangSum ds f)) then
    (ds.foldl (fun t d => t.admitClaim d .observe) s, m)
  else
    (ds.foldl (fun t d => t.markWait d .observe) s, touched.foldl (fun m f => m.set f { m.get f with held := true }) m)

/-- R130 to R133: one unit at its place in the pass. -/
def State.passUnit (s : State) (m : Marks) : PassUnit → State × Marks
  | .claim d cls =>
    if s.skips d cls then (s.unmarkWait d, m) else if cls == .stow then s.passStow m d else s.passOther m d cls
  | .gang _ ds =>
    if ds.any (fun d => s.skips d .observe) then (ds.foldl (fun t d => t.unmarkWait d) s, m) else s.passGang m ds

/-- R133: the walk. -/
def State.passWalk (s : State) (m : Marks) : List PassUnit → State × Marks
  | [] => (s, m)
  | u :: us =>
    let (s1, m1) := s.passUnit m u
    State.passWalk s1 m1 us

/-! ## The end of the pass -/

/-- R135: the number of budget-waiting claims of a class on a feeder. -/
def State.waitCount (s : State) (f : Feeder) (cls : ClaimClass) : Nat :=
  s.dsv.dishes.countP (fun r => r.feeder == f && r.claimClass == some cls
    && (match r.claim with | some c => c.budgetWaiting | none => false))

/-- R135: the waiting counts of a feeder. -/
def State.waitCounts (s : State) (f : Feeder) : WaitCounts :=
  { stow := s.waitCount f .stow, home := s.waitCount f .home, observe := s.waitCount f .observe, shed := s.waitCount f .shed }

/-- R135, R136, R139: one feeder at the end of a pass. -/
def State.closeFeeder (s : State) (m : Marks) (f : Feeder) : State :=
  let r := s.feeder f
  let waits := s.waitCounts f
  let demand := (m.get f).demand
  let s1 := s.modFeeder f (fun r => { r with waits := waits, shedDemand := demand })
  if r.shedDemand != demand || (r.waits.stow == 0) != (waits.stow == 0) then s1.raise (.budget f) else s1

/-- R135: the classes with a budget-waiting claim. -/
def State.waitingClasses (s : State) : Mask :=
  let any (p : WaitCounts → Nat) : Bool := allFeeders.any (fun f => 0 < p (s.feeder f).waits)
  (if any (·.stow) then bit 0 else 0) ||| (if any (·.home) then bit 1 else 0) ||| (if any (·.observe) then bit 2 else 0)
    ||| (if any (·.shed) then bit 3 else 0)

/-- R135 to R137: the end of a pass: the waiting counts, the demands, and MLC's allocation on all four feeders, each in letter order
(DESIGN CHOICE, log entry 30). -/
def State.endPass (s : State) (m : Marks) : State :=
  let s1 := allFeeders.foldl (fun t f => t.closeFeeder m f) s
  let s2 := { s1 with act.conds.budgetWait := s1.waitingClasses, fbu.passDue := false }
  allFeeders.foldl (fun t f => t.allocateOn f) s2

/-- R133: an admission pass. -/
def State.runPass (s : State) : State :=
  let (s1, m) := s.passWalk Marks.clear s.passUnits
  s1.endPass m

/-- ADMISSION_PASS (R133): a due pass. -/
def execAdmissionPass (s : State) : Step := .next (s.onEvent s.fbu.passDue (·.runPass))

end Sys2Proof.Machine
end

