-- ==== Sys2Proof/Machine/Pedestal.lean ====
section
/-! DEFINITION. The Pedestal Bus Controller at work (02_the_pedestal_link.md): the choice of a transaction (R38 to R40), its start
(R43, R44), its end (R31 to R33), and the three supervision timers of a dish. -/

namespace Sys2Proof.Machine

/-! ## The arbiter -/

/-- The dish with the oldest pending command of one kind, the lowest dish where ages are equal (R38, note 1 of Table 13). -/
def State.oldest (s : State) (age : Slots → Option Nat) : Option Nat :=
  (s.dishNumbers.foldl (fun (best : Option (Nat × Nat)) d =>
    match age (s.slots d), best with
    | some a, some (b, x) => if a < b then some (a, d) else some (b, x)
    | some a, none => some (a, d)
    | none, best => best) none).map (·.2)

/-- R40: the round's absent candidate: the first ABSENT dish at or after the absent pointer, counting on from 48 to 1. -/
def State.absentCandidate (s : State) : Option Nat :=
  let n := s.dsv.dishes.length
  ((List.range n).map (fun i => (s.pbc.absentPtr - 1 + i) % n + 1)).find? (fun d => (s.dish d).state == .absent)

/-- R40: the start of a round. -/
def State.startRound (s : State) : State :=
  let cand := s.absentCandidate
  let ptr := match cand with | some d => d % s.dsv.dishes.length + 1 | none => s.pbc.absentPtr
  { s with pbc.slots := s.pbc.slots.map (fun sl => { sl with polled := false }), pbc.candidate := cand, pbc.absentPtr := ptr,
           pbc.pollPtr := 1 }

/-- R40: the first dish from the poll pointer on that is unmarked and is not ABSENT or is the candidate. -/
def State.pollTarget (s : State) : Option Nat :=
  s.dishNumbers.find? (fun d =>
    s.pbc.pollPtr ≤ d && !(s.slots d).polled && ((s.dish d).state != .absent || s.pbc.candidate == some d))

/-- R40: choose the dish to poll, in a new round where the present one has none left. -/
def State.choosePoll (s : State) : Option (State × Nat) :=
  match s.pollTarget with
  | some d => some ({ s with pbc.pollPtr := d + 1 }, d)
  | none =>
    let t := s.startRound
    match t.pollTarget with
    | some d => some ({ t with pbc.pollPtr := d + 1 }, d)
    | none => none

/-! ## The start of a transaction -/

/-- The time in ms that `n` characters take back to back, 11 µs each (R29), in whole ms of the time base (log entry 4). -/
def charTime (n : Nat) : Nat := (11 * n + 999) / 1000

/-- The transaction whose frame starts now: the reply window opens at the frame's end and lasts for the setting in force (R31). -/
def State.transaction (s : State) (k : TxKind) (station : Nat) (frame : List PlChar) : Transaction :=
  let frameEnd := s.now + charTime frame.length
  { kind := k, station := station, frameEnd := frameEnd, windowDue := frameEnd + s.pbc.replyWindow, frame := frame }

/-- A transaction becomes the one in flight (R31). -/
def State.putInFlight (s : State) (k : TxKind) (station : Nat) (frame : List PlChar) : State :=
  { s with pbc.flight := some (s.transaction k station frame) }

/-- The level of PL_DE: asserted for the duration of a frame that PBC sends, released at its end (R29, log entry 16). -/
def State.plDe (s : State) : Bool := match s.pbc.flight with | some x => s.now < x.frameEnd | none => false

/-- R46: a transmission of a command kept after a miss. -/
def State.countRetry (s : State) : State :=
  ({ s with pbc.totals.retries := inc32 s.pbc.totals.retries }).count .commandRetry none

/-- R44: the burst of three ALL_STOP copies. In QUIET it cancels the quiet timer (R208). -/
def State.startAllStop (s : State) : State :=
  let f := plFrame 127 0x06 []
  let s1 := { s with pbc.allStop := false,
                     nvs.quietDue := if s.nvs.phase == RestartPhase.quiet then none else s.nvs.quietDue }
  s1.putInFlight .allStop 127 (f ++ f ++ f)

/-- R45: the HEAT_ALL_OFF broadcast. -/
def State.startHeatAllOff (s : State) : State :=
  ({ s with pbc.heatAllOff := false }).putInFlight .heatAllOff 127 (plFrame 127 0x07 [])

/-- A STOP goes into flight (R42). -/
def State.startStop (s : State) (d : Nat) : State :=
  let retry := match (s.slots d).stopPending with | some p => p.retry | none => false
  let s1 := s.modSlots d (fun sl => { sl with stopPending := none, stopFlight := some false })
  (if retry then s1.countRetry else s1).putInFlight .stop d (plFrame d 0x04 [])

/-- A MOVE or HOME goes into flight (R41); a MOVE advances the dish's move sequence (R43). -/
def State.startMove (s : State) (d : Nat) : State :=
  match (s.slots d).movePending with
  | none => s
  | some p =>
    let s1 := s.modSlots d (fun sl =>
      { sl with movePending := none, moveFlight := some { cmd := p.cmd, attempts := p.attempts + 1, withdrawn := false } })
    let s2 := if p.isRetry then s1.countRetry else s1
    match p.cmd with
    | .home => s2.putInFlight .home d (plFrame d 0x03 [])
    | .move az el rateAz rateEl accAz accEl =>
      let seq := ((s.slots d).seq + 1) % 16
      (s2.modSlots d (fun sl => { sl with seq := seq })).putInFlight (.move seq) d
        (plFrame d 0x02 (moveBody seq az el rateAz rateEl accAz accEl))

/-- A HEAT goes into flight (R42). -/
def State.startHeat (s : State) (d : Nat) : State :=
  match (s.slots d).heatPending with
  | none => s
  | some p =>
    let s1 := s.modSlots d (fun sl => { sl with heatPending := none, heatFlight := some { stage := p.stage, withdrawn := false } })
    (if p.retry then s1.countRetry else s1).putInFlight (.heat p.stage) d (plFrame d 0x05 (le 1 p.stage))

/-- The next POLL (R40). -/
def State.startPoll (s : State) : State :=
  match s.choosePoll with
  | some (t, d) => t.putInFlight .poll d (plFrame d 0x01 [])
  | none => s

/-- Table 13: the choice of the next transaction, and its start. -/
def State.startTransaction (s : State) : State :=
  if s.pbc.allStop then s.startAllStop
  else if s.pbc.heatAllOff then s.startHeatAllOff
  else if 8 ≤ s.pbc.commandCount then s.startPoll
  else
    match s.oldest (fun sl => sl.stopPending.map (·.age)) with
    | some d => s.startStop d
    | none =>
      match s.oldest (fun sl => sl.movePending.map (·.age)) with
      | some d => s.startMove d
      | none =>
        match s.oldest (fun sl => sl.heatPending.map (·.age)) with
        | some d => s.startHeat d
        | none => s.startPoll

/-- R38, R45: whether a transaction can start: none is in flight, and in QUIET only a broadcast is taken. -/
def State.canTransact (s : State) : Bool :=
  s.pbc.flight.isNone && (s.nvs.phase != .quiet || s.pbc.allStop || s.pbc.heatAllOff)

/-! ## The end of a transaction -/

/-- R49, R208: what the end of a transaction does in QUIET. -/
def State.afterTransaction (s : State) : State :=
  if s.nvs.phase == .quiet then
    if s.nvs.resetDue then s.restartReset
    else if s.nvs.quietDue.isNone then { s with nvs.quietDue := some (s.now + 2000) }
    else s
  else s

/-- The line is free again; every transaction is counted at its end (R46). -/
def State.clearFlight (s : State) : State :=
  { s with pbc.flight := none, pbc.totals.transactions := inc32 s.pbc.totals.transactions }

/-- R39: the command count after an addressed transaction. -/
def State.countCommand (s : State) (k : TxKind) : State :=
  { s with pbc.commandCount := if k = .poll then 0 else min 8 (s.pbc.commandCount + 1) }

/-- R33 step 2: a miss in the totals and at ACT. -/
def State.countMiss (s : State) (k : MissKind) : State :=
  (match k with
   | .noReply => { s with pbc.totals.noReply := inc32 s.pbc.totals.noReply }
   | .check => { s with pbc.totals.check := inc32 s.pbc.totals.check }
   | .stray => { s with pbc.totals.stray := inc32 s.pbc.totals.stray }).count .pedestalMiss (some k.bit)

/-- R37: the withdrawal stop. -/
def State.withdrawalStop (s : State) (d : Nat) : State :=
  let st := (s.dish d).state
  if st != .handset && st != .absent && (s.slots d).movePending.isNone then s.modSlots d (·.placeStop s.moment) else s

/-- Whether the command of the transaction was withdrawn (R37). -/
def Slots.isWithdrawn (sl : Slots) (k : TxKind) : Bool :=
  match k with
  | .move _ => (sl.moveFlight.map (·.withdrawn)).getD false
  | .home => (sl.moveFlight.map (·.withdrawn)).getD false
  | _ => false

/-- R33: the four steps at the end of an addressed transaction. -/
def State.endAddressed (s : State) (x : Transaction) (e : Ending) : State :=
  let d := x.station
  let withdrawn := (s.slots d).isWithdrawn x.kind
  let valid := match e with | .valid _ _ => true | .miss _ => false
  let (sl, exhausted) := (s.slots d).endOf x.kind valid s.moment
  let s1 := ((s.modSlots d (fun _ => { sl with polled := sl.polled || valid })).clearFlight).countCommand x.kind
  let s2 := if exhausted then { s1 with pbc.totals.exhaustions := inc32 s1.pbc.totals.exhaustions } else s1
  match e with
  | .valid st r =>
    let s3 := s2.takeReply d st { kind := x.kind, result := r, withdrawn := withdrawn }
    (if withdrawn && r = .accepted then s3.withdrawalStop d else s3).afterTransaction
  | .miss k =>
    let s3 := (s2.countMiss k).takeMiss d
    (if exhausted && (s3.dish d).state != .absent then s3.exhausted d else s3).afterTransaction

/-- Whether a transaction is addressed, and so answered (Table 10). -/
def TxKind.isAddressed : TxKind → Bool
  | .allStop => false
  | .heatAllOff => false
  | _ => true

/-- The addressed transaction in flight. -/
def Pbc.awaiting (p : Pbc) : Option Transaction := p.flight.filter (fun x => x.kind.isAddressed)

/-! ## The meanings -/

/-- PL_TRANSACTION_START (R38). -/
def execPlTransactionStart (s : State) : Step := .next (s.onEvent s.canTransact (·.startTransaction))

/-- R31: a reply begins while the window is open: not before the frame's end, the moment that the event is given, and not after the
window has closed. Characters that come later are discarded. -/
def State.replyMoment (s : State) (x : Transaction) : Option Nat := if s.now ≤ x.windowDue then some x.frameEnd else none

/-- PL_REPLY_RECEIVED (R32, R33): the characters of a complete reply. -/
def execPlReplyReceived (chars : List PlChar) (s : State) : Step :=
  .next (match s.pbc.awaiting with
    | some x =>
      s.onTimer (if chars.length == replyLength then s.replyMoment x else none)
        (fun t => t.endAddressed x (classify x.station x.kind chars true))
    | none => s)

/-- PL_REPLY_WINDOW_EXPIRY (R31). -/
def execPlReplyWindowExpiry (s : State) : Step :=
  .next (match s.pbc.awaiting with
    | some x => s.onTimer (some x.windowDue) (fun t => t.endAddressed x (.miss .noReply))
    | none => s)

/-- PL_REPLY_GAP (R31): the characters received before the gap. -/
def execPlReplyGap (chars : List PlChar) (s : State) : Step :=
  .next (match s.pbc.awaiting with
    | some x =>
      s.onTimer (if 1 ≤ chars.length && chars.length < replyLength then s.replyMoment x else none)
        (fun t => t.endAddressed x (classify x.station x.kind chars false))
    | none => s)

/-- The broadcast or burst in flight. -/
def Pbc.broadcasting (p : Pbc) : Option Transaction := p.flight.filter (fun x => !x.kind.isAddressed)

/-- PL_BROADCAST_END (R31): the last character of a broadcast or burst. -/
def execPlBroadcastEnd (s : State) : Step :=
  .next (s.onTimer (s.pbc.broadcasting.map (·.frameEnd)) (fun t => t.clearFlight.afterTransaction))

/-! ## Supervision timers -/

/-- The moment at which a dish's timer of one kind expires. -/
def State.timerDue (s : State) (d : Nat) (k : TimerKind) : Option Nat :=
  match (s.dish d).timer with
  | some t => if t.kind = k then some t.due else none
  | none => none

/-- SLEW_TIMER_EXPIRY (R19). -/
def execSlewTimerExpiry (d : Nat) (s : State) : Step := .next (s.onTimer (s.timerDue d .slew) (fun t => t.slewTimeoutOn d))

/-- HOME_TIMER_EXPIRY (R15). -/
def execHomeTimerExpiry (d : Nat) (s : State) : Step := .next (s.onTimer (s.timerDue d .home) (fun t => t.homeTimeoutOn d))

/-- STOP_TIMER_EXPIRY (R21). -/
def execStopTimerExpiry (d : Nat) (s : State) : Step := .next (s.onTimer (s.timerDue d .stop) (fun t => t.stopTimeoutOn d))

end Sys2Proof.Machine
end

