-- ==== Sys2Proof/Machine/Slews.lean ====
section
/-! DEFINITION. The Slew Scheduler's requests and its deadline timer (05_host_slews_and_joint_slews.md). -/

namespace Sys2Proof.Machine

/-! ## Acceptance -/

/-- Table 31: the member of a dish at acceptance. DESIGN CHOICE, log entry 34: a READY dish with a waiting STOW task in a zone without a cause,
which no line of the table fits, is EXCUSED(BUSY). -/
def State.acceptMember (s : State) (d : Nat) : HostMember :=
  let r := s.dish d
  let st : MemberState :=
    if r.state != .ready then .excused (.state r.state)
    else if !s.unblocked d then .excused .locked
    else if !(s.zone r.zone).causes.isEmpty then .excused .zoneStowed
    else if r.claim.isSome && !(r.task == some .shed && r.isWaiting) then .excused .busy
    else .waiting
  { dish := d, state := st,
    ice := st == .waiting && (match r.last with | some x => x.surface == .ice | none => false) }

/-- R94: the first id after the last one given that no record holds, counting on from 255 to 1. -/
def Sls.nextId (t : Sls) : Nat :=
  (((List.range 255).map (fun i => (t.lastId + i) % 255 + 1)).find? (fun id => t.table.all (fun r => r.id != id))).getD 0

/-- R98: a requested rate as the record keeps it. -/
def keptRate : Option Nat → Option Nat
  | none => none
  | some r => if r = 0 then none else some r

/-- R98: the clamped mark of one axis; `vmax` gives the profile maxima of the WAITING members. -/
def rateClamped (rate : Option Nat) (vmax : List Nat) : Bool :=
  match rate with
  | none => false
  | some r => r == 0 || vmax.any (fun v => v < r)

/-- R99: a deadline as it is accepted. -/
def keptDeadline (d : Option Nat) : Option Nat := d.map (clampNat 1 3600)

/-- The excusal list of a member list (R102). -/
def excusals (ms : List HostMember) : List (Nat × Excuse) :=
  ms.filterMap (fun m => match m.state with | .excused w => some (m.dish, w) | _ => none)

/-- R102 step 2: a WAITING member is recorded as its dish's claim, a waiting SHED task first being dropped. -/
def State.claimFor (s : State) (id d : Nat) : State :=
  (if (s.dish d).task == some .shed then s.closeClaim d .cancelled .stoppedByHost else s).openClaim d (.host id)

/-- R117: a member excused LOCKED at acceptance is handed to ACT with the kind of the entry that blocks its dish. -/
def State.countExcusal (s : State) (m : HostMember) : State :=
  if m.state == .excused .locked then s.countLock (s.blockingKind m.dish) else s

/-- R117, for every member of a request in dish order: also where the request is then refused with NO_ELIGIBLE (log entry 22). -/
def State.countExcusals (s : State) (ms : List HostMember) : State := ms.foldl (fun t m => t.countExcusal m) s

/-- R102: a request whose members are assessed as `ms`, with at least one WAITING. -/
def State.acceptSlew (s : State) (mode : SlewMode) (sel : Selector) (a : SlewArgs) (ms : List HostMember) : Handled :=
  let id := s.sls.nextId
  let waiting := (ms.filter (fun m => m.state == .waiting)).map (·.dish)
  let deadline := keptDeadline a.deadline
  let record : SlewRecord :=
    { id := id, complete := false, mode := mode, selector := sel, targetAz := a.az, targetEl := a.el, rateAz := keptRate a.rateAz,
      rateEl := keptRate a.rateEl, deadline := deadline, deadlineDue := deadline.map (fun x => s.now + x * 1000), accepted := s.now,
      completed := none, members := ms }
  let s1 := { s with sls.table := s.sls.table ++ [record], sls.lastId := id }
  let s2 := (waiting.foldl (fun t d => t.claimFor id d) s1).trigger
  let s3 := (s2.countExcusals ms).monitorCreated (.host id) false
  s3.answer (.slewAccepted
    { id := id, excusals := excusals ms, waiting := waiting.length, iceHeld := ms.countP (fun m => m.state == .waiting && m.ice),
      clampAz := rateClamped a.rateAz (waiting.map (fun d => (s.dish d).profile.vmaxAz)),
      clampEl := rateClamped a.rateEl (waiting.map (fun d => (s.dish d).profile.vmaxEl)), clampDeadline := deadline != a.deadline })

/-- Table 30, checks 2 to 5, and R102. -/
def State.requestSlew (s : State) (mode : SlewMode) (sel : Selector) (dishes : List Nat) (a : SlewArgs) : Handled :=
  if !azOk a.az || !elOk a.el then s.refuse .outOfRange
  else if dishes.isEmpty then s.refuse .emptySet
  else if 32 ≤ s.sls.table.length then s.refuse .queueFull
  else
    let ms := dishes.map s.acceptMember
    if ms.all (fun m => m.state != .waiting) then (s.countExcusals ms, some (.noEligible (excusals ms))) else s.acceptSlew mode sel a ms

/-- R96. -/
def State.slewOf (s : State) (d : Nat) (a : SlewArgs) : Handled :=
  if !s.isDish d then s.refuse .outOfRange else s.requestSlew .single (.dishes (single d)) [d] a

/-- The mode byte of JOINT_SLEW (Frame Layouts): 1 GANG, 2 WAVE. -/
def jointMode : Nat → Option SlewMode
  | 1 => some .gang
  | 2 => some .wave
  | _ => none

/-- R97: the dish set that a selector names at this moment; none for a group number outside 1..16. -/
def State.selected (s : State) : Selector → Option DishSet
  | .dishes ds => some ds
  | .group n => if thas s.sls.groups n then some (tget s.sls.groups n 0) else none

/-- R97. -/
def State.jointSlewOf (s : State) (sel : Selector) (mode : Nat) (a : SlewArgs) : Handled :=
  match s.selected sel, jointMode mode with
  | some ds, some m => s.requestSlew m sel (members ds) a
  | _, _ => s.refuse .outOfRange

/-! ## Cancelling and deadlines -/

/-- R112: one member in scope. -/
def State.cancelMember (s : State) (m : HostMember) : State :=
  match m.state with
  | .waiting => s.closeClaim m.dish .cancelled .stoppedByHost
  | .admitted => s.stopOrder m.dish .stoppedByHost
  | _ => s

/-- R112. -/
def State.cancelOf (s : State) (id : Nat) (ds : Option DishSet) : Handled :=
  if !inRange 1 255 id then s.refuse .outOfRange
  else
    match s.record id with
    | none => s.refuse .notFound
    | some r =>
      if r.complete then s.refuse .state
      else if ds == some 0 then s.refuse .emptySet
      else
        let scope := r.members.filter (fun m => match ds with | some x => inSet x m.dish | none => true)
        (scope.foldl (fun t m => t.cancelMember m) s).answer
          (.cancelled (scope.countP (fun m => m.state == .waiting)) (scope.countP (fun m => m.state == .admitted))
            (scope.countP (fun m => !m.state.isOpen)))

/-- R111: the WAITING members of a record close EXPIRED, in dish order. -/
def State.expireDeadline (s : State) (id : Nat) : State :=
  match s.record id with
  | none => s
  | some r =>
    (r.members.filter (fun m => m.state == .waiting)).foldl (fun t m => t.closeClaim m.dish .expired .stoppedByHost)
      (s.modRecord id (fun r => { r with deadlineDue := none }))

/-! ## Reads and groups -/

/-- R115. -/
def State.slewStatusOf (s : State) (id : Nat) : Handled :=
  if !inRange 1 255 id then s.refuse .outOfRange
  else
    match s.record id with
    | none => s.refuse .notFound
    | some r => s.answer (.slewStatus (r.report s.now))

/-- R116. -/
def State.queueStatusOf (s : State) : Handled :=
  s.answer (.queue s.sls.table.length (32 - s.sls.table.length) s.sls.lastId (s.sls.table.map (fun r => r.queueRow s.now)))

/-- R92. -/
def State.groupSetOf (s : State) (n : Nat) (ds : DishSet) : Handled :=
  if !thas s.sls.groups n then s.refuse .outOfRange
  else ({ s with sls.groups := tmod s.sls.groups n (fun _ => ds) }).answer (.group n ds)

/-- R93. -/
def State.groupReadOf (s : State) (m : BitVec 16) : Handled :=
  if m = 0 then s.refuse .emptySet else s.answer (.groups ((bitsOf m 16 1).map (fun n => (n, tget s.sls.groups n 0))))

/-! ## The meanings -/

/-- SLEW (R96). -/
def execSlew (tag d : Nat) (a : SlewArgs) (s : State) : Step :=
  .next (s.onRequest (.slew tag d a) (fun s => s.slewOf d a))

/-- JOINT_SLEW (R97). -/
def execJointSlew (tag : Nat) (sel : Selector) (mode : Nat) (a : SlewArgs) (s : State) : Step :=
  .next (s.onRequest (.jointSlew tag sel mode a) (fun s => s.jointSlewOf sel mode a))

/-- SLEW_CANCEL (R112). -/
def execSlewCancel (tag id : Nat) (ds : Option DishSet) (s : State) : Step :=
  .next (s.onRequest (.slewCancel tag id ds) (fun s => s.cancelOf id ds))

/-- SLEW_STATUS (R115). -/
def execSlewStatus (tag id : Nat) (s : State) : Step :=
  .next (s.onRequest (.slewStatus tag id) (fun s => s.slewStatusOf id))

/-- QUEUE_STATUS (R116). -/
def execQueueStatus (tag : Nat) (s : State) : Step :=
  .next (s.onRequest (.queueStatus tag) (fun s => s.queueStatusOf))

/-- GROUP_SET (R92). -/
def execGroupSet (tag n : Nat) (ds : DishSet) (s : State) : Step :=
  .next (s.onRequest (.groupSet tag n ds) (fun s => s.groupSetOf n ds))

/-- GROUP_READ (R93). -/
def execGroupRead (tag : Nat) (m : BitVec 16) (s : State) : Step :=
  .next (s.onRequest (.groupRead tag m) (fun s => s.groupReadOf m))

/-- DEADLINE_EXPIRY (R111). -/
def execDeadlineExpiry (id : Nat) (s : State) : Step :=
  .next (s.onTimer ((s.record id).bind (·.deadlineDue)) (fun s => s.expireDeadline id))

end Sys2Proof.Machine
end

