-- ==== Sys2Proof/Machine/Lockouts.lean ====
section
/-! DEFINITION. The Lockout Table (08_lockouts.md): coverage effects, placement, amendment, release, the stop line and the reads. -/

namespace Sys2Proof.Machine

/-! ## Coverage effects -/

/-- R169, R170: what one dish receives when it becomes newly motion-blocked or newly heat-blocked. -/
def State.coverDish (s : State) (kind : LockKind) (motion heat : DishSet) (d : Nat) : State :=
  let s1 := if inSet s.motionBlocked d && !inSet motion d then s.newMotionBlock d kind else s
  if inSet s1.heatBlocked d && !inSet heat d then s1.gateAndAllocate d else s1

/-- R169: the effects of an entry of this kind on a list of dishes, in order, where `motion` and `heat` are the dishes blocked
before. -/
def State.coverAll (s : State) (kind : LockKind) (motion heat : DishSet) (ds : List Nat) : State :=
  ds.foldl (fun t d => t.coverDish kind motion heat d) s

/-- R175: what one dish receives when an entry stops covering it. -/
def State.uncoverDish (s : State) (motion heat : DishSet) (d : Nat) : State :=
  let s1 := if inSet motion d && !inSet s.motionBlocked d && s.eligible d then s.gain d else s
  if inSet heat d && !inSet s1.heatBlocked d then s1.gateAndAllocate d else s1

/-- R175: the release effects on the dishes of the old scope, then one pass trigger. -/
def State.uncoverAll (s : State) (motion heat : DishSet) (scope : DishSet) : State :=
  ((members scope).foldl (fun t d => t.uncoverDish motion heat d) s).trigger

/-- R164: a change of an entry makes its LOCKOUT notice pending. -/
def State.setEntry (s : State) (i : Nat) (f : Entry → Entry) : State := (s.modEntry i f).raise (.lockout i)

/-- Whether an entry has a store operation (R164). -/
def State.hasOp (s : State) (i : Nat) : Bool := s.lkt.queue.any (fun o => o.index == i)

/-- R171: an operation joins the queue. -/
def State.queueOp (s : State) (o : StoreOp) : State := ({ s with lkt.queue := s.lkt.queue ++ [o] }).raise (.lockout o.index)

/-- R171: the queue is full. -/
def State.storeFull (s : State) : Bool := 8 ≤ s.lkt.queue.length

/-! ## Placement -/

/-- The kind of an enumeration byte (Table 45). -/
def lockKindOf : Nat → Option LockKind
  | 0 => some .estop
  | 1 => some .maintenance
  | 2 => some .admin
  | _ => none

/-- R167 check 1: the kind of a placement whose fields are in range. -/
def placeKind (a : PlaceArgs) : Option LockKind :=
  match lockKindOf a.kind with
  | some k =>
    if k = .estop || (k = .maintenance && a.holder.isNone) || (match a.holder with | some h => !inRange 1 65534 h | none => false)
        || (match a.note with | some n => !noteOk n | none => false) || !(a.motion || a.heat) then none
    else some k
  | none => none

/-- The host's entries 1..63. -/
def hostIndices : List Nat := (List.range 63).map (· + 1)

/-- R167 check 3: the first ACTIVE entry with the same holder, kind and scope. -/
def State.duplicateOf (s : State) (k : LockKind) (a : PlaceArgs) : Option Nat :=
  hostIndices.find? (fun i =>
    let e := s.entry i
    e.state == .active && e.kind == some k && e.holder == a.holder && e.scope == a.scope)

/-- R168: the slot of a new entry. -/
def State.freeIndex (s : State) : Option Nat :=
  match hostIndices.find? (fun i => (s.entry i).state == .empty) with
  | some i => some i
  | none => hostIndices.find? (fun i => (s.entry i).state == .spent)

/-- R168: the placement at index `i`. -/
def State.placeAt (s : State) (tag : Nat) (k : LockKind) (a : PlaceArgs) (i : Nat) : State :=
  let s1 := if (s.entry i).state == .spent then s.count .spentLost none else s
  let entry : Entry :=
    { state := .active, kind := some k, holder := a.holder, scope := a.scope, motion := a.motion, heat := a.heat, note := a.note,
      stamp := a.stamp }
  let s2 := (s1.setEntry i (fun _ => entry)).queueOp { index := i, kind := .write, owed := some { kind := 0x1F, tag := tag } }
  s2.coverAll k s.motionBlocked s.heatBlocked (members a.scope)

/-- R167. -/
def State.lockPlaceOf (s : State) (tag : Nat) (a : PlaceArgs) : Handled :=
  match placeKind a with
  | none => s.refuse .outOfRange
  | some k =>
    if a.scope = 0 then s.refuse .emptySet
    else
      match s.duplicateOf k a with
      | some i => s.answer (.placed i (some (s.entry i).persisted))
      | none =>
        match s.freeIndex with
        | none => s.refuse .tableFull
        | some i => if s.storeFull then s.refuse .storeBusy else (s.placeAt tag k a i, none)

/-! ## Amendment, release, retire -/

/-- R172, R173: the holder test of a MAINTENANCE entry. -/
def Entry.wrongHolder (e : Entry) (holder : Option Nat) : Bool :=
  e.kind == some .maintenance && (holder.isNone || holder != e.holder)

/-- R172: the amendment itself. -/
def State.amendAt (s : State) (tag i : Nat) (ds : DishSet) : State :=
  let e := s.entry i
  let s1 := (s.setEntry i (fun e => { e with scope := e.scope ||| ds })).queueOp
    { index := i, kind := .write, owed := some { kind := 0x20, tag := tag } }
  s1.coverAll (e.kind.getD .admin) s.motionBlocked s.heatBlocked (members (ds &&& ~~~e.scope))

/-- R172. -/
def State.lockAmendOf (s : State) (tag i : Nat) (holder : Option Nat) (ds : DishSet) : Handled :=
  let e := s.entry i
  if !thas s.lkt.entries (i + 1) then s.refuse .outOfRange
  else if i = 0 || e.state != .active then s.refuse .state
  else if ds = 0 then s.refuse .emptySet
  else if e.wrongHolder holder then s.refuse .wrongHolder
  else if s.hasOp i then s.refuse .busy
  else if ds &&& ~~~e.scope = 0 then s.answer (.amended i e.scope)
  else if s.storeFull then s.refuse .storeBusy
  else (s.amendAt tag i ds, none)

/-- R173: the release of a persisted entry. DESIGN CHOICE, log entry 29: a second release of a RELEASING entry overwrites the release
stamp of the first, also with an absent one. -/
def State.beginRelease (s : State) (tag i : Nat) (stamp : Option Nat) : State :=
  (s.setEntry i (fun e => { e with state := .releasing, releaseStamp := stamp })).queueOp
    { index := i, kind := .clear, owed := some { kind := 0x21, tag := tag } }

/-- R175: an entry becomes SPENT. -/
def State.spend (s : State) (i : Nat) (f : Entry → Entry) : State :=
  (s.setEntry i (fun e => { f e with state := .spent, persisted := false })).uncoverAll s.motionBlocked s.heatBlocked (s.entry i).scope

/-- R173. -/
def State.lockReleaseOf (s : State) (tag i : Nat) (holder stamp : Option Nat) : Handled :=
  let e := s.entry i
  if !thas s.lkt.entries (i + 1) then s.refuse .outOfRange
  else if i = 0 || e.state == .empty || e.state == .spent then s.refuse .state
  else if s.hasOp i || s.lkt.writeBacks.contains i then s.refuse .busy
  else if e.wrongHolder holder then s.refuse .wrongHolder
  else if e.persisted then
    if s.storeFull then s.refuse .storeBusy else (s.beginRelease tag i stamp, none)
  else (s.spend i (fun e => { e with releaseStamp := stamp })).answer (.released i)

/-- R174. -/
def State.lockRetireOf (s : State) (i : Nat) : Handled :=
  if !thas s.lkt.entries (i + 1) then s.refuse .outOfRange
  else if i = 0 || (s.entry i).state != .spent then s.refuse .state
  else (s.setEntry i (fun _ => {})).answer .accepted

/-! ## Reads -/

/-- The place of an entry state in Table 46. -/
def EntryState.bit : EntryState → Nat
  | .empty => 0
  | .active => 1
  | .releasing => 2
  | .spent => 3

/-- R166: whether an entry is found by the filters. -/
def Entry.found (e : Entry) (ds : Option DishSet) (kinds states : Option Mask) : Bool :=
  e.state != .empty
    && (match ds with | some x => e.scope &&& x != 0 | none => true)
    && (match kinds with | some m => (match e.kind with | some k => m.getLsbD k.bit | none => false) | none => true)
    && (match states with | some m => m.getLsbD e.state.bit | none => true)

/-- R166. A state set names EMPTY by its bit 0. -/
def State.lockFindOf (s : State) (ds : Option DishSet) (kinds states : Option Mask) : Handled :=
  if (match kinds with | some m => !within m 3 | none => false)
      || (match states with | some m => !within m 4 || m.getLsbD 0 | none => false) then s.refuse .outOfRange
  else s.answer (.indices ((List.range s.lkt.entries.length).filter (fun i => (s.entry i).found ds kinds states)))

/-- R166. -/
def State.lockReadOf (s : State) (m : BitVec 64) : Handled :=
  if m = 0 then s.refuse .emptySet else s.answer (.entries ((bitsOf m 64 0).map s.lockReport))

/-! ## The stop line -/

/-- R176: the line is asserted. -/
def State.estopAsserted (s : State) : State :=
  let s1 := ({ s with lkt.estopLevel := true }).orderAllStop
  if (s.entry 0).state == .empty then
    (s1.setEntry 0 (fun _ => estopEntry)).coverAll .estop s.motionBlocked s.heatBlocked s.dishNumbers
  else s1.raise (.lockout 0)

/-- R177: the line is deasserted. -/
def State.estopDeasserted (s : State) : State := ({ s with lkt.estopLevel := false }).raise (.lockout 0)

/-- R177. -/
def State.estopClearOf (s : State) : Handled :=
  if s.lkt.estopLevel then s.refuse .estopActive
  else if (s.entry 0).state == .empty then s.refuse .state
  else ((s.setEntry 0 (fun _ => {})).uncoverAll s.motionBlocked s.heatBlocked allSet).answer .accepted

/-! ## The meanings -/

/-- LOCK_PLACE (R167). -/
def execLockPlace (tag : Nat) (a : PlaceArgs) (s : State) : Step :=
  .next (s.onRequest (.lockPlace tag a) (fun s => s.lockPlaceOf tag a))

/-- LOCK_AMEND (R172). -/
def execLockAmend (tag i : Nat) (holder : Option Nat) (ds : DishSet) (s : State) : Step :=
  .next (s.onRequest (.lockAmend tag i holder ds) (fun s => s.lockAmendOf tag i holder ds))

/-- LOCK_RELEASE (R173). -/
def execLockRelease (tag i : Nat) (holder stamp : Option Nat) (s : State) : Step :=
  .next (s.onRequest (.lockRelease tag i holder stamp) (fun s => s.lockReleaseOf tag i holder stamp))

/-- LOCK_RETIRE (R174). -/
def execLockRetire (tag i : Nat) (s : State) : Step :=
  .next (s.onRequest (.lockRetire tag i) (fun s => s.lockRetireOf i))

/-- LOCK_FIND (R166). -/
def execLockFind (tag : Nat) (ds : Option DishSet) (kinds states : Option Mask) (s : State) : Step :=
  .next (s.onRequest (.lockFind tag ds kinds states) (fun s => s.lockFindOf ds kinds states))

/-- LOCK_READ (R166). -/
def execLockRead (tag : Nat) (m : BitVec 64) (s : State) : Step :=
  .next (s.onRequest (.lockRead tag m) (fun s => s.lockReadOf m))

/-- ESTOP_CLEAR (R177). -/
def execEstopClear (tag : Nat) (s : State) : Step :=
  .next (s.onRequest (.estopClear tag) (fun s => s.estopClearOf))

/-- ESTOP_ASSERT (R176): a change of the line to asserted that has held. -/
def execEstopAssert (s : State) : Step := .next (s.onEvent (!s.lkt.estopLevel) (·.estopAsserted))

/-- ESTOP_DEASSERT (R177): a change of the line to deasserted that has held. -/
def execEstopDeassert (s : State) : Step := .next (s.onEvent s.lkt.estopLevel (·.estopDeasserted))

end Sys2Proof.Machine
end

