-- ==== Sys2Proof/Machine/Store.lean ====
section
/-! DEFINITION. The Settings Store (11_stored_settings_and_restart.md): the store arbiter, completions, SETTINGS_SAVE, RESTART with
its timers, and power. -/

namespace Sys2Proof.Machine

/-! ## The store arbiter -/

/-- R205: the settings as every owner holds them at this moment. -/
def State.settings (s : State) : Settings where
  dishes := s.dsv.dishes.map (fun r => { profile := r.profile, feeder := r.feeder, zone := r.zone })
  nSettle := s.dsv.nSettle
  nMiss := s.dsv.nMiss
  homeTimeout := s.dsv.homeTimeout
  replyWindow := s.pbc.replyWindow
  masts := s.wmn.masts.map (fun m => { gain := m.gain, offset := m.offset })
  zones := s.znc.zones.map (·.settings)
  bankA := s.znc.bankA
  bankB := s.znc.bankB
  active := s.znc.active
  groups := s.sls.groups
  feeders :=
    let get (f : FeederRec) : FeederSettings := { limit := f.limit, reserve := f.reserve, heatCap := f.heatCap }
    ⟨get s.fbu.feeders.a, get s.fbu.feeders.b, get s.fbu.feeders.c, get s.fbu.feeders.d⟩
  policy := s.mlc.policy
  enables := s.oli.enables

/-- R171: what a WRITE stores of an entry. -/
def Entry.stored (e : Entry) : StoredEntry :=
  { kind := e.kind.getD .admin, holder := e.holder, scope := e.scope, motion := e.motion, heat := e.heat, note := e.note, stamp := e.stamp }

/-- The contents that a WRITE gives its slot: the record with its CRC (R171, R212). -/
def StoredEntry.slot (e : StoredEntry) : Slot := .record e (storedCrc e)

/-- The oldest QUEUED operation (R204). -/
def Lkt.nextOp (t : Lkt) : Option StoreOp := t.queue.find? (fun o => !o.running)

/-- R204: whether the arbiter has a write to start. -/
def State.writeDue (s : State) : Bool :=
  s.nvs.path == .free && (s.lkt.nextOp.isSome || s.nvs.save == .pending)

/-- R171: the operation of index `i` becomes RUNNING. -/
def StoreOp.start (i : Nat) (o : StoreOp) : StoreOp := if o.index == i then { o with running := true } else o

/-- R204: the arbiter starts the next write. A save takes the settings of this moment with their CRC (R205). -/
def State.startWrite (s : State) : State :=
  match s.lkt.nextOp with
  | some o =>
    let contents : Slot := match o.kind with | .write => (s.entry o.index).stored.slot | .clear => .empty
    ({ s with nvs.path := .lockout o.index contents,
              lkt.queue := s.lkt.queue.map (StoreOp.start o.index) }).raise
      (.lockout o.index)
  | none => { s with nvs.path := .save s.settings (imageCrc s.settings), nvs.save := .running }

/-! ## Completion of a lockout operation -/

/-- R171: the slot after a completion. -/
def Slot.after (old new : Slot) : StoreResult → Slot
  | .success => new
  | .failedKept => old
  | .failedDamaged => .damaged

/-- R179: a freed place is taken by the lowest listed write-back. -/
def State.takeWriteBack (s : State) : State :=
  match s.lkt.writeBacks with
  | i :: rest =>
    if s.lkt.queue.length < 8 then
      ({ s with lkt.writeBacks := rest }).queueOp { index := i, kind := .write, owed := none }
    else s
  | [] => s

/-- R195: a deferred reply becomes ready. -/
def State.owe (s : State) (o : Option Owed) (r : Result) : State :=
  match o with
  | some x => s.reply { kind := x.kind, tag := x.tag, result := r, deferred := true }
  | none => s

/-- Table 49: the success contents of a WRITE's owed reply: PLACED or AMENDED. -/
def State.writeReply (s : State) (i : Nat) (o : Option Owed) : Contents :=
  match o with
  | some { kind := 0x20, .. } => .amended i (s.entry i).scope
  | _ => .placed i none

/-- Table 49: the entry and the reply at a completion. -/
def State.completeOp (s : State) (o : StoreOp) (result : StoreResult) : State :=
  match result, o.kind with
  | .success, .write =>
    let t := s.setEntry o.index (fun e => { e with persisted := true })
    t.owe o.owed (.ok (t.writeReply o.index o.owed))
  | .success, .clear => (s.spend o.index id).owe o.owed (.ok (.released o.index))
  | _, _ => (s.raise (.lockout o.index)).owe o.owed (.storeFailed (some o.index))

/-- R171: the completion of the running lockout operation. -/
def State.lockComplete (s : State) (i : Nat) (contents : Slot) (result : StoreResult) : State :=
  let op := s.lkt.queue.find? (fun o => o.index == i)
  let s1 := { s with nvs.path := .free, nvs.slots := tmod s.nvs.slots i (fun old => old.after contents result),
                     lkt.queue := s.lkt.queue.filter (fun o => o.index != i) }
  match op with
  | some o => (s1.completeOp o result).takeWriteBack
  | none => s1

/-! ## SETTINGS_SAVE -/

/-- R205. -/
def State.settingsSaveOf (s : State) (tag : Nat) : Handled :=
  if s.nvs.save != .idle then s.refuse .storeBusy
  else ({ s with nvs.save := .pending, nvs.saveTag := some tag }, none)

/-- R203, R205: the settings area after a write of `new`. -/
def SettingsArea.after (old new : SettingsArea) : StoreResult → SettingsArea
  | .success => new
  | .failedKept => old
  | .failedDamaged => .damaged

/-- R205: the completion of the running save. -/
def State.saveComplete (s : State) (st : Settings) (crc : BitVec 16) (result : StoreResult) : State :=
  let s1 := { s with nvs.path := .free, nvs.save := .idle, nvs.saveTag := none, nvs.area := s.nvs.area.after (.image st crc) result,
                     nvs.defaulted := s.nvs.defaulted && result != StoreResult.success }
  s1.owe (s.nvs.saveTag.map (fun t => { kind := 0x2B, tag := t }))
    (if result = StoreResult.success then .ok .accepted else .storeFailed none)

/-! ## RESTART -/

/-- R207: RESTART in the IDLE phase. In any other phase OLI answers it (R195). -/
def State.restartOf (s : State) (tag : Nat) : Handled :=
  ({ s with nvs.phase := .draining, nvs.restartTag := some tag }, none)

/-- R209: expiry of the quiet timer; a transaction in flight runs to its end first (R49). -/
def State.quietExpires (s : State) : State :=
  if s.pbc.flight.isSome then { s with nvs.quietDue := none, nvs.resetDue := true } else s.restartReset

/-! ## Power -/

/-- The store as an abandoned write leaves it (R206). -/
def Nvs.abandoned (n : Nvs) (remains : WriteRemains) : SettingsArea × List Slot :=
  match n.path, remains with
  | .lockout i _, .damaged => (n.area, tmod n.slots i (fun _ => .damaged))
  | .lockout i c, .complete => (n.area, tmod n.slots i (fun _ => c))
  | .save _ _, .damaged => (.damaged, n.slots)
  | .save st crc, .complete => (.image st crc, n.slots)
  | _, _ => (n.area, n.slots)

/-- R206: the part held inactive: only the store keeps its contents. Every runtime record is gone; the fields hold the values of a
part that has loaded nothing. -/
def State.inactive (area : SettingsArea) (slots : List Slot) (pending : List Instr) : State :=
  { State.loaded defaultSettings { area := area, slots := slots } false pending with
    powered := false, lkt := { entries := List.replicate 64 {} }, mlc := { heaters := List.replicate 48 {} } }

/-- R203, R212: the settings that power-up takes from the settings area, and whether they are the defaults. The image is valid when
its CRC matches and every field is in its range. -/
def SettingsArea.read : SettingsArea → Settings × Bool
  | .image st crc => if crc == imageCrc st && settingsOk st then (st, false) else (defaultSettings, true)
  | .damaged => (defaultSettings, true)

/-- R206, R210: power-up. -/
def State.powerUp (s : State) (estop : Bool) : State :=
  let (st, defaulted) := s.nvs.area.read
  State.loaded st { area := s.nvs.area, slots := s.nvs.slots, defaulted := defaulted } estop s.pending

/-! ## The meanings -/

/-- POWER_UP (R206). -/
def execPowerUp (estop : Bool) (s : State) : Step := .next (if s.powered then s else (s.powerUp estop).finish)

/-- POWER_FAIL (R206). -/
def execPowerFail (remains : WriteRemains) (s : State) : Step :=
  .next (if s.powered then State.inactive (s.nvs.abandoned remains).1 (s.nvs.abandoned remains).2 s.pending else s)

/-- STORE_WRITE_START (R204). -/
def execStoreWriteStart (s : State) : Step := .next (s.onEvent s.writeDue (·.startWrite))

/-- LOCK_STORE_COMPLETE (R171). -/
def execLockStoreComplete (result : StoreResult) (s : State) : Step :=
  .next (match s.nvs.path with
    | .lockout i c => s.onEvent true (fun t => t.lockComplete i c result)
    | _ => s)

/-- SETTINGS_SAVE_COMPLETE (R205). -/
def execSettingsSaveComplete (result : StoreResult) (s : State) : Step :=
  .next (match s.nvs.path with
    | .save st crc => s.onEvent true (fun t => t.saveComplete st crc result)
    | _ => s)

/-- SETTINGS_SAVE (R205). -/
def execSettingsSave (tag : Nat) (s : State) : Step :=
  .next (s.onRequest (.settingsSave tag) (fun s => s.settingsSaveOf tag))

/-- RESTART (R207). -/
def execRestart (tag : Nat) (s : State) : Step :=
  .next (s.onRequest (.restart tag) (fun s => s.restartOf tag))

/-- RESTART_STOP_TIMER_EXPIRY (R208). -/
def execRestartStopTimerExpiry (s : State) : Step :=
  .next (s.onTimer s.nvs.stopDue (·.enterQuiet))

/-- QUIET_TIMER_EXPIRY (R209). -/
def execQuietTimerExpiry (s : State) : Step :=
  .next (s.onTimer s.nvs.quietDue (·.quietExpires))

end Sys2Proof.Machine
end

