-- ==== Sys2Proof/Machine/System.lean ====
section
/-! DEFINITION. The events of the Observatory link and the requests that OLI owns (10_the_observatory_link.md). -/

namespace Sys2Proof.Machine

/-- R199: the enables after a request. -/
def enablesEdited (e : EnableEdit) (x : Enables) : Enables :=
  { zone := e.zone.getD x.zone, lockout := e.lockout.getD x.lockout, dishChange := e.dishChange.getD x.dishChange,
    slewDone := e.slewDone.getD x.slewDone, budget := e.budget.getD x.budget, counter := e.counter.getD x.counter,
    system := e.system.getD x.system }

/-- R199. -/
def State.noticeEnableOf (s : State) (e : EnableEdit) : Handled :=
  let x := enablesEdited e s.oli.enables
  ({ s with oli.enables := x }).answer (.enables x)

/-- IDENTIFY (R200), answered in every phase. -/
def execIdentify (tag : Nat) (s : State) : Step :=
  .next (s.onRequest (.identify tag) (fun s => s.answer (.identity s.identity)) true)

/-- LINK_STATUS (R201). -/
def execLinkStatus (tag : Nat) (s : State) : Step :=
  .next (s.onRequest (.linkStatus tag) (fun s => s.answer (.link s.linkReport)))

/-- NOTICE_ENABLE (R199). -/
def execNoticeEnable (tag : Nat) (e : EnableEdit) (s : State) : Step :=
  .next (s.onRequest (.noticeEnable tag e) (fun s => s.noticeEnableOf e))

/-- OL_FRAME_ARRIVAL (R192, R193): a whole frame, its body and the CRC received. -/
def execOlFrameArrival (kind tag : Byte) (body : List Byte) (crc : BitVec 16) (s : State) : Step :=
  .next (s.onEvent true (fun s => s.frameIn kind tag body crc))

/-- OL_FRAME_DROP (R192). -/
def execOlFrameDrop (cause : DropCause) (s : State) : Step := .next (s.onEvent true (fun s => s.dropFrame cause))

/-- OL_RX_GAP_TIMEOUT (R192). -/
def execOlRxGapTimeout (s : State) : Step :=
  .next (s.onEvent true (fun s => { s with oli.counts.gap := inc32 s.oli.counts.gap }))

/-- OL_FRAME_SENT (R196, R197): the end of the outbound frame on the line. -/
def execOlFrameSent (s : State) : Step := .next (s.onEvent s.oli.sending.isSome (·.frameEnd))

end Sys2Proof.Machine
end

