-- ==== Sys2Proof/Machine/Wind.lean ====
section
/-! DEFINITION. The Wind Monitor (03_wind_measurement.md): report frames, slot timers, mast states, and the mast requests. -/

namespace Sys2Proof.Machine

/-! ## Samples and states -/

/-- R54: the speed of a pulse count. -/
def speedOf (gain offset n : Nat) : Nat := if n = 0 then 0 else min 999 (offset + (n * gain + 128) / 256)

/-- R55: a sample joins the window; the oldest leaves a full one. -/
def pushSample (window : List Nat) (v : Nat) : List Nat :=
  if window.length < 60 then window ++ [v] else window.drop (window.length - 59) ++ [v]

/-- R62: the peak after a computed gust. -/
def peakAfter (peak gust : Option Nat) : Option Nat :=
  match peak, gust with
  | some p, some g => some (max p g)
  | none, g => g
  | p, none => p

/-- R52, R58 to R60, R62: a valid sample of speed `v`. -/
def Mast.sample (m : Mast) (v : Nat) : Mast :=
  let w := pushSample m.window v
  let m1 := { m with window := w, valid := satAdd top32 m.valid 1, missedRun := 0, peak := peakAfter m.peak (gustOf w) }
  match m.state with
  | .warming => if 3 ≤ w.length then { m1 with state := .live } else m1
  | .live => m1
  | .stale => if 3 ≤ m.validRun + 1 then { m1 with state := .live, validRun := 0 } else { m1 with validRun := m.validRun + 1 }

/-- R58 to R60: a miss, a missed sample or a missed slot. -/
def Mast.miss (m : Mast) : Mast :=
  let run := min 5 (m.missedRun + 1)
  let m1 := { m with missed := satAdd top32 m.missed 1, missedRun := run }
  match m.state with
  | .stale => { m1 with validRun := 0, window := [] }
  | _ => if run = 5 then { m1 with state := .stale, window := [], validRun := 0, missedRun := 0 } else m1

/-- R61, R63: what follows a change of a mast record: the STALE set and transition for ACT, and one mast update for ZNC where the
event added a sample, emptied the window or changed the state. DESIGN CHOICE, log entry 32: ACT is handed the transition before ZNC takes the
update. -/
def State.mastEvent (s : State) (m : Nat) (added : Bool) (f : Mast → Mast) : State :=
  let old := s.mast m
  let s1 := (s.modMast m f).syncStale
  let new := s1.mast m
  let s2 := if old.state == .live && new.state == .stale then s1.count .mastStale (some (m - 1)) else s1
  if added || new.state != old.state || new.window != old.window then s2.mastUpdate s m added else s2

/-! ## Report frames -/

/-- The status of a report (Table 17). -/
def mastReportOf : Nat → Option MastReport
  | 0 => some .ok
  | 1 => some .iced
  | 2 => some .fault
  | _ => none

/-- R50: a rejected frame. -/
def State.rejectMast (s : State) (m : Nat) : State := s.modMast m (fun r => { r with rejected := satAdd top32 r.rejected 1 })

/-- R52: an accepted report. -/
def State.acceptMast (s : State) (m seq n : Nat) (st : MastReport) : State :=
  let s1 := s.modMast m (fun r =>
    { r with lastSeq := some seq, lastReport := some st, lastTime := some s.now, slotDue := s.now + 1500 })
  if st = .ok then s1.mastEvent m true (fun r => r.sample (speedOf r.gain r.offset n)) else s1.mastEvent m false Mast.miss

/-- R50, R51: a whole frame without framing error. -/
def State.takeMastFrame (s : State) (m : Nat) (bytes : List Byte) : State :=
  let covered := (bytes.drop 1).take 4
  let seq := (bytes.getD 1 0).toNat
  match mastReportOf (bytes.getD 4 0).toNat with
  | none => s.rejectMast m
  | some st =>
    if unLe (bytes.drop 5) ≠ (crc16 covered).toNat then s.rejectMast m
    else if (s.mast m).lastSeq = some seq then s.modMast m (fun r => { r with duplicates := satAdd top32 r.duplicates 1 })
    else s.acceptMast m seq (unLe ((bytes.drop 2).take 2)) st

/-- Table 17: a frame is seven bytes from a start byte. -/
def isMastFrame (bytes : List Byte) : Bool := bytes.length == 7 && bytes.head? == some 0xA5#8

/-- R50: the bytes that a framing error ends: a frame that has begun with its start byte. Before a start byte WMN is still hunting, and
there is no frame to reject. -/
def isBegunFrame (bytes : List Byte) : Bool := bytes.length ≤ 7 && bytes.head? == some 0xA5#8

/-- R53: a missed slot. -/
def State.missedSlot (s : State) (m : Nat) : State :=
  (s.modMast m (fun r => { r with slotDue := s.now + 1000 })).mastEvent m false Mast.miss

/-! ## Requests -/

/-- R64. -/
def State.mastSetOf (s : State) (m : Nat) (gain offset : Option Nat) : Handled :=
  if !thas s.wmn.masts m then s.refuse .outOfRange
  else
    let t := s.modMast m (fun r => { r with gain := gain.getD r.gain, offset := (offset.map (min 50)).getD r.offset })
    t.answer (.mastSet (t.mast m).gain (t.mast m).offset (50 < offset.getD 0))

/-- R65. The read sets each reported mast's peak to absent (R62). -/
def State.mastStatusOf (s : State) (m : Mask) (window : Bool) : Handled :=
  if !within m 4 then s.refuse .outOfRange
  else if m = 0 then s.refuse .emptySet
  else
    let ms := bitsOf m 4 1
    (ms.foldl (fun t k => t.modMast k (fun r => { r with peak := none })) s).answer (.masts (ms.map (fun k => s.mastReport k window)))

/-! ## The meanings -/

/-- MAST_REPORT_FRAME (R50 to R52): one frame on a mast line, or the frame that a framing error ends. -/
def execMastReportFrame (m : Nat) (bytes : List Byte) (framingError : Bool) (s : State) : Step :=
  .next (s.onEvent (thas s.wmn.masts m && (if framingError then isBegunFrame bytes else isMastFrame bytes))
    (fun s => if framingError then s.rejectMast m else s.takeMastFrame m bytes))

/-- MAST_FRAME_GAP_TIMEOUT (R50). -/
def execMastFrameGapTimeout (m : Nat) (s : State) : Step :=
  .next (s.onEvent (thas s.wmn.masts m) (fun s => s.rejectMast m))

/-- SLOT_TIMER_EXPIRY (R53). -/
def execSlotTimerExpiry (m : Nat) (s : State) : Step :=
  .next (s.onTimer (if thas s.wmn.masts m then some (s.mast m).slotDue else none) (fun s => s.missedSlot m))

/-- MAST_SET (R64). -/
def execMastSet (tag m : Nat) (gain offset : Option Nat) (s : State) : Step :=
  .next (s.onRequest (.mastSet tag m gain offset) (fun s => s.mastSetOf m gain offset))

/-- MAST_STATUS (R65). -/
def execMastStatus (tag : Nat) (m : Mask) (window : Bool) (s : State) : Step :=
  .next (s.onRequest (.mastStatus tag m window) (fun s => s.mastStatusOf m window))

end Sys2Proof.Machine
end

