-- ==== Sys2Proof/Machine/Zones.lean ====
section
/-! DEFINITION. The requests of the Zone Controller and its release timers (04_wind_zones_and_stowing.md). -/

namespace Sys2Proof.Machine

/-! ## Settings and banks -/

/-- R68: the zone settings once a request is applied, and whether the stow elevation is clamped. -/
def zoneEdited (e : ZoneEdit) (z : ZoneSettings) : ZoneSettings × Bool :=
  ({ primary := e.primary.getD z.primary, fallback := e.fallback.getD z.fallback,
     stowEl := (e.stowEl.map (clampInt 5000 90000)).getD z.stowEl, stowAz := e.stowAz.getD z.stowAz },
   match e.stowEl with | some x => !elOk x | none => false)

/-- R68: the OUT_OF_RANGE cases but for the zone number. A carried primary or fallback that would equal the other one is refused
(log entry 19 for both carried). -/
def zoneEditOk (e : ZoneEdit) (new : ZoneSettings) : Bool :=
  (match e.primary with | some p => inRange 1 4 p | none => true) && (match e.fallback with | some f => f ≤ 4 | none => true)
    && (match e.stowAz with | some (some x) => azOk x | _ => true)
    && !((e.primary.isSome || e.fallback.isSome) && new.primary == new.fallback)

/-- R68. -/
def State.zoneSetOf (s : State) (z : Nat) (e : ZoneEdit) : Handled :=
  let old := s.zone z
  let (new, cut) := zoneEdited e old.settings
  if !thas s.znc.zones z || !zoneEditOk e new then s.refuse .outOfRange
  else
    let s1 := s.modZone z (fun r =>
      { r with primary := new.primary, fallback := new.fallback, stowEl := new.stowEl, stowAz := new.stowAz })
    let s2 :=
      if new.primary = old.primary && new.fallback = old.fallback then s1
      else
        let t := s1.reselect z
        if (t.zone z).source = old.source then t else t.evaluate z
    s2.answer (.zoneSet new cut)

/-- The bank of an enumeration byte. -/
def bankOf : Nat → Option Bank
  | 0 => some .a
  | 1 => some .b
  | _ => none

def State.bankRows (s : State) : Bank → List Row
  | .a => s.znc.bankA
  | .b => s.znc.bankB

def State.writeRow (s : State) (k : Bank) (z : Nat) (r : Row) : State :=
  match k with
  | .a => { s with znc.bankA := tmod s.znc.bankA z (fun _ => r) }
  | .b => { s with znc.bankB := tmod s.znc.bankB z (fun _ => r) }

/-- R69, R70: a running release timer restarts at the Th now in force. -/
def State.restartRelease (s : State) (z : Nat) : State := if (s.zone z).releaseDue.isSome then s.startRelease z else s

/-- R69. -/
def State.bankWriteOf (s : State) (b z : Nat) (r : Row) : Handled :=
  match bankOf b with
  | none => s.refuse .outOfRange
  | some k =>
    if !thas s.znc.zones z || !rowSpeedsOk r then s.refuse .outOfRange
    else if !rowOk r then s.refuse .badThresholds
    else
      let s1 := s.writeRow k z r
      (if k = s.znc.active then s1.restartRelease z else s1).answer .accepted

/-- R70. The running release timers restart in ascending zone order (DESIGN CHOICE, log entry 30). -/
def State.bankSelectOf (s : State) (b : Nat) : Handled :=
  match bankOf b with
  | none => s.refuse .outOfRange
  | some k =>
    if k = s.znc.active then s.answer .accepted
    else (s.zoneNumbers.foldl (fun t z => State.restartRelease t z) { s with znc.active := k }).answer .accepted

/-- R71. -/
def State.bankReadOf (s : State) (b : Nat) : Handled :=
  match bankOf b with
  | none => s.refuse .outOfRange
  | some k => s.answer (.bank (s.bankRows k) s.znc.active)

/-! ## Manual stow, release, status, timer -/

/-- R77. -/
def State.zoneStowOf (s : State) (z : Nat) : Handled :=
  if !thas s.znc.zones z then s.refuse .outOfRange
  else
    let t := s.setCauses z { (s.zone z).causes with manual := true }
    t.answer (.causes (t.zone z).causes)

/-- R77. -/
def State.zoneReleaseOf (s : State) (z : Nat) : Handled :=
  if !thas s.znc.zones z then s.refuse .outOfRange
  else if !(s.zone z).causes.manual then s.refuse .state
  else
    let t := s.setCauses z { (s.zone z).causes with manual := false }
    t.answer (.causes (t.zone z).causes)

/-- R88. -/
def State.zoneStatusOf (s : State) (m : Mask) : Handled :=
  if m = 0 then s.refuse .emptySet else s.answer (.zones ((bitsOf m 8 1).map s.zoneStatusReport))

/-- R75: the release timer of a zone expires. -/
def State.releaseExpires (s : State) (z : Nat) : State :=
  (s.modZone z (fun r => { r with releaseDue := none })).setCauses z { (s.zone z).causes with wind := false }

/-! ## The meanings -/

/-- ZONE_SET (R68). -/
def execZoneSet (tag z : Nat) (e : ZoneEdit) (s : State) : Step :=
  .next (s.onRequest (.zoneSet tag z e) (fun s => s.zoneSetOf z e))

/-- ZONE_STATUS (R88). -/
def execZoneStatus (tag : Nat) (m : Mask) (s : State) : Step :=
  .next (s.onRequest (.zoneStatus tag m) (fun s => s.zoneStatusOf m))

/-- BANK_WRITE_ROW (R69). -/
def execBankWriteRow (tag b z : Nat) (r : Row) (s : State) : Step :=
  .next (s.onRequest (.bankWriteRow tag b z r) (fun s => s.bankWriteOf b z r))

/-- BANK_READ (R71). -/
def execBankRead (tag b : Nat) (s : State) : Step :=
  .next (s.onRequest (.bankRead tag b) (fun s => s.bankReadOf b))

/-- BANK_SELECT (R70). -/
def execBankSelect (tag b : Nat) (s : State) : Step :=
  .next (s.onRequest (.bankSelect tag b) (fun s => s.bankSelectOf b))

/-- ZONE_STOW (R77). -/
def execZoneStow (tag z : Nat) (s : State) : Step :=
  .next (s.onRequest (.zoneStow tag z) (fun s => s.zoneStowOf z))

/-- ZONE_RELEASE (R77). -/
def execZoneRelease (tag z : Nat) (s : State) : Step :=
  .next (s.onRequest (.zoneRelease tag z) (fun s => s.zoneReleaseOf z))

/-- RELEASE_TIMER_EXPIRY (R75). -/
def execReleaseTimerExpiry (z : Nat) (s : State) : Step :=
  .next (s.onTimer (if thas s.znc.zones z then (s.zone z).releaseDue else none) (fun s => s.releaseExpires z))

end Sys2Proof.Machine
end

