-- ==== Sys2Proof/Machine/Dispatch.lean ====
section
/-! DEFINITION. The meaning of every command: one arm per constructor of `Instr`. -/

namespace Sys2Proof.Machine

def exec (i : Instr) (s : State) : Host.Outcome State Fault Refusal :=
  match i with
  | .powerUp x => Sys2Proof.Machine.execPowerUp x s
  | .powerFail x => Sys2Proof.Machine.execPowerFail x s
  | .olFrameArrival x y z u => Sys2Proof.Machine.execOlFrameArrival x y z u s
  | .olFrameDrop x => Sys2Proof.Machine.execOlFrameDrop x s
  | .olRxGapTimeout => Sys2Proof.Machine.execOlRxGapTimeout s
  | .olFrameSent => Sys2Proof.Machine.execOlFrameSent s
  | .identify x => Sys2Proof.Machine.execIdentify x s
  | .linkStatus x => Sys2Proof.Machine.execLinkStatus x s
  | .noticeEnable x y => Sys2Proof.Machine.execNoticeEnable x y s
  | .dishStatus x y => Sys2Proof.Machine.execDishStatus x y s
  | .dishStop x y => Sys2Proof.Machine.execDishStop x y s
  | .dishRehome x y => Sys2Proof.Machine.execDishRehome x y s
  | .dishAckChanges x y z => Sys2Proof.Machine.execDishAckChanges x y z s
  | .dishSetProfile x y z u => Sys2Proof.Machine.execDishSetProfile x y z u s
  | .dishAssign x y z u => Sys2Proof.Machine.execDishAssign x y z u s
  | .slew x y z => Sys2Proof.Machine.execSlew x y z s
  | .jointSlew x y z u => Sys2Proof.Machine.execJointSlew x y z u s
  | .slewCancel x y z => Sys2Proof.Machine.execSlewCancel x y z s
  | .slewStatus x y => Sys2Proof.Machine.execSlewStatus x y s
  | .queueStatus x => Sys2Proof.Machine.execQueueStatus x s
  | .groupSet x y z => Sys2Proof.Machine.execGroupSet x y z s
  | .groupRead x y => Sys2Proof.Machine.execGroupRead x y s
  | .feederSet x y z u v => Sys2Proof.Machine.execFeederSet x y z u v s
  | .feederStatus x y => Sys2Proof.Machine.execFeederStatus x y s
  | .mastSet x y z u => Sys2Proof.Machine.execMastSet x y z u s
  | .mastStatus x y z => Sys2Proof.Machine.execMastStatus x y z s
  | .zoneSet x y z => Sys2Proof.Machine.execZoneSet x y z s
  | .zoneStatus x y => Sys2Proof.Machine.execZoneStatus x y s
  | .bankWriteRow x y z u => Sys2Proof.Machine.execBankWriteRow x y z u s
  | .bankRead x y => Sys2Proof.Machine.execBankRead x y s
  | .bankSelect x y => Sys2Proof.Machine.execBankSelect x y s
  | .zoneStow x y => Sys2Proof.Machine.execZoneStow x y s
  | .zoneRelease x y => Sys2Proof.Machine.execZoneRelease x y s
  | .heatPolicySet x y => Sys2Proof.Machine.execHeatPolicySet x y s
  | .heatEnable x y z u => Sys2Proof.Machine.execHeatEnable x y z u s
  | .heatStatus x y z => Sys2Proof.Machine.execHeatStatus x y z s
  | .lockPlace x y => Sys2Proof.Machine.execLockPlace x y s
  | .lockAmend x y z u => Sys2Proof.Machine.execLockAmend x y z u s
  | .lockRelease x y z u => Sys2Proof.Machine.execLockRelease x y z u s
  | .lockRetire x y => Sys2Proof.Machine.execLockRetire x y s
  | .lockFind x y z u => Sys2Proof.Machine.execLockFind x y z u s
  | .lockRead x y => Sys2Proof.Machine.execLockRead x y s
  | .estopClear x => Sys2Proof.Machine.execEstopClear x s
  | .counterSet x y z => Sys2Proof.Machine.execCounterSet x y z s
  | .counterRead x y => Sys2Proof.Machine.execCounterRead x y s
  | .counterClear x y => Sys2Proof.Machine.execCounterClear x y s
  | .timingArm x y => Sys2Proof.Machine.execTimingArm x y s
  | .timingRead x => Sys2Proof.Machine.execTimingRead x s
  | .settingsSave x => Sys2Proof.Machine.execSettingsSave x s
  | .restart x => Sys2Proof.Machine.execRestart x s
  | .storeWriteStart => Sys2Proof.Machine.execStoreWriteStart s
  | .lockStoreComplete x => Sys2Proof.Machine.execLockStoreComplete x s
  | .settingsSaveComplete x => Sys2Proof.Machine.execSettingsSaveComplete x s
  | .restartStopTimerExpiry => Sys2Proof.Machine.execRestartStopTimerExpiry s
  | .quietTimerExpiry => Sys2Proof.Machine.execQuietTimerExpiry s
  | .estopAssert => Sys2Proof.Machine.execEstopAssert s
  | .estopDeassert => Sys2Proof.Machine.execEstopDeassert s
  | .plTransactionStart => Sys2Proof.Machine.execPlTransactionStart s
  | .plReplyReceived x => Sys2Proof.Machine.execPlReplyReceived x s
  | .plReplyWindowExpiry => Sys2Proof.Machine.execPlReplyWindowExpiry s
  | .plReplyGap x => Sys2Proof.Machine.execPlReplyGap x s
  | .plBroadcastEnd => Sys2Proof.Machine.execPlBroadcastEnd s
  | .slewTimerExpiry x => Sys2Proof.Machine.execSlewTimerExpiry x s
  | .homeTimerExpiry x => Sys2Proof.Machine.execHomeTimerExpiry x s
  | .stopTimerExpiry x => Sys2Proof.Machine.execStopTimerExpiry x s
  | .mastReportFrame x y z => Sys2Proof.Machine.execMastReportFrame x y z s
  | .mastFrameGapTimeout x => Sys2Proof.Machine.execMastFrameGapTimeout x s
  | .slotTimerExpiry x => Sys2Proof.Machine.execSlotTimerExpiry x s
  | .releaseTimerExpiry x => Sys2Proof.Machine.execReleaseTimerExpiry x s
  | .admissionPass => Sys2Proof.Machine.execAdmissionPass s
  | .sensorHoldExpiry x => Sys2Proof.Machine.execSensorHoldExpiry x s
  | .deadlineExpiry x => Sys2Proof.Machine.execDeadlineExpiry x s
  | .oneSecondTick => Sys2Proof.Machine.execOneSecondTick s

end Sys2Proof.Machine
end

