-- ==== Sys2Proof/Safety.lean ====
section
/-! DEFINITION. The words in which statements are made: what a command leaves unchanged, when the part takes a request or an event,
and the invariants of the machine: its shape, its power account, its claims, the timers of a RESTART and the stages of its heaters. -/

namespace Sys2Proof.Machine

/-! ## Frames -/

/-- The blocks of the part beside OLI (Block overview of 00_scope.md). -/
inductive Block where
  | dsv | pbc | wmn | znc | sls | fbu | mlc | lkt | nvs | act
  deriving DecidableEq, Repr

/-- Every block outside the list keeps its records. -/
def SameBut (l : List Block) (s t : State) : Prop :=
  (.dsv ∈ l ∨ t.dsv = s.dsv) ∧ (.pbc ∈ l ∨ t.pbc = s.pbc) ∧ (.wmn ∈ l ∨ t.wmn = s.wmn) ∧ (.znc ∈ l ∨ t.znc = s.znc)
    ∧ (.sls ∈ l ∨ t.sls = s.sls) ∧ (.fbu ∈ l ∨ t.fbu = s.fbu) ∧ (.mlc ∈ l ∨ t.mlc = s.mlc) ∧ (.lkt ∈ l ∨ t.lkt = s.lkt)
    ∧ (.nvs ∈ l ∨ t.nvs = s.nvs) ∧ (.act ∈ l ∨ t.act = s.act)

/-- Every dish record but those of the listed dishes is unchanged, and so are the supervision settings. -/
def SameDishesBut (l : List Nat) (s t : State) : Prop :=
  (∀ e, e ∉ l → t.dish e = s.dish e) ∧ t.dsv.nSettle = s.dsv.nSettle ∧ t.dsv.nMiss = s.dsv.nMiss
    ∧ t.dsv.homeTimeout = s.dsv.homeTimeout

/-- The dish keeps its profile, its assignment and its last status. -/
def SameAssignment (d : Nat) (s t : State) : Prop :=
  (t.dish d).profile = (s.dish d).profile ∧ (t.dish d).feeder = (s.dish d).feeder ∧ (t.dish d).zone = (s.dish d).zone
    ∧ (t.dish d).last = (s.dish d).last

/-- What is on OL_TX goes on to its end. -/
def KeepsLine (s t : State) : Prop := s.oli.sending.isSome = true → t.oli.sending = s.oli.sending

/-! ## Requests -/

/-- The request can be taken and handed to its owner: the part runs, no RESTART is in progress, the request is the oldest in the
inbound queue, and the reply list holds fewer than 16 replies (R195). -/
def Ready (s : State) (c : Instr) : Prop :=
  s.powered = true ∧ s.nvs.phase = .idle ∧ s.oli.inbound.head? = some c ∧ s.oli.replies.length < 16

/-- R194, R195: a request is taken: it leaves the inbound queue and is counted, GO returns where two requests are left after HOLD, and
one moment passes. -/
def Took (s t : State) : Prop :=
  t.powered = s.powered ∧ t.now = s.now ∧ t.moment = s.moment + 1 ∧ t.pending = s.pending ∧ t.oli.inbound = s.oli.inbound.tail
    ∧ t.oli.counts = { s.oli.counts with taken := min 4294967295 (s.oli.counts.taken + 1) }
    ∧ t.oli.flow = (if s.oli.flow = .hold ∧ s.oli.inbound.length = 3 then .go else s.oli.flow) ∧ KeepsLine s t

/-- The command completes: it is taken, its reply with the given kind, tag and result joins the reply list, only the listed blocks
change, the class enables stay, and the next state satisfies `p`. -/
def Answers (c : Instr) (s : State) (kind tag : Nat) (r : Result) (l : List Block) (p : State → Prop) : Prop :=
  ∃ t, exec c s = .next t ∧ Took s t ∧ t.oli.replies = s.oli.replies ++ [{ kind := kind, tag := tag, result := r }]
    ∧ t.oli.enables = s.oli.enables ∧ SameBut l s t ∧ p t

/-- The command completes with its reply deferred (R195): the reply list is unchanged. -/
def Defers (c : Instr) (s : State) (l : List Block) (p : State → Prop) : Prop :=
  ∃ t, exec c s = .next t ∧ Took s t ∧ t.oli.replies = s.oli.replies ∧ t.oli.enables = s.oli.enables ∧ SameBut l s t ∧ p t

/-- The command only reads: beside the taking of the request and its reply nothing changes, pending notices among it. -/
def Reads (c : Instr) (s : State) (kind tag : Nat) (r : Result) : Prop :=
  Answers c s kind tag r [] (fun t => t.oli.notices = s.oli.notices)

/-! ## Events -/

/-- The part runs and no RESTART is in progress. -/
def Running (s : State) : Prop := s.powered = true ∧ s.nvs.phase = .idle

/-- OLI's part of an event that is no request: queue, replies, counts and enables stay, and the line goes on. -/
def KeepsLink (s t : State) : Prop :=
  t.oli.inbound = s.oli.inbound ∧ t.oli.flow = s.oli.flow ∧ t.oli.replies = s.oli.replies ∧ t.oli.counts = s.oli.counts
    ∧ t.oli.enables = s.oli.enables ∧ KeepsLine s t

/-- The event happens at the time `now`: one moment passes, only the listed blocks change, and the next state satisfies `p`. -/
def Happens (c : Instr) (s : State) (now : Nat) (l : List Block) (p : State → Prop) : Prop :=
  ∃ t, exec c s = .next t ∧ t.powered = true ∧ t.now = now ∧ t.moment = s.moment + 1 ∧ t.pending = s.pending ∧ SameBut l s t ∧ p t

/-! ## Invariants -/

/-- The numbers of records and the bounds of the queues (Table 2; R39, R43, R55, R92, R95, R164, R171, R183, R193). -/
def Shape (s : State) : Prop :=
  s.dsv.dishes.length = 48 ∧ s.pbc.slots.length = 48 ∧ s.mlc.heaters.length = 48 ∧ s.wmn.masts.length = 4 ∧ s.znc.zones.length = 8
    ∧ s.znc.bankA.length = 8 ∧ s.znc.bankB.length = 8 ∧ s.sls.groups.length = 16 ∧ s.lkt.entries.length = 64
    ∧ s.nvs.slots.length = 63 ∧ s.act.counters.length = 8
    ∧ s.oli.inbound.length ≤ 8 ∧ s.sls.table.length ≤ 32 ∧ s.lkt.queue.length ≤ 8 ∧ s.pbc.commandCount ≤ 8
    ∧ (∀ m ∈ s.wmn.masts, m.window.length ≤ 60) ∧ (∀ sl ∈ s.pbc.slots, sl.seq < 16)

/-- The sum of the reservations of a feeder's dishes (R126). -/
def reserved (s : State) (f : Feeder) : Nat :=
  ((s.dsv.dishes.filter (fun d => d.feeder == f)).map (fun d => d.reservation.getD 0)).sum

/-- The sum of counted stage times H over a feeder's dishes (R126). -/
def heated (s : State) (f : Feeder) : Nat :=
  (((s.dsv.dishes.zip s.mlc.heaters).filter (fun x => x.1.feeder == f)).map (fun x => x.2.counted * x.1.profile.h)).sum

/-- The power account of one feeder (R126, R127, R129): slew committed and heat committed are the sums over its dishes, the ceiling is
the larger of the limit and committed, and the heat allowance is the larger of 0 and the smaller of the heat cap and limit minus
stow reserve minus slew committed. -/
def Account (s : State) (f : Feeder) : Prop :=
  let r := s.feeder f
  r.slewCommitted = reserved s f ∧ r.heatCommitted = heated s f ∧ r.ceiling = max r.limit (r.slewCommitted + r.heatCommitted)
    ∧ (r.allowance : Int) = max 0 (min (r.heatCap : Int) (r.limit - r.reserve - r.slewCommitted))

/-- All four accounts hold. -/
def Accounts (s : State) : Prop := ∀ f, Account s f

/-- A dish's claim fits its state (R4, R14 to R20): an auto task is the dish's open claim and is the only claim without a member; a HOME
task is held in UNREFERENCED or HOMING, every other claim in READY or SLEWING; and a stop timer runs only in STOPPING. -/
def ClaimFits (r : Dish) : Prop :=
  (r.task.isSome = true ↔ ∃ c, r.claim = some c ∧ c.ref = .task)
    ∧ (r.task = some .home → r.state = .unreferenced ∨ r.state = .homing)
    ∧ (r.claim.isSome = true → r.task ≠ some .home → r.state = .ready ∨ r.state = .slewing)
    ∧ (∀ x, r.timer = some x → x.kind = .stop → r.state = .stopping)

/-- Every dish's claim fits its state. -/
def ClaimsFit (s : State) : Prop := ∀ d, ClaimFits (s.dish d)

/-- Each timer of a RESTART is there only in the phase that starts it (R208, R209, Table 62): the quiet timer, running or expired with a
transaction in flight, in QUIET, and the stop timer in STOPPING. -/
def PhaseTimers (s : State) : Prop :=
  (s.nvs.quietDue.isSome = true → s.nvs.phase = .quiet) ∧ (s.nvs.resetDue = true → s.nvs.phase = .quiet)
    ∧ (s.nvs.stopDue.isSome = true → s.nvs.phase = .stopping)

/-- Every heater asks for at most 4 stages and is granted no more than is counted (Table 40, R151, R152). -/
def HeaterStages (s : State) : Prop := ∀ d, (s.heater d).requested ≤ 4 ∧ (s.heater d).granted ≤ (s.heater d).counted

end Sys2Proof.Machine
end

