-- ==== Sys2Proof/Certificates/Slice0/Obligations.lean ====
section
/-! DEFINITION. The statements for the provers: one `Obligations.<Name>` per statement, listed in OBLIGATIONS.json in this order. The
propositions and predicates they are built from stand in the namespace `Sys2Proof.Claims`. -/

namespace Sys2Proof.Claims
end Sys2Proof.Claims

open Sys2Proof Sys2Proof.Machine Sys2Proof.Claims

/-! ## The machine as a whole -/

namespace Sys2Proof.Claims

/-- A step with a command at the front of the queue is that command's meaning on the state with the queue's rest (log entry 1). -/
def StepRunsTheCommandInFront : Prop :=
  ∀ (s : State) (c : Instr) (rest : List Instr), s.pending = c :: rest → step s = exec c { s with pending := rest }

/-- A step on an empty queue lets one millisecond of a powered part's clock pass and changes nothing else: the model's choice, log
entry 4. -/
def StepOnAnEmptyQueueTicksTheClock : Prop :=
  ∀ s : State, s.pending = [] →
    (s.powered = true → step s = .next { s with now := s.now + 1 }) ∧ (s.powered = false → step s = .next s)

end Sys2Proof.Claims

/-- A step with a command at the front of the queue is that command's meaning on the state with the queue's rest; on an empty queue it lets one
millisecond of a powered part's clock pass (the model's choice, log entries 1 and 4). -/
def Obligations.StepRunsTheCommandInFrontOrTicks : Prop :=
  StepRunsTheCommandInFront ∧ StepOnAnEmptyQueueTicksTheClock

namespace Sys2Proof.Claims

/-- Table 9, Tables 3 and 4 and the assignment of R3, for dish `d`. -/
def dishAtReset (d : Nat) : Dish :=
  { profile := { bSlew := 4000, bHome := 2500, c := 20, dmax := 12000, h := 2500, vmaxAz := 2000, vmaxEl := 1000, aAz := 500, aEl := 300,
                 shedEl := 20000, shedEnable := true, heatEnable := true },
    feeder := if d ≤ 12 then .a else if d ≤ 24 then .b else if d ≤ 36 then .c else .d, zone := (d - 1) / 6 + 1, state := .absent, last := none,
    good := 0, miss := 0, lastGood := none,
    flags := { presence := false, owner := false, fault := false, key := false, surface := false }, supFault := .clear,
    reservation := none, claim := none, slewTimeout := none, acceptedSeq := none, task := none, timer := none }

/-- Table 15. -/
def busAtReset : Pbc :=
  { slots := List.replicate 48 { movePending := none, moveFlight := none, stopPending := none, stopFlight := none, heatPending := none,
                                 heatFlight := none, seq := 0, polled := false },
    allStop := false, heatAllOff := false, heatOff := false, commandCount := 0, pollPtr := 1, absentPtr := 1, candidate := none,
    totals := { transactions := 0, noReply := 0, check := 0, stray := 0, retries := 0, exhaustions := 0 }, replyWindow := 4, flight := none }

/-- Table 20 and the calibration of R66. -/
def mastAtReset : Mast :=
  { state := .warming, gain := 256, offset := 0, lastSeq := none, lastReport := none, lastTime := none, slotDue := 1500, window := [],
    validRun := 0, missedRun := 0, peak := none, valid := 0, missed := 0, duplicates := 0, rejected := 0 }

/-- Table 26 and the settings of R90, for zone `z`. -/
def zoneAtReset (z : Nat) : Zone :=
  let p := (z - 1) / 2 + 1
  { primary := p, fallback := if p = 4 then 3 else p + 1, stowEl := 90000, stowAz := none, source := none, state := .calm,
    causes := { wind := false, noSource := false, manual := false }, releaseDue := none, wave := none, lastOutcome := none }

/-- A row of Table 23 at its defaults. -/
def rowAtReset : Row := { w := 100, s1 := 150, g1 := 200, s0 := 80, g0 := 120, th := 600 }

/-- The dishes of group `g` (R93): 1 to 8 the zones, 9 to 12 the feeders, 13 to 16 empty. -/
def groupAtReset (g : Nat) : List Nat :=
  if g ≤ 8 then (List.range 6).map (fun i => 6 * (g - 1) + 1 + i) else if g ≤ 12 then (List.range 12).map (fun i => 12 * (g - 9) + 1 + i)
  else []

/-- Table 38. -/
def feederAtPowerUp : FeederRec :=
  { limit := 120000, reserve := 24000, heatCap := 40000, ceiling := 120000, slewCommitted := 0, heatCommitted := 0, allowance := 40000,
    shedDemand := none, waits := { stow := 0, home := 0, observe := 0, shed := 0 } }

/-- Table 44. -/
def heaterAtPowerUp : Heater :=
  { state := .off, requested := 0, granted := 0, counted := 0, meltEntry := none, hold := .absent, prioTemp := none, lastShed := none,
    melts := 0, shedsCreated := 0, shedsSkipped := 0, shedsDone := 0 }

/-- An EMPTY lockout entry (Table 45). -/
def entryAtReset : Entry :=
  { state := .empty, kind := none, holder := none, scope := 0, motion := false, heat := false, note := none, stamp := none,
    persisted := false, releaseStamp := none }

/-- Table 56. -/
def actAtReset : Act :=
  { counters := List.replicate 8 { cls := none, quals := none, mode := .occurrence, value := 0, threshold := none, overflow := false,
                                   notified := false },
    monitor := { state := .disarmed, stow := false, observe := false, tracked := none, waitTotal := 0, runTotal := 0, count := 0,
                 unadmitted := 0, untracked := 0, overflow := false },
    conds := { budgetWait := 0, heatUnmet := 0, stowOrder := 0, mastStale := 0, ceilingHigh := 0 }, tickDue := 1000 }

/-- Table 60 over an erased settings area and 63 empty lockout slots (the contents: log entry 2). -/
def storeAtReset : Nvs :=
  { area := .damaged, slots := List.replicate 63 .empty, path := .free, save := .idle, saveTag := none, defaulted := true, phase := .idle,
    restartTag := none, stopDue := none, quietDue := none, resetDue := false, lastRestart := none }

/-- Table 59 (GO as the flow state last sent: log entry 31). -/
def linkAtReset : Oli :=
  { inbound := [], flow := .go, flowPending := false, lastFlow := .go, replies := [], notices := [],
    enables := { zone := true, lockout := true, dishChange := true, slewDone := true, budget := true, counter := true, system := true },
    counts := { received := 0, badCrc := 0, badLength := 0, gap := 0, framing := 0, tagErrors := 0, refusedUnknownKind := 0,
                refusedBadLength := 0, refusedBusy := 0, taken := 0, replyDrops := 0, repliesSent := 0,
                noticesSent := { zone := 0, lockout := 0, dishChange := 0, slewDone := 0, budget := 0, counter := 0, system := 0 } },
    sending := none }

end Sys2Proof.Claims

/-- The state after reset, every record of the eleven blocks whole: the Power-up columns of Tables 9, 15, 20, 26, 34, 38, 44, 51, 56 and 59
over the default settings (Tables 3, 4, 23, 37 and 39; R3, R66, R90, R93, R199), since the settings area holds no valid image. That the
store is blank and the stop line deasserted is the model's choice of log entry 2; GO as the flow state last sent is that of log entry 31,
and the time base and the moment that begin at 0 are those of log entries 4 and 5. -/
def Obligations.ResetLeavesThePowerUpValues : Prop :=
  let s := State.reset
  s.powered = true ∧ s.now = 0 ∧ s.moment = 0 ∧ s.pending = []
    ∧ s.dsv = { dishes := allDishes.map dishAtReset, nSettle := 10, nMiss := 4, homeTimeout := 240 }
    ∧ s.pbc = busAtReset ∧ s.wmn = { masts := List.replicate 4 mastAtReset }
    ∧ s.znc = { zones := [1, 2, 3, 4, 5, 6, 7, 8].map zoneAtReset, bankA := List.replicate 8 rowAtReset,
                bankB := List.replicate 8 rowAtReset, active := .a }
    ∧ s.sls.table = [] ∧ s.sls.lastId = 0
    ∧ s.sls.groups.map members = [1, 2, 3, 4, 5, 6, 7, 8, 9, 10, 11, 12, 13, 14, 15, 16].map groupAtReset
    ∧ s.fbu = { feeders := ⟨feederAtPowerUp, feederAtPowerUp, feederAtPowerUp, feederAtPowerUp⟩, passDue := false }
    ∧ s.mlc = { heaters := List.replicate 48 heaterAtPowerUp,
                policy := { bandHigh := -20, bandLow := -80, guardOn := 10, guardOff := 30, minMelt := 120, sensorHold := 300 } }
    ∧ s.lkt = { entries := List.replicate 64 entryAtReset, queue := [], writeBacks := [], estopLevel := false }
    ∧ s.nvs = storeAtReset ∧ s.act = actAtReset ∧ s.oli = linkAtReset

namespace Sys2Proof.Claims

/-- A part without power takes no event but power-up (R206); a command that names such an event changes nothing (log entry 1). -/
def UnpoweredPartTakesNoEventButPowerUp : Prop :=
  ∀ (c : Instr) (s : State), s.powered = false → (∀ e, c ≠ .powerUp e) → exec c s = .next s

/-- R195: a request is taken only when it is the oldest in the inbound queue and the reply list holds fewer than 16 replies: until
then the command changes nothing. (Where the queue is empty the command stands for its own arrival too, log entry 1.) -/
def RequestWaitsItsTurnAndForRoom : Prop :=
  ∀ (c : Instr) (s : State), (requestOf c).isSome = true → s.oli.inbound ≠ [] →
    (s.oli.inbound.head? ≠ some c ∨ 16 ≤ s.oli.replies.length) → exec c s = .next s

/-- The events that cannot occur as a powered part stands: power-up; the end of a frame with none being sent; a store event with no such
write to start or to complete (R204); a change of the stop line to the level it has (R176); a transaction with one in flight, or in QUIET
with no broadcast pending (R38, R45); a reply, a gap or a window's close with no addressed frame in flight, characters after the window
has closed or of no fitting number, and a broadcast's end without one (R31); a mast frame that is none (R50); a pass that is not due
(R133); and the expiry of a timer that does not run. -/
inductive CannotOccur (s : State) : Instr → Prop
  | powerUp (e : Bool) : s.powered = true → CannotOccur s (.powerUp e)
  | frameSent : s.oli.sending = none → CannotOccur s .olFrameSent
  | writeStart : (s.nvs.path ≠ .free ∨ ((∀ o ∈ s.lkt.queue, o.running = true) ∧ s.nvs.save ≠ .pending)) → CannotOccur s .storeWriteStart
  | lockComplete (r : StoreResult) : (∀ i x, s.nvs.path ≠ .lockout i x) → CannotOccur s (.lockStoreComplete r)
  | saveComplete (r : StoreResult) : (∀ x crc, s.nvs.path ≠ .save x crc) → CannotOccur s (.settingsSaveComplete r)
  | stopTimer : s.nvs.stopDue = none → CannotOccur s .restartStopTimerExpiry
  | quietTimer : s.nvs.quietDue = none → CannotOccur s .quietTimerExpiry
  | lineUp : s.lkt.estopLevel = true → CannotOccur s .estopAssert
  | lineDown : s.lkt.estopLevel = false → CannotOccur s .estopDeassert
  | busTaken : s.pbc.flight ≠ none → CannotOccur s .plTransactionStart
  | busQuiet : s.nvs.phase = .quiet → s.pbc.allStop = false → s.pbc.heatAllOff = false → CannotOccur s .plTransactionStart
  | unasked (c : Instr) : (∀ x, s.pbc.flight = some x → x.kind = .allStop ∨ x.kind = .heatAllOff) →
      (c = .plReplyWindowExpiry ∨ ∃ l, c = .plReplyReceived l ∨ c = .plReplyGap l) → CannotOccur s c
  | late (c : Instr) (x : Transaction) : s.pbc.flight = some x → x.windowDue < s.now →
      (∃ l, c = .plReplyReceived l ∨ c = .plReplyGap l) → CannotOccur s c
  | wrongLength (l : List PlChar) : l.length ≠ 21 → CannotOccur s (.plReplyReceived l)
  | noGap (l : List PlChar) : l = [] ∨ 21 ≤ l.length → CannotOccur s (.plReplyGap l)
  | noBroadcast : (∀ x, s.pbc.flight = some x → x.kind ≠ .allStop ∧ x.kind ≠ .heatAllOff) → CannotOccur s .plBroadcastEnd
  | slewTimer (d : Nat) : (∀ due, (s.dish d).timer ≠ some { kind := .slew, due := due }) → CannotOccur s (.slewTimerExpiry d)
  | homeTimer (d : Nat) : (∀ due, (s.dish d).timer ≠ some { kind := .home, due := due }) → CannotOccur s (.homeTimerExpiry d)
  | stopTimerOf (d : Nat) : (∀ due, (s.dish d).timer ≠ some { kind := .stop, due := due }) → CannotOccur s (.stopTimerExpiry d)
  | noMast (c : Instr) (m : Nat) : (m = 0 ∨ s.wmn.masts.length < m) →
      (c = .mastFrameGapTimeout m ∨ c = .slotTimerExpiry m ∨ ∃ b f, c = .mastReportFrame m b f) → CannotOccur s c
  | noStart (m : Nat) (bytes : List Byte) (f : Bool) : bytes.head? ≠ some 0xA5 → CannotOccur s (.mastReportFrame m bytes f)
  | noFrame (m : Nat) (bytes : List Byte) : bytes.length ≠ 7 → CannotOccur s (.mastReportFrame m bytes false)
  | releaseTimer (z : Nat) : (z = 0 ∨ s.znc.zones.length < z ∨ (s.zone z).releaseDue = none) → CannotOccur s (.releaseTimerExpiry z)
  | pass : s.fbu.passDue = false → CannotOccur s .admissionPass
  | holdTimer (d : Nat) : (∀ due, (s.heater d).hold ≠ .running due) → CannotOccur s (.sensorHoldExpiry d)
  | deadline (id : Nat) : (∀ r, s.record id = some r → r.deadlineDue = none) → CannotOccur s (.deadlineExpiry id)

/-- An event that cannot occur changes nothing where a command names it: the model's choice, log entry 1. -/
def EventThatCannotOccurChangesNothing : Prop := ∀ (s : State) (c : Instr), CannotOccur s c → exec c s = .next s

end Sys2Proof.Claims

/-- R195, R206, and the model's choice of log entry 1: a part without power takes no event but power-up; a request that is not the oldest, or
finds 16 replies waiting, is not taken; and an event that the state of the part rules out does not happen. The command then changes
nothing. -/
def Obligations.CommandsThatCannotOccurChangeNothing : Prop :=
  UnpoweredPartTakesNoEventButPowerUp ∧ RequestWaitsItsTurnAndForRoom ∧ EventThatCannotOccurChangesNothing

/-- Every step keeps the shape of the machine: 48 dish, slot and heater records, 4 masts, 8 zones and rows, 16 groups, 64 lockout
entries and 63 slots, 8 counters, at most 8 requests, 32 slew records, 8 store operations and 60 samples in a window, a command count
of at most 8 and move sequences below 16. -/
def Obligations.EveryStepKeepsTheShape : Prop := ∀ s t : State, Shape s → step s = .next t → Shape t

namespace Sys2Proof.Claims

def ResetHasTheShape : Prop := Shape State.reset

end Sys2Proof.Claims

/-- R126, R127, R129: every step keeps the power account of every feeder. -/
def Obligations.EveryStepKeepsTheAccounts : Prop := ∀ s t : State, Accounts s → step s = .next t → Accounts t

namespace Sys2Proof.Claims

def ResetHasTheAccounts : Prop := Accounts State.reset

end Sys2Proof.Claims

/-- R4, R14 to R20, Tables 5 and 6: every step keeps every dish's claim in accord with its state. -/
def Obligations.EveryStepKeepsClaimsFitToTheirStates : Prop := ∀ s t : State, ClaimsFit s → step s = .next t → ClaimsFit t

namespace Sys2Proof.Claims

def ResetHasClaimsFitToTheirStates : Prop := ClaimsFit State.reset

end Sys2Proof.Claims

/-- R195, R200: while a RESTART is in progress, every request but IDENTIFY is answered RESTARTING, and IDENTIFY is answered as usual; no
owner's records change. The hypothesis says that no phase change is due. (Uptime and the time since the RESTART in whole seconds, rounded
down: log entry 13. That the latter, which has no stated top, does not saturate: the model's choice, log entry 38.) -/
def Obligations.RequestsInARestartAreAnsweredRestarting : Prop :=
  ∀ (c : Instr) (s : State) (kind tag : Nat), s.powered = true → s.nvs.phase ≠ .idle → s.oli.inbound.head? = some c →
    s.oli.replies.length < 16 → requestOf c = some (kind, tag) → (s.nvs.phase = .draining → s.drained = false) →
    (s.nvs.phase = .stopping → s.atRest = false) →
    if c = .identify tag then
      Reads c s kind tag (.ok (.identity
        { partCode := Config.partCode, hardwareRevision := Config.hardwareRevision, protocolVersion := Config.protocolVersion,
          stations := 48, defaulted := s.nvs.defaulted, restarting := true, uptime := min 4294967295 (s.now / 1000),
          sinceRestart := s.nvs.lastRestart.map (fun t => (s.now - t) / 1000) }))
    else Reads c s kind tag (.refused .restarting)

/-! ## What the Activity Counters are handed -/

namespace Sys2Proof.Claims

/-- A counter after one increment (R186): one more, or at its top with overflow, and notified once its value has reached its threshold. -/
def counted (c : Counter) : Counter :=
  let x : Counter := if c.value < 4294967295 then { c with value := c.value + 1 } else { c with overflow := true }
  { x with notified := c.notified || (match c.threshold with | some k => decide (k ≤ x.value) | none => false) }

/-- Whether a counter counts the events of a class with a qualifier value (R184). -/
def matched (c : Counter) (k : EventClass) (q : Option Nat) : Bool :=
  c.cls == some k && c.mode == .occurrence
    && (match c.quals, q with | none, _ => true | some m, some b => m.getLsbD b | some _, none => false)

/-- Of class `k` ACT has been handed the events with these qualifier values, in their order, and no others (R184, R186): a counter of the
class counts each that it matches, and where it is notified for the first time its notice is pending. -/
def CountsOf (s t : State) (k : EventClass) (l : List (Option Nat)) : Prop :=
  ∀ n, 1 ≤ n → n ≤ 8 →
    let c := s.act.counters.getD (n - 1) {}
    let c' := t.act.counters.getD (n - 1) {}
    c.cls = some k → c' = l.foldl (fun x q => if matched x k q then counted x else x) c
      ∧ (c.notified = false → c'.notified = true → .counter n ∈ t.oli.notices)

/-- The same where `k` is the only class handed: every counter of another class stays. -/
def CountsOnly (s t : State) (k : EventClass) (l : List (Option Nat)) : Prop :=
  CountsOf s t k l ∧ t.act.counters.length = s.act.counters.length
    ∧ ∀ n, 1 ≤ n → n ≤ 8 → (s.act.counters.getD (n - 1) {}).cls ≠ some k →
        t.act.counters.getD (n - 1) {} = s.act.counters.getD (n - 1) {}

/-- R188, Table 55: the monitor `m` becomes `m'` at the creation of a record whose class is in its set or is not. -/
def MonitorAtCreation (m m' : Monitor) (now : Nat) (r : TrackRef) (inSet : Bool) : Prop :=
  (inSet = false ∨ m.state = .disarmed → m' = m)
  ∧ (inSet = true → m.state = .armed →
      m' = { m with state := .tracking, tracked := some { ref := r, created := now, admittedAt := none } })
  ∧ (inSet = true → m.state = .tracking → m' = { m with
      untracked := min 4294967295 (m.untracked + 1), overflow := m.overflow || decide (4294967295 < m.untracked + 1) })

/-- R188, Table 55: the monitor at an admission of a member of record `r`: the first one of the tracked record is timed. -/
def MonitorAtAdmission (m m' : Monitor) (now : Nat) (r : TrackRef) : Prop :=
  let first : Prop := m.state = .tracking ∧ ∃ x, m.tracked = some x ∧ x.ref = r ∧ x.admittedAt = none
  (¬ first → m' = m)
  ∧ ∀ x, first → m.tracked = some x → m' = { m with tracked := some { x with admittedAt := some now } }

/-- R188, Table 55: the monitor at the completion of record `r`. -/
def MonitorAtCompletion (m m' : Monitor) (now : Nat) (r : TrackRef) : Prop :=
  let mine : Prop := m.state = .tracking ∧ ∃ x, m.tracked = some x ∧ x.ref = r
  (¬ mine → m' = m)
  ∧ ∀ x, mine → m.tracked = some x →
    (x.admittedAt = none → m' = { m with
      state := .armed, tracked := none, unadmitted := min 4294967295 (m.unadmitted + 1),
      overflow := m.overflow || decide (4294967295 < m.unadmitted + 1) })
    ∧ (∀ a, x.admittedAt = some a →
      let wait := (a - x.created) / 100
      let run := (now - a) / 100
      m' = { m with
        state := .armed, tracked := none, waitTotal := min 4294967295 (m.waitTotal + wait), runTotal := min 4294967295 (m.runTotal + run),
        count := min 4294967295 (m.count + 1),
        overflow := m.overflow || decide (4294967295 < m.waitTotal + wait) || decide (4294967295 < m.runTotal + run)
          || decide (4294967295 < m.count + 1) })

end Sys2Proof.Claims

/-! ## The Observatory link -/

namespace Sys2Proof.Claims

/-- R200: IDENTIFY outside a RESTART. (The time since the last RESTART reset does not saturate: the model's choice, log entry 38.) -/
def IdentifyReportsThePart : Prop :=
  ∀ (s : State) (tag : Nat), Ready s (.identify tag) →
    Reads (.identify tag) s 0x01 tag (.ok (.identity
      { partCode := Config.partCode, hardwareRevision := Config.hardwareRevision, protocolVersion := Config.protocolVersion,
        stations := 48, defaulted := s.nvs.defaulted, restarting := false, uptime := min 4294967295 (s.now / 1000),
        sinceRestart := s.nvs.lastRestart.map (fun t => (s.now - t) / 1000) }))

/-- R201: LINK_STATUS reports the link counts as they stand once the request has been taken, the queue, the flow state, the replies,
the pending notices, the enables and the Pedestal link totals. -/
def LinkStatusReportsTheLink : Prop :=
  ∀ (s : State) (tag : Nat), Ready s (.linkStatus tag) →
    Reads (.linkStatus tag) s 0x02 tag (.ok (.link
      { counts := { s.oli.counts with taken := min 4294967295 (s.oli.counts.taken + 1) },
        queued := s.oli.inbound.length - 1,
        flow := if s.oli.flow = .hold ∧ s.oli.inbound.length = 3 then .go else s.oli.flow,
        replies := s.oli.replies.length, pending := s.oli.pendingCounts, enables := s.oli.enables, totals := s.pbc.totals }))

/-- R199: NOTICE_ENABLE sets the carried enables, keeps the others, replies with the seven enables and discards no notice. -/
def NoticeEnableSetsTheCarriedEnables : Prop :=
  ∀ (s : State) (tag : Nat) (e : EnableEdit), Ready s (.noticeEnable tag e) →
    let x := s.oli.enables
    let y : Enables :=
      { zone := e.zone.getD x.zone, lockout := e.lockout.getD x.lockout, dishChange := e.dishChange.getD x.dishChange,
        slewDone := e.slewDone.getD x.slewDone, budget := e.budget.getD x.budget, counter := e.counter.getD x.counter,
        system := e.system.getD x.system }
    ∃ t, exec (.noticeEnable tag e) s = .next t ∧ Took s t ∧ SameBut [] s t ∧ t.oli.enables = y
      ∧ t.oli.replies = s.oli.replies ++ [{ kind := 0x03, tag := tag, result := .ok (.enables y) }] ∧ t.oli.notices = s.oli.notices

end Sys2Proof.Claims

/-- R199, R200, R201: the three requests that OLI owns. (Times rounded down to seconds, and a pending notice counted once per key: log
entry 13. The time since the last RESTART reset does not saturate: the model's choice, log entry 38.) -/
def Obligations.IdentifyLinkStatusAndNoticeEnable : Prop :=
  IdentifyReportsThePart ∧ LinkStatusReportsTheLink ∧ NoticeEnableSetsTheCarriedEnables

namespace Sys2Proof.Claims

/-- R192: a frame dropped for its length, a framing error or its CRC, and a gap, add 1 to the matching link count; no reply is made
and no record changes. A whole frame whose body is above 1 024 bytes or whose CRC differs is dropped so. -/
def DroppedFramesAreOnlyCounted : Prop :=
  ∀ s : State, Running s →
    let dropped (c : Instr) (counts : LinkCounts) : Prop :=
      Happens c s s.now [] (fun t => t.oli.counts = counts ∧ t.oli.inbound = s.oli.inbound ∧ t.oli.flow = s.oli.flow
        ∧ t.oli.replies = s.oli.replies ∧ t.oli.notices = s.oli.notices ∧ t.oli.enables = s.oli.enables ∧ KeepsLine s t)
    let k := s.oli.counts
    let oneMore (x : Nat) : Nat := min 4294967295 (x + 1)
    dropped (.olFrameDrop .badLength) { k with badLength := oneMore k.badLength }
      ∧ dropped (.olFrameDrop .framingError) { k with framing := oneMore k.framing }
      ∧ dropped (.olFrameDrop .badCrc) { k with badCrc := oneMore k.badCrc }
      ∧ dropped .olRxGapTimeout { k with gap := oneMore k.gap }
      ∧ ∀ (kind tag : Byte) (body : List Byte) (crc : BitVec 16),
          (1024 < body.length → dropped (.olFrameArrival kind tag body crc) { k with badLength := oneMore k.badLength })
          ∧ (body.length ≤ 1024 → crc ≠ crc16 (kind :: tag :: body) →
              dropped (.olFrameArrival kind tag body crc) { k with badCrc := oneMore k.badCrc })

/-- An optional field as it is sent (R211): presence 0, or presence 1 and the value. -/
def maybe {α : Type} (x : Option α) (f : α → List Byte) : List Byte :=
  match x with
  | none => [0]
  | some v => 1 :: f v

def yes (b : Bool) : List Byte := [if b then 1 else 0]
def set6 (ds : DishSet) : List Byte := le 6 ds.toNat
def slewBody (a : SlewArgs) : List Byte :=
  leInt 4 a.az ++ leInt 4 a.el ++ maybe a.rateAz (le 2) ++ maybe a.rateEl (le 2) ++ maybe a.deadline (le 2)

/-- The body of each request as the host sends it: the fields that its rule lists, in that order, in the encodings of R211, and the
layouts of Frame Layouts for slews and lockouts. Where R211 leaves an encoding open the model's is that of log entry 6 (DEDUCED): the yes
and no bytes, the group set in 2 bytes, the index set in 8, the counter set and the class set in 1, and the stow azimuth of ZONE_SET, whose
value is itself optional. -/
def bodyOf : Instr → Option (List Byte)
  | .identify _ | .linkStatus _ | .queueStatus _ | .estopClear _ | .timingRead _ | .settingsSave _ | .restart _ => some []
  | .noticeEnable _ e => some (maybe e.zone yes ++ maybe e.lockout yes ++ maybe e.dishChange yes ++ maybe e.slewDone yes
      ++ maybe e.budget yes ++ maybe e.counter yes ++ maybe e.system yes)
  | .dishStatus _ ds | .dishStop _ ds => some (set6 ds)
  | .dishRehome _ n | .slewStatus _ n | .bankRead _ n | .bankSelect _ n | .zoneStow _ n | .zoneRelease _ n | .lockRetire _ n => some (le 1 n)
  | .dishAckChanges _ ds m | .heatStatus _ ds m => some (set6 ds ++ [m])
  | .dishSetProfile _ ds p v => some (set6 ds ++ maybe p.bSlew (le 2) ++ maybe p.bHome (le 2) ++ maybe p.c (le 1) ++ maybe p.dmax (le 2)
      ++ maybe p.h (le 2) ++ maybe p.vmaxAz (le 2) ++ maybe p.vmaxEl (le 2) ++ maybe p.aAz (le 2) ++ maybe p.aEl (le 2)
      ++ maybe p.shedEl (leInt 4) ++ maybe p.shedEnable yes ++ maybe p.heatEnable yes ++ maybe v.nSettle (le 1) ++ maybe v.nMiss (le 1)
      ++ maybe v.homeTimeout (le 2) ++ maybe v.replyWindow (le 1))
  | .dishAssign _ ds f z => some (set6 ds ++ maybe f (le 1) ++ maybe z (le 1))
  | .slew _ d a => some (le 1 d ++ slewBody a)
  | .jointSlew _ (.group n) mode a => some (0 :: le 1 n ++ le 1 mode ++ slewBody a)
  | .jointSlew _ (.dishes ds) mode a => some (1 :: set6 ds ++ le 1 mode ++ slewBody a)
  | .slewCancel _ id ds => some (le 1 id ++ maybe ds set6)
  | .groupSet _ n ds => some (le 1 n ++ set6 ds)
  | .groupRead _ m => some (le 2 m.toNat)
  | .feederSet _ f limit reserve cap => some (le 1 f ++ maybe limit (le 4) ++ maybe reserve (le 4) ++ maybe cap (le 4))
  | .feederStatus _ m | .zoneStatus _ m | .counterRead _ m | .counterClear _ m | .timingArm _ m => some [m]
  | .mastSet _ m gain offset => some (le 1 m ++ maybe gain (le 2) ++ maybe offset (le 1))
  | .mastStatus _ m w => some (m :: yes w)
  | .zoneSet _ z e => some (le 1 z ++ maybe e.primary (le 1) ++ maybe e.fallback (le 1) ++ maybe e.stowEl (leInt 4)
      ++ maybe e.stowAz (fun x => maybe x (leInt 4)))
  | .bankWriteRow _ b z r => some (le 1 b ++ le 1 z ++ le 2 r.w ++ le 2 r.s1 ++ le 2 r.g1 ++ le 2 r.s0 ++ le 2 r.g0 ++ le 2 r.th)
  | .heatPolicySet _ e => some (maybe e.bandHigh (leInt 2) ++ maybe e.bandLow (leInt 2) ++ maybe e.guardOn (leInt 2)
      ++ maybe e.guardOff (leInt 2) ++ maybe e.minMelt (le 2) ++ maybe e.sensorHold (le 2))
  | .heatEnable _ ds h sh => some (set6 ds ++ maybe h yes ++ maybe sh yes)
  | .lockPlace _ a => some (le 1 a.kind ++ maybe a.holder (le 2) ++ set6 a.scope
      ++ [if a.motion then (if a.heat then 3 else 1) else (if a.heat then 2 else 0)] ++ maybe a.note (fun n => le 1 n.length ++ n)
      ++ maybe a.stamp (le 4))
  | .lockAmend _ i h ds => some (le 1 i ++ maybe h (le 2) ++ set6 ds)
  | .lockRelease _ i h st => some (le 1 i ++ maybe h (le 2) ++ maybe st (le 4))
  | .lockFind _ ds ks ss => some (maybe ds set6 ++ maybe ks (fun m => [m]) ++ maybe ss (fun m => [m]))
  | .lockRead _ m => some (le 8 m.toNat)
  | .counterSet _ n a => some (le 1 n ++ maybe a.cls (le 1) ++ maybe a.quals (fun m => [m]) ++ le 1 a.mode ++ maybe a.threshold (le 4))
  | _ => none

end Sys2Proof.Claims

/-- R193, R194, R211 and Frame Layouts: every well-formed request of the 44 kinds, sent as its kind, tag, body and CRC, joins the inbound
queue at the newest end as that request, HOLD begins where the queue reaches 6, and no record changes. (The encodings that R211 leaves open,
of a group set, an index set, a counter set, a class set, the doubly optional stow azimuth of ZONE_SET and a yes or no, are the model's, by
log entry 6: DEDUCED.) -/
def Obligations.ReceivedFrameJoinsTheQueueAsItsRequest : Prop :=
  ∀ (s : State) (c : Instr) (kind tag : Nat), Running s → c.wf = true → requestOf c = some (kind, tag) →
    s.oli.inbound.length < 8 →
    let k := BitVec.ofNat 8 kind
    let t := BitVec.ofNat 8 tag
    ∃ body, bodyOf c = some body ∧ Happens (.olFrameArrival k t body (crc16 (k :: t :: body))) s s.now [] (fun t =>
      t.oli.inbound = s.oli.inbound ++ [c]
      ∧ t.oli.flow = (if s.oli.flow = .go ∧ s.oli.inbound.length = 5 then .hold else s.oli.flow)
      ∧ t.oli.counts = { s.oli.counts with received := min 4294967295 (s.oli.counts.received + 1) }
      ∧ t.oli.replies = s.oli.replies ∧ t.oli.notices = s.oli.notices ∧ t.oli.enables = s.oli.enables ∧ KeepsLine s t)

namespace Sys2Proof.Claims

/-- One part of a request layout (R211): so many bytes, an optional field, a note, or a JOINT_SLEW selector. -/
inductive Part where
  | bytes (n : Nat)
  | opt (l : List Part)
  | note
  | selector

/-- The layout of each request kind (R211, Frame Layouts); none for a kind that is no request. The lengths of GROUP_READ (0x10), LOCK_READ
(0x24), COUNTER_READ and COUNTER_CLEAR (0x27, 0x28), TIMING_ARM (0x29), MAST_STATUS (0x14) and ZONE_SET (0x15), and that of a yes or no,
rest on log entry 6 (DEDUCED), where R211 leaves them open. -/
def partsOf (kind : Nat) : Option (List Part) :=
  let o (n : Nat) : Part := .opt [.bytes n]
  match kind with
  | 0x01 | 0x02 | 0x0E | 0x25 | 0x2A | 0x2B | 0x2C => some []
  | 0x03 => some [o 1, o 1, o 1, o 1, o 1, o 1, o 1]
  | 0x04 | 0x05 => some [.bytes 6]
  | 0x06 | 0x0D | 0x12 | 0x16 | 0x18 | 0x19 | 0x1A | 0x1B | 0x22 | 0x27 | 0x28 | 0x29 => some [.bytes 1]
  | 0x07 | 0x0F | 0x1E => some [.bytes 7]
  | 0x08 => some [.bytes 6, o 2, o 2, o 1, o 2, o 2, o 2, o 2, o 2, o 2, o 4, o 1, o 1, o 1, o 1, o 2, o 1]
  | 0x09 => some [.bytes 6, o 1, o 1]
  | 0x0A => some [.bytes 9, o 2, o 2, o 2]
  | 0x0B => some [.selector, .bytes 9, o 2, o 2, o 2]
  | 0x0C => some [.bytes 1, o 6]
  | 0x10 | 0x14 => some [.bytes 2]
  | 0x11 => some [.bytes 1, o 4, o 4, o 4]
  | 0x13 => some [.bytes 1, o 2, o 1]
  | 0x15 => some [.bytes 1, o 1, o 1, o 4, .opt [o 4]]
  | 0x17 => some [.bytes 14]
  | 0x1C => some [o 2, o 2, o 2, o 2, o 2, o 2]
  | 0x1D => some [.bytes 6, o 1, o 1]
  | 0x1F => some [.bytes 1, o 2, .bytes 7, .opt [.note], o 4]
  | 0x20 => some [.bytes 1, o 2, .bytes 6]
  | 0x21 => some [.bytes 1, o 2, o 4]
  | 0x23 => some [o 6, o 1, o 1]
  | 0x24 => some [.bytes 8]
  | 0x26 => some [.bytes 1, o 1, o 1, .bytes 1, o 4]
  | _ => none

/-- The body fits the layout: presence bytes 0 or 1, selector type 0 or 1, each note as long as its length byte says, and no byte left
over (R211). -/
inductive Fits : List Part → List Byte → Prop
  | nil : Fits [] []
  | bytes (n : Nat) (l : List Part) (a b : List Byte) : a.length = n → Fits l b → Fits (.bytes n :: l) (a ++ b)
  | absent (q l : List Part) (b : List Byte) : Fits l b → Fits (.opt q :: l) (0 :: b)
  | present (q l : List Part) (b : List Byte) : Fits (q ++ l) b → Fits (.opt q :: l) (1 :: b)
  | note (l : List Part) (n : Byte) (a b : List Byte) : a.length = n.toNat → Fits l b → Fits (.note :: l) (n :: (a ++ b))
  | group (l : List Part) (n : Byte) (b : List Byte) : Fits l b → Fits (.selector :: l) (0 :: n :: b)
  | dishes (l : List Part) (a b : List Byte) : a.length = 6 → Fits l b → Fits (.selector :: l) (1 :: (a ++ b))

/-- R193, R196, R211: a received frame with tag 0 is discarded and counted; an unknown kind, a body that the kind's layout does not allow,
and a fitting request at a full queue are refused in that order, with an immediate reply where the list holds fewer than 16 replies and
a count where it does not. (A note longer than 32 fits its length byte and is its owner's to refuse: log entry 6, on which the lengths of
`partsOf` that R211 leaves open rest too.) -/
def ArrivalChecksRefuseInOrder : Prop :=
  ∀ (s : State) (kind tag : Byte) (body : List Byte), Running s → body.length ≤ 1024 →
    let k := { s.oli.counts with received := min 4294967295 (s.oli.counts.received + 1) }
    let oneMore (x : Nat) : Nat := min 4294967295 (x + 1)
    let frame : Instr := .olFrameArrival kind tag body (crc16 (kind :: tag :: body))
    let refused (why : Reason) (counts : LinkCounts) : Prop :=
      Happens frame s s.now [] (fun t =>
        t.oli.inbound = s.oli.inbound ∧ t.oli.notices = s.oli.notices ∧ t.oli.enables = s.oli.enables ∧ KeepsLine s t
        ∧ (s.oli.replies.length < 16 → t.oli.counts = counts ∧ t.oli.replies
            = s.oli.replies ++ [{ kind := kind.toNat, tag := tag.toNat, result := .refused why }])
        ∧ (16 ≤ s.oli.replies.length →
            t.oli.counts = { counts with replyDrops := oneMore k.replyDrops } ∧ t.oli.replies = s.oli.replies))
    (tag = 0 → Happens frame s s.now [] (fun t => t.oli.counts = { k with tagErrors := oneMore k.tagErrors }
        ∧ t.oli.inbound = s.oli.inbound ∧ t.oli.replies = s.oli.replies ∧ t.oli.notices = s.oli.notices))
    ∧ (tag ≠ 0 → partsOf kind.toNat = none → refused .unknownKind { k with refusedUnknownKind := oneMore k.refusedUnknownKind })
    ∧ (∀ l, tag ≠ 0 → partsOf kind.toNat = some l → ¬ Fits l body →
        refused .badLength { k with refusedBadLength := oneMore k.refusedBadLength })
    ∧ (∀ l, tag ≠ 0 → partsOf kind.toNat = some l → Fits l body → 8 ≤ s.oli.inbound.length →
        refused .busy { k with refusedBusy := oneMore k.refusedBusy })

end Sys2Proof.Claims

/-- R192, R193, R196, R211: what is dropped is only counted, and the arrival checks refuse in their order, for every request kind. (The lengths of
GROUP_READ, LOCK_READ, COUNTER_READ, COUNTER_CLEAR, TIMING_ARM, MAST_STATUS, ZONE_SET and of a yes or no, and a note above 32, are the
model's, by log entry 6: DEDUCED.) -/
def Obligations.FramesAreDroppedOrRefusedInOrder : Prop :=
  DroppedFramesAreOnlyCounted ∧ ArrivalChecksRefuseInOrder

namespace Sys2Proof.Claims

/-- The next outbound frame (R197): the pending flow frame, else the oldest reply, else the first pending notice of an enabled class
in class order, built from the records as they stand, else none. -/
def NextFrame (u : State) (x : Option Sending) : Prop :=
  if u.oli.flowPending = true then x = some { out := .flow u.oli.flow, segments := [[]] }
  else
    match u.oli.replies with
    | r :: _ => x = some { out := .reply r true, segments := segmentsOf r.result.bytes }
    | [] =>
      (∃ k ∈ u.oli.notices, u.oli.enables.allows k = true
          ∧ (∀ k' ∈ u.oli.notices, u.oli.enables.allows k' = true → k.cls ≤ k'.cls)
          ∧ u.oli.notices.find? (fun k' => k'.cls == k.cls && u.oli.enables.allows k') = some k
          ∧ x = some { out := .notice k (u.buildNotice k) true, segments := segmentsOf (u.buildNotice k).bytes })
      ∨ ((∀ k ∈ u.oli.notices, u.oli.enables.allows k = false) ∧ x = none)

end Sys2Proof.Claims

/-- R114, R194, R196, R197: at the end of an outbound frame a next segment goes at once; the last frame of a reply takes it off the list
and counts it, that of a notice takes it off its pending set and counts it for its class, and a SLEW_DONE frees its record; then the
next frame is chosen. (Where a body above 1 024 bytes is cut into segments is the model's choice, log entry 37.) -/
def Obligations.EndOfAFrameFreesTheLineForTheNext : Prop :=
  ∀ (s : State) (x : Sending), Running s → s.oli.sending = some x →
    (∀ b b' rest, x.segments = b :: b' :: rest → Happens .olFrameSent s s.now [] (fun t =>
        t.oli = { s.oli with sending := some { x with segments := b' :: rest } }))
    ∧ (x.segments.length ≤ 1 →
      (∀ f, x.out = .flow f → Happens .olFrameSent s s.now [] (fun t =>
          t.oli.replies = s.oli.replies ∧ t.oli.notices = s.oli.notices ∧ t.oli.counts = s.oli.counts
          ∧ NextFrame { s with oli.sending := none } t.oli.sending))
      ∧ (∀ r rest, x.out = .reply r true → s.oli.replies = r :: rest → Happens .olFrameSent s s.now [] (fun t =>
          t.oli.replies = rest ∧ t.oli.notices = s.oli.notices
          ∧ t.oli.counts = { s.oli.counts with repliesSent := min 4294967295 (s.oli.counts.repliesSent + 1) }
          ∧ NextFrame { s with oli.sending := none, oli.replies := rest } t.oli.sending))
      ∧ (∀ k n, x.out = .notice k n true → Happens .olFrameSent s s.now [.sls] (fun t =>
          t.oli.replies = s.oli.replies ∧ t.oli.notices = s.oli.notices.erase k
          ∧ t.oli.counts = { s.oli.counts with noticesSent := s.oli.counts.noticesSent.inc k }
          ∧ t.sls.groups = s.sls.groups ∧ t.sls.lastId = s.sls.lastId
          ∧ t.sls.table = s.sls.table.filter (fun r => k != .slewDone r.id)
          ∧ NextFrame { s with oli.sending := none, oli.notices := s.oli.notices.erase k, sls := t.sls } t.oli.sending)))

/-! ## Dish Drive Supervision -/

namespace Sys2Proof.Claims

/-- R27: DISH_STATUS is refused with EMPTY_SET for the empty set and otherwise reports each dish of the set in dish order; it changes no
field and clears no flag. A remaining time is rounded up to its unit: log entry 13. -/
def DishStatusReportsEachDishInOrder : Prop :=
  ∀ (s : State) (tag : Nat) (ds : DishSet), Ready s (.dishStatus tag ds) →
    (ds = 0 → Reads (.dishStatus tag ds) s 0x04 tag (.refused .emptySet))
    ∧ (ds ≠ 0 → Reads (.dishStatus tag ds) s 0x04 tag (.ok (.dishes ((members ds).map (fun d =>
        let r := s.dish d
        { dish := d, state := r.state, supFault := r.supFault, flags := r.flags, good := r.good, miss := r.miss,
          sinceGood := r.lastGood.map (fun t => min 65535 (s.now - t)), last := r.last, reservation := r.reservation,
          claim := match r.claim with
            | none => none
            | some { ref := .host id, standing := st, .. } => some (.host id d st)
            | some { ref := .wave z, standing := st, .. } => some (.wave z st)
            | some { ref := .task, standing := st, .. } => r.task.map (fun k => .task k st),
          timer := r.timer.map (fun t => (t.kind, (t.due - s.now + 99) / 100)),
          governing := (List.range s.lkt.entries.length).find? (fun i =>
            ((s.entry i).state == .active || (s.entry i).state == .releasing) && inSet (s.entry i).scope d) })))))

/-- R26: DISH_ACK_CHANGES clears in every dish of the set each flag of the flag set, keeps every other flag, and lists dishes whose flags
are still set, in dish order, with their flags. That the list takes in every such dish of the array, also outside the request's set, is the
model's reading where R26 leaves the list's scope open, and so is that a flag set with an undefined bit is refused: log entry 7, DEDUCED. -/
def DishAckChangesClearsTheNamedFlags : Prop :=
  ∀ (s : State) (tag : Nat) (ds : DishSet) (m : Mask), Shape s → Ready s (.dishAckChanges tag ds m) →
    let left (d : Nat) : ChangeFlags :=
      let x := (s.dish d).flags
      if inSet ds d then
        { presence := x.presence && !m.getLsbD 0, owner := x.owner && !m.getLsbD 1, fault := x.fault && !m.getLsbD 2,
          key := x.key && !m.getLsbD 3, surface := x.surface && !m.getLsbD 4 }
      else x
    (32 ≤ m.toNat → Reads (.dishAckChanges tag ds m) s 0x07 tag (.refused .outOfRange))
    ∧ (m.toNat < 32 → Answers (.dishAckChanges tag ds m) s 0x07 tag
        (.ok (.flags ((allDishes.filter (fun d => left d != {})).map (fun d => (d, left d))))) [.dsv] (fun t =>
          (∀ d, t.dish d = { s.dish d with flags := left d }) ∧ SameDishesBut (members ds) s t ∧ t.oli.notices = s.oli.notices))

end Sys2Proof.Claims

/-- R26, R27: DISH_STATUS and DISH_ACK_CHANGES. (That the reply of DISH_ACK_CHANGES lists the flagged dishes of the whole array, and that a
flag set with an undefined bit is refused, are the model's reading, by log entry 7: DEDUCED. A remaining time of DISH_STATUS is rounded up:
log entry 13.) -/
def Obligations.DishStatusAndAckChanges : Prop :=
  DishStatusReportsEachDishInOrder ∧ DishAckChangesClearsTheNamedFlags

namespace Sys2Proof.Claims

/-- Some ACTIVE or RELEASING entry with the mark covers the dish (R165). -/
def covered (s : State) (mark : Entry → Bool) (d : Nat) : Bool :=
  s.lkt.entries.any (fun e => (e.state == .active || e.state == .releasing) && mark e && inSet e.scope d)

/-- The record after its members took new states at `now` (R113): COMPLETE, with its deadline timer cancelled, once none is open. That a
closed member keeps its running and ice-held marks is the model's choice, log entry 35. -/
def RecordAfter (r r' : SlewRecord) (now : Nat) (f : HostMember → MemberState) : Prop :=
  let ms := r.members.map (fun m => { m with state := f m })
  if ms.any (fun m => m.state == .waiting || m.state == .admitted) then r' = { r with members := ms }
  else r' = { r with members := ms, complete := true, completed := some now, deadlineDue := none }

/-- The wave of zone `z` after its members became `ms` (R82): with a member open it goes on; with none it closes, its list becomes the last
outcome, a ZONE notice is pending, and a zone with causes is STOWED. -/
def WaveAfter (s t : State) (z : Nat) (w : Wave) (ms : List WaveMember) : Prop :=
  let x := s.zone z
  if ms.any (fun m => m.state == .waiting || m.state == .preemptWait || m.state == .admitted) then
    t.zone z = { x with wave := some { w with members := ms } }
  else t.zone z = { x with wave := none, lastOutcome := some ms, state := if x.causes = {} then x.state else .stowed }
    ∧ .zone z ∈ t.oli.notices

/-- Whether a stop order on a dish is acted on (R20): SLEWING or HOMING, or READY or UNREFERENCED with an admitted claim. -/
def StopActs (r : Dish) : Prop :=
  r.state = .slewing ∨ r.state = .homing
    ∨ ((r.state = .ready ∨ r.state = .unreferenced) ∧ r.claim.map (·.standing) = some .admitted)

end Sys2Proof.Claims

/-- R20, R22: DISH_STOP orders each dish of the set to stop and lists each with its result. A dish that the order acts on enters
STOPPING with its claim closed, the stop timer armed for 30 s, its reservation kept, its MOVE or HOME removed and a STOP ordered; every
other dish keeps its record and its command slots. -/
def Obligations.DishStopStopsTheMovingDishesOfTheSet : Prop :=
  ∀ (s : State) (tag : Nat) (ds : DishSet), Shape s → Ready s (.dishStop tag ds) →
    (ds = 0 → Reads (.dishStop tag ds) s 0x05 tag (.refused .emptySet))
    ∧ (ds ≠ 0 → ∃ l : List (Nat × StopResult), l.map (·.1) = members ds
      ∧ (∀ d r, (d, r) ∈ l → (r = .alreadyStopping ↔ (s.dish d).state = .stopping) ∧ (r = .stopOrdered ↔ StopActs (s.dish d)))
      ∧ Answers (.dishStop tag ds) s 0x05 tag (.ok (.stops l)) [.dsv, .pbc, .znc, .sls, .fbu, .act] (fun t =>
          t.fbu.feeders = s.fbu.feeders ∧ SameDishesBut (members ds) s t
          ∧ t.pbc = { s.pbc with slots := t.pbc.slots } ∧ (∀ d, inSet ds d = false → t.slots d = s.slots d)
          ∧ ∀ d, inSet ds d = true →
            (StopActs (s.dish d) →
              t.dish d = { s.dish d with
                state := .stopping, timer := some { kind := .stop, due := s.now + 30000 }, claim := none,
                task := if (s.dish d).claim = none then (s.dish d).task else none,
                slewTimeout := if (s.dish d).claim = none then (s.dish d).slewTimeout else none,
                acceptedSeq := if (s.dish d).claim = none then (s.dish d).acceptedSeq else none }
              ∧ (t.slots d).movePending = none ∧ ((t.slots d).stopPending.isSome = true ∨ (t.slots d).stopFlight.isSome = true)
              ∧ (t.slots d).heatPending = (s.slots d).heatPending)
            ∧ (¬ StopActs (s.dish d) → t.dish d = s.dish d ∧ t.slots d = s.slots d)))

/-- R13: DISH_REHOME names one of the dishes 1..48, is refused with STATE for a dish not FAULTED, with FAULT_PRESENT while the last
status carries a drive fault code, and with BUSY while a reservation is held; otherwise the supervisor fault becomes NONE and the dish
enters SETTLING with good count 0. -/
def Obligations.DishRehomeSettlesAFaultedDish : Prop :=
  ∀ (s : State) (tag d : Nat), Shape s → Ready s (.dishRehome tag d) →
    let r := s.dish d
    let refused (why : Reason) : Prop := Reads (.dishRehome tag d) s 0x06 tag (.refused why)
    let known : Prop := 1 ≤ d ∧ d ≤ 48
    let coded : Prop := ∃ st, r.last = some st ∧ st.fault ≠ 0
    (¬ known → refused .outOfRange) ∧ (known → r.state ≠ .faulted → refused .state)
    ∧ (known → r.state = .faulted → coded → refused .faultPresent)
    ∧ (known → r.state = .faulted → ¬ coded → r.reservation.isSome = true → refused .busy)
    ∧ (known → r.state = .faulted → ¬ coded → r.reservation = none →
        Answers (.dishRehome tag d) s 0x06 tag (.ok .accepted) [.dsv] (fun t =>
          t.dish d = { r with supFault := .clear, state := .settling, good := 0 } ∧ SameDishesBut [d] s t
          ∧ t.oli.notices = s.oli.notices))

namespace Sys2Proof.Claims

/-- A carried profile or supervision field lies outside its range in Table 3 or 4. -/
def OutsideRange (p : ProfileEdit) (v : SupervisionEdit) : ClampField → Prop
  | .bSlew => ∃ x, p.bSlew = some x ∧ 30000 < x
  | .bHome => ∃ x, p.bHome = some x ∧ 30000 < x
  | .c => ∃ x, p.c = some x ∧ 255 < x
  | .dmax => ∃ x, p.dmax = some x ∧ (x < 1000 ∨ 60000 < x)
  | .h => ∃ x, p.h = some x ∧ 6000 < x
  | .vmaxAz => ∃ x, p.vmaxAz = some x ∧ (x < 1 ∨ 10000 < x)
  | .vmaxEl => ∃ x, p.vmaxEl = some x ∧ (x < 1 ∨ 10000 < x)
  | .aAz => ∃ x, p.aAz = some x ∧ (x < 1 ∨ 5000 < x)
  | .aEl => ∃ x, p.aEl = some x ∧ (x < 1 ∨ 5000 < x)
  | .shedEl => ∃ x, p.shedEl = some x ∧ (x < 5000 ∨ 90000 < x)
  | .nSettle => ∃ x, v.nSettle = some x ∧ (x < 2 ∨ 50 < x)
  | .nMiss => ∃ x, v.nMiss = some x ∧ (x < 2 ∨ 16 < x)
  | .homeTimeout => ∃ x, v.homeTimeout = some x ∧ (x < 30 ∨ 600 < x)
  | .replyWindow => ∃ x, v.replyWindow = some x ∧ (x < 1 ∨ 20 < x)

/-- A written field: the carried value brought to the nearest end of its range, or the value that stands. -/
def written (lo hi : Nat) (carried : Option Nat) (old : Nat) : Nat :=
  match carried with
  | none => old
  | some x => max lo (min hi x)

end Sys2Proof.Claims

/-- R1, R2: DISH_SET_PROFILE writes every carried field, clamped to its range, to every dish of the set and the carried supervision
settings to the array, and lists the clamped fields; other dishes keep their profiles, and no dish changes its state, its assignment,
its last status or its reservation. A write of B_slew, B_home, C, Dmax or H makes a pass due. With an empty dish set the request is refused
with EMPTY_SET where it carries a profile field (R1) and accepted where it carries supervision settings only (R2); that a request on an
empty set that carries neither is refused with EMPTY_SET too is the model's reading, by log entry 18: DEDUCED. -/
def Obligations.DishSetProfileWritesClampedFields : Prop :=
  ∀ (s : State) (tag : Nat) (ds : DishSet) (p : ProfileEdit) (v : SupervisionEdit), Shape s → Ready s (.dishSetProfile tag ds p v) →
    (ds = 0 → (p ≠ {} ∨ v = {}) → Reads (.dishSetProfile tag ds p v) s 0x08 tag (.refused .emptySet))
    ∧ (ds ≠ 0 ∨ (p = {} ∧ v ≠ {}) → ∃ l : List ClampField, (∀ x, x ∈ l ↔ OutsideRange p v x)
      ∧ Answers (.dishSetProfile tag ds p v) s 0x08 tag (.ok (.clamped l)) [.dsv, .pbc, .znc, .sls, .fbu, .mlc, .act] (fun t =>
          t.dsv.nSettle = written 2 50 v.nSettle s.dsv.nSettle ∧ t.dsv.nMiss = written 2 16 v.nMiss s.dsv.nMiss
          ∧ t.dsv.homeTimeout = written 30 600 v.homeTimeout s.dsv.homeTimeout
          ∧ t.pbc.replyWindow = written 1 20 v.replyWindow s.pbc.replyWindow
          ∧ (ds ≠ 0 → (p.bSlew.isSome = true ∨ p.bHome.isSome = true ∨ p.c.isSome = true ∨ p.dmax.isSome = true ∨ p.h.isSome = true) →
              t.fbu.passDue = true)
          ∧ (∀ d, (t.dish d).state = (s.dish d).state ∧ (t.dish d).feeder = (s.dish d).feeder ∧ (t.dish d).zone = (s.dish d).zone
              ∧ (t.dish d).last = (s.dish d).last ∧ (t.dish d).reservation = (s.dish d).reservation)
          ∧ (∀ d, inSet ds d = false → t.dish d = s.dish d)
          ∧ (∀ d, inSet ds d = true → ∃ x, (s.dish d).profile = x ∧ (t.dish d).profile =
              { bSlew := written 0 30000 p.bSlew x.bSlew, bHome := written 0 30000 p.bHome x.bHome, c := written 0 255 p.c x.c,
                dmax := written 1000 60000 p.dmax x.dmax, h := written 0 6000 p.h x.h, vmaxAz := written 1 10000 p.vmaxAz x.vmaxAz,
                vmaxEl := written 1 10000 p.vmaxEl x.vmaxEl, aAz := written 1 5000 p.aAz x.aAz, aEl := written 1 5000 p.aEl x.aEl,
                shedEl := match p.shedEl with | none => x.shedEl | some e => max 5000 (min 90000 e),
                shedEnable := p.shedEnable.getD x.shedEnable, heatEnable := p.heatEnable.getD x.heatEnable })))

/-- R3: DISH_ASSIGN is refused for an empty set, for a feeder or zone outside its range, and with BUSY where any dish of the set holds a
reservation or an open claim, in this order (log entry 7), no dish then being changed; otherwise every dish of the set takes the carried feeder and zone and a pass
is due. A dish outside the set keeps its record. -/
def Obligations.DishAssignMovesTheWholeSetOrNone : Prop :=
  ∀ (s : State) (tag : Nat) (ds : DishSet) (f z : Option Nat), Shape s → Ready s (.dishAssign tag ds f z) →
    let refused (why : Reason) : Prop := Reads (.dishAssign tag ds f z) s 0x09 tag (.refused why)
    let fits : Prop := (∀ b, f = some b → b ≤ 3) ∧ (∀ n, z = some n → 1 ≤ n ∧ n ≤ 8)
    let busy : Prop := ∃ d, inSet ds d = true ∧ ((s.dish d).reservation.isSome = true ∨ (s.dish d).claim.isSome = true)
    (ds = 0 → refused .emptySet) ∧ (ds ≠ 0 → ¬ fits → refused .outOfRange) ∧ (ds ≠ 0 → fits → busy → refused .busy)
    ∧ (ds ≠ 0 → fits → ¬ busy →
        Answers (.dishAssign tag ds f z) s 0x09 tag (.ok .accepted) [.dsv, .fbu, .act] (fun t =>
          t.fbu.passDue = true ∧ (∀ d, inSet ds d = false → t.dish d = s.dish d)
          ∧ (∀ d, inSet ds d = true → (∀ b, f = some b → (t.dish d).feeder.code = b) ∧ (f = none → (t.dish d).feeder = (s.dish d).feeder)
              ∧ (t.dish d).zone = z.getD (s.dish d).zone ∧ (t.dish d).state = (s.dish d).state
              ∧ (t.dish d).profile = (s.dish d).profile ∧ (t.dish d).reservation = none)))

/-- R15, R19, R21: the three supervision timers. The slew timer stops a SLEWING dish with supervisor fault SLEW_TIMEOUT and the stop
timer armed for 30 s; the home timer makes a HOMING dish FAULTED with HOME_TIMEOUT; the stop timer makes a STOPPING dish FAULTED with
STOP_TIMEOUT. In all three the reservation is kept; the claim is closed by the first two, which also order a STOP. Each entry to FAULTED is
handed to ACT with its fault. -/
def Obligations.SupervisionTimersEndTheMotion : Prop :=
  ∀ (s : State) (d due : Nat), Shape s → Running s → 1 ≤ d → d ≤ 48 →
    let now := max s.now due
    let blocks : List Block := [.dsv, .pbc, .znc, .sls, .fbu, .act]
    let kept (t : State) : Prop := (t.dish d).reservation = (s.dish d).reservation ∧ SameAssignment d s t ∧ SameDishesBut [d] s t
      ∧ t.fbu.feeders = s.fbu.feeders ∧ (∀ e, e ≠ d → t.slots e = s.slots e) ∧ KeepsLink s t
    let stopOrdered (t : State) : Prop := (t.slots d).movePending = none
      ∧ ((t.slots d).stopPending.isSome = true ∨ (t.slots d).stopFlight.isSome = true)
    ((s.dish d).state = .slewing → (s.dish d).timer = some { kind := .slew, due := due } →
      Happens (.slewTimerExpiry d) s now blocks (fun t =>
        (t.dish d).state = .stopping ∧ (t.dish d).supFault = .slewTimeout
        ∧ (t.dish d).timer = some { kind := .stop, due := now + 30000 } ∧ (t.dish d).claim = none ∧ stopOrdered t ∧ kept t
        ∧ CountsOf s t .dishFault []))
    ∧ ((s.dish d).state = .homing → (s.dish d).timer = some { kind := .home, due := due } →
      Happens (.homeTimerExpiry d) s now blocks (fun t =>
        (t.dish d).state = .faulted ∧ (t.dish d).supFault = .homeTimeout ∧ (t.dish d).timer = none ∧ (t.dish d).claim = none
        ∧ (t.dish d).flags.fault = true ∧ stopOrdered t ∧ kept t ∧ CountsOf s t .dishFault [some 2]))
    ∧ ((s.dish d).state = .stopping → (s.dish d).timer = some { kind := .stop, due := due } →
      Happens (.stopTimerExpiry d) s now blocks (fun t =>
        (t.dish d).state = .faulted ∧ (t.dish d).supFault = .stopTimeout ∧ (t.dish d).timer = none
        ∧ (t.dish d).flags.fault = true ∧ (t.slots d).stopPending = (s.slots d).stopPending ∧ kept t ∧ CountsOf s t .dishFault [some 3]))

/-! ## The Pedestal link -/

namespace Sys2Proof.Claims

/-- Dish `d` holds the oldest pending command of one kind, the lowest dish where ages are equal (R38). -/
def HoldsOldest (s : State) (age : Slots → Option Nat) (d : Nat) : Prop :=
  1 ≤ d ∧ d ≤ 48 ∧ ∃ a, age (s.slots d) = some a
    ∧ ∀ e b, 1 ≤ e → e ≤ 48 → age (s.slots e) = some b → a < b ∨ (a = b ∧ d ≤ e)

/-- No dish has a pending command of one kind. -/
def NonePending (s : State) (age : Slots → Option Nat) : Prop := ∀ e, 1 ≤ e → e ≤ 48 → age (s.slots e) = none

/-- The transaction that starts at `s` is in flight in `t`, with PL_DE asserted (R29). Its frame ends 11 µs a character after the present
moment and its window closes the reply window in force after that (R31), in whole milliseconds: log entry 4. -/
def InFlight (s t : State) (k : TxKind) (station : Nat) (frame : List PlChar) : Prop :=
  let ends := s.now + (11 * frame.length + 999) / 1000
  t.pbc.flight = some { kind := k, station := station, frameEnd := ends, windowDue := ends + s.pbc.replyWindow, frame := frame }
    ∧ t.plDe = true

/-- R38, R39, R43, R44, R45: a transaction starts while none is in flight. It is the first of: the ALL_STOP burst of three copies, the
HEAT_ALL_OFF broadcast, and, with the command count below 8, the oldest STOP, the oldest MOVE or HOME, the oldest HEAT. The command
goes from pending into flight; a MOVE carries the dish's sequence plus 1 modulo 16, which becomes the dish's; other dishes keep their
slots. A command kept after a miss adds 1 to the retries and is handed to ACT as one (R46). -/
def TransactionStartTakesTheFirstPendingLine : Prop :=
  ∀ s : State, Shape s → Running s → s.pbc.flight = none →
    let starts (p : State → Prop) : Prop := Happens .plTransactionStart s s.now [.pbc, .act] (fun t => KeepsLink s t ∧ p t)
    let stop (sl : Slots) : Option Nat := sl.stopPending.map (·.age)
    let move (sl : Slots) : Option Nat := sl.movePending.map (·.age)
    let heat (sl : Slots) : Option Nat := sl.heatPending.map (·.age)
    let only (d : Nat) (retry : Bool) (t : State) : Prop := t.pbc.commandCount = s.pbc.commandCount ∧ (∀ e, e ≠ d → t.slots e = s.slots e)
      ∧ t.pbc.totals = { s.pbc.totals with
          retries := if retry then min 4294967295 (s.pbc.totals.retries + 1) else s.pbc.totals.retries }
      ∧ CountsOnly s t .commandRetry (if retry then [none] else [])
    (s.pbc.allStop = true → starts (fun t =>
      InFlight s t .allStop 127 (plFrame 127 6 [] ++ plFrame 127 6 [] ++ plFrame 127 6 []) ∧ t.pbc.allStop = false
      ∧ t.pbc.slots = s.pbc.slots ∧ t.pbc.heatAllOff = s.pbc.heatAllOff))
    ∧ (s.pbc.allStop = false → s.pbc.heatAllOff = true → starts (fun t =>
      InFlight s t .heatAllOff 127 (plFrame 127 7 []) ∧ t.pbc.heatAllOff = false ∧ t.pbc.slots = s.pbc.slots))
    ∧ (s.pbc.allStop = false → s.pbc.heatAllOff = false → s.pbc.commandCount < 8 →
      (∀ d p, HoldsOldest s stop d → (s.slots d).stopPending = some p → starts (fun t =>
        InFlight s t .stop d (plFrame d 4 []) ∧ only d p.retry t
        ∧ t.slots d = { s.slots d with stopPending := none, stopFlight := some false }))
      ∧ (NonePending s stop → ∀ d p, HoldsOldest s move d → (s.slots d).movePending = some p → p.cmd = .home → starts (fun t =>
        InFlight s t .home d (plFrame d 3 []) ∧ only d (decide (0 < p.attempts)) t ∧ t.slots d = { s.slots d with
          movePending := none, moveFlight := some { cmd := .home, attempts := p.attempts + 1, withdrawn := false } }))
      ∧ (NonePending s stop → ∀ d p az el rAz rEl aAz aEl, HoldsOldest s move d → (s.slots d).movePending = some p →
        p.cmd = .move az el rAz rEl aAz aEl →
        let seq := ((s.slots d).seq + 1) % 16
        starts (fun t =>
          InFlight s t (.move seq) d (plFrame d 2 (le 1 seq ++ leInt 4 az ++ leInt 4 el ++ le 2 rAz ++ le 2 rEl ++ le 2 aAz ++ le 2 aEl))
          ∧ only d (decide (0 < p.attempts)) t ∧ t.slots d = { s.slots d with
            movePending := none, moveFlight := some { cmd := p.cmd, attempts := p.attempts + 1, withdrawn := false }, seq := seq }))
      ∧ (NonePending s stop → NonePending s move → ∀ d p, HoldsOldest s heat d → (s.slots d).heatPending = some p → starts (fun t =>
        InFlight s t (.heat p.stage) d (plFrame d 5 (le 1 p.stage)) ∧ only d p.retry t ∧ t.slots d = { s.slots d with
          heatPending := none, heatFlight := some { stage := p.stage, withdrawn := false } })))

/-- Dish `d` is the first from `from` on that is unmarked and either not ABSENT or the candidate. -/
def FirstToPoll (s : State) (start : Nat) (candidate : Option Nat) (marked : Nat → Bool) (d : Nat) : Prop :=
  let due (e : Nat) : Prop := marked e = false ∧ ((s.dish e).state ≠ .absent ∨ candidate = some e)
  start ≤ d ∧ 1 ≤ d ∧ d ≤ 48 ∧ due d ∧ ∀ e, start ≤ e → 1 ≤ e → e < d → ¬ due e

/-- Dish `c` is the first ABSENT dish at or after the absent pointer, counting on from 48 to 1. -/
def FirstAbsent (s : State) (c : Nat) : Prop :=
  ∃ i, i < 48 ∧ c = (s.pbc.absentPtr - 1 + i) % 48 + 1 ∧ (s.dish c).state = .absent
    ∧ ∀ j, j < i → (s.dish ((s.pbc.absentPtr - 1 + j) % 48 + 1)).state ≠ .absent

end Sys2Proof.Claims

/-- R38, R39, R40 (and log entry 4 for when its frame and its window end): where a POLL is chosen (no broadcast pending, and either the command count is 8 or no command is pending), the poll
pointer walks to the first unmarked dish that is not ABSENT or is the candidate; with none left a new round clears the marks, takes the
first ABSENT dish from the absent pointer on as its candidate, moves that pointer past it, and walks from dish 1. -/
def Obligations.PollsFollowRounds : Prop :=
  ∀ s : State, Shape s → Running s → s.pbc.flight = none → s.pbc.allStop = false → s.pbc.heatAllOff = false →
    (s.pbc.commandCount = 8
      ∨ (∀ e, 1 ≤ e → e ≤ 48 →
          (s.slots e).stopPending = none ∧ (s.slots e).movePending = none ∧ (s.slots e).heatPending = none)) →
    let polls (d : Nat) (p : State → Prop) : Prop := Happens .plTransactionStart s s.now [.pbc] (fun t =>
      KeepsLink s t ∧ InFlight s t .poll d (plFrame d 1 []) ∧ t.pbc.pollPtr = d + 1 ∧ t.pbc.commandCount = s.pbc.commandCount ∧ p t)
    let marked (e : Nat) : Bool := (s.slots e).polled
    (∀ d, FirstToPoll s s.pbc.pollPtr s.pbc.candidate marked d → polls d (fun t =>
      t.pbc.slots = s.pbc.slots ∧ t.pbc.candidate = s.pbc.candidate ∧ t.pbc.absentPtr = s.pbc.absentPtr))
    ∧ ((∀ d, ¬ FirstToPoll s s.pbc.pollPtr s.pbc.candidate marked d) →
      (∀ c d, FirstAbsent s c → FirstToPoll s 1 (some c) (fun _ => false) d → polls d (fun t =>
        (∀ e, t.slots e = { s.slots e with polled := false }) ∧ t.pbc.candidate = some c
        ∧ t.pbc.absentPtr = (if c = 48 then 1 else c + 1)))
      ∧ ((∀ e, 1 ≤ e → e ≤ 48 → (s.dish e).state ≠ .absent) → polls 1 (fun t =>
        (∀ e, t.slots e = { s.slots e with polled := false }) ∧ t.pbc.candidate = none ∧ t.pbc.absentPtr = s.pbc.absentPtr)))

namespace Sys2Proof.Claims

/-- R31, R39, R46: a broadcast ends with its frame; that frees the bus and counts one transaction, and touches no slot and not the
command count. -/
def BroadcastEndFreesTheBus : Prop :=
  ∀ (s : State) (x : Transaction), Running s → s.pbc.flight = some x → (x.kind = .allStop ∨ x.kind = .heatAllOff) →
    Happens .plBroadcastEnd s (max s.now x.frameEnd) [.pbc] (fun t => KeepsLink s t ∧ t.oli.notices = s.oli.notices ∧ t.plDe = false
      ∧ t.pbc = { s.pbc with flight := none,
                             totals := { s.pbc.totals with transactions := min 4294967295 (s.pbc.totals.transactions + 1) } })

/-- R29: PL_DE is asserted until the frame in flight has ended and is released from then on, also while its reply is awaited; with nothing
in flight it is released. The clock passes the frame's end in a step on an empty queue: log entries 4 and 16. -/
def DriverIsReleasedAtTheEndOfTheFrame : Prop :=
  ∀ s : State, s.pending = [] → s.powered = true → ∃ t, step s = .next t ∧ t.pbc = s.pbc
    ∧ (∀ x, s.pbc.flight = some x → (t.plDe = true ↔ s.now + 1 < x.frameEnd)) ∧ (s.pbc.flight = none → t.plDe = false)

end Sys2Proof.Claims

/-- R29, R31, R38, R39, R42 to R46: the start of a transaction by Table 13, the end of a broadcast, and PL_DE. (When a frame and its window
end, in whole milliseconds, and the window that a broadcast is given and never uses: log entry 4.) -/
def Obligations.TransactionsStartByPriorityAndBroadcastsEnd : Prop :=
  TransactionStartTakesTheFirstPendingLine ∧ BroadcastEndFreesTheBus ∧ DriverIsReleasedAtTheEndOfTheFrame

namespace Sys2Proof.Claims

/-- A frame of kind `k` to dish `d` is in flight and its reply window has not closed; a reply comes at `now`, not before the frame has
ended (R31, log entry 4). -/
def Addressed (s : State) (k : TxKind) (d now : Nat) : Prop :=
  1 ≤ d ∧ d ≤ 48 ∧ k ≠ .allStop ∧ k ≠ .heatAllOff
    ∧ ∃ e w f, s.pbc.flight = some { kind := k, station := d, frameEnd := e, windowDue := w, frame := f } ∧ s.now ≤ w ∧ now = max s.now e

/-- The characters are the STATUS frame of dish `d` with this status and command result. -/
def IsStatus (chars : List PlChar) (d : Nat) (st : Status) (r : CommandResult) : Prop :=
  ∃ body : List Byte, body.length = 17 ∧ chars = plFrame d 0x10 body ∧ readStatus body = some (st, r)

/-- The command result fits the frame (check 6 of Table 11). -/
def ResultFits : TxKind → Status → CommandResult → Prop
  | .move seq, st, r => r = .refused ∨ (r = .accepted ∧ st.echo = seq)
  | .home, _, r => r ≠ .none
  | _, _, r => r = .none

/-- A status or result outside the ranges of check 5 (Table 11; the ranges of Table 1 by log entry 8). -/
def StatusInRange (st : Status) : Prop :=
  -270000 ≤ st.az ∧ st.az ≤ 270000 ∧ 5000 ≤ st.el ∧ st.el ≤ 90000 ∧ st.echo ≤ 15 ∧ st.fault ≤ 255 ∧ -400 ≤ st.temp ∧ st.temp ≤ 600
    ∧ st.applied ≤ 4

end Sys2Proof.Claims

/-- R32 and the STATUS layout: a body laid out with any status in range and any command result is read back as that status and that
result, every field. -/
def Obligations.StatusBodyReadsBackEveryField : Prop :=
  ∀ (st : Status) (r : CommandResult), StatusInRange st →
    let flag (b : Bool) (n : Nat) : Nat := if b then n else 0
    let body := leInt 4 st.az ++ leInt 4 st.el
      ++ le 1 (flag st.moving 1 + flag st.inPosition 2 + flag st.referenced 4 + (match st.owner with | .remote => 0 | .handset => 8))
      ++ le 1 st.echo ++ le 1 (match st.key with | .clear => 0 | .driveOff => 1 | .allOff => 2) ++ le 1 st.fault ++ leInt 2 st.temp
      ++ le 1 (match st.surface with | .dry => 0 | .wet => 1 | .ice => 2 | .sensorFail => 3) ++ le 1 st.applied
      ++ le 1 (match r with | .none => 0 | .accepted => 1 | .refused => 2)
    body.length = 17 ∧ readStatus body = some (st, r)

/-- R5, R31, R33, R39, R40, R46: a valid reply that comes while the window is open ends its transaction: the last status is replaced, the
last good time is the present, the miss count is 0, the dish is marked as polled, the command count follows the frame kind, and one
transaction is counted. No other dish's record changes. -/
def Obligations.ValidReplyReplacesTheLastStatus : Prop :=
  ∀ (s : State) (d now : Nat) (k : TxKind) (chars : List PlChar) (st : Status) (r : CommandResult),
    Shape s → Running s → Addressed s k d now → IsStatus chars d st r → ResultFits k st r →
    Happens (.plReplyReceived chars) s now [.dsv, .pbc, .znc, .sls, .fbu, .mlc, .act] (fun t =>
      (t.dish d).last = some st ∧ (t.dish d).lastGood = some now ∧ (t.dish d).miss = 0
      ∧ (t.dish d).profile = (s.dish d).profile ∧ (t.dish d).feeder = (s.dish d).feeder ∧ (t.dish d).zone = (s.dish d).zone
      ∧ SameDishesBut [d] s t ∧ (t.slots d).polled = true ∧ t.pbc.flight = none ∧ t.plDe = false
      ∧ t.pbc.commandCount = (if k = .poll then 0 else min 8 (s.pbc.commandCount + 1))
      ∧ t.pbc.totals = { s.pbc.totals with transactions := min 4294967295 (s.pbc.totals.transactions + 1) } ∧ KeepsLink s t)

namespace Sys2Proof.Claims

/-- A 17-byte STATUS body with a field outside its range (check 5 of Table 11; the ranges of the angles and the temperature by log entry 8). -/
def BadBody (body : List Byte) : Prop :=
  ∃ (az el temp : Int) (flags echo key fault surface applied result : Nat),
    body = leInt 4 az ++ leInt 4 el ++ le 1 flags ++ le 1 echo ++ le 1 key ++ le 1 fault ++ leInt 2 temp ++ le 1 surface ++ le 1 applied
      ++ le 1 result
    ∧ -2147483648 ≤ az ∧ az ≤ 2147483647 ∧ -2147483648 ≤ el ∧ el ≤ 2147483647 ∧ -32768 ≤ temp ∧ temp ≤ 32767
    ∧ flags ≤ 255 ∧ echo ≤ 255 ∧ key ≤ 255 ∧ fault ≤ 255 ∧ surface ≤ 255 ∧ applied ≤ 255 ∧ result ≤ 255
    ∧ (az < -270000 ∨ 270000 < az ∨ el < 5000 ∨ 90000 < el ∨ temp < -400 ∨ 600 < temp
      ∨ 15 < flags ∨ 15 < echo ∨ 2 < key ∨ 3 < surface ∨ 4 < applied ∨ 2 < result)

/-- The ways in which a transaction whose frame ends at `e` and whose window closes at `w` ends in a miss (R31, and the six checks of R32): the
command, the time after it, and the kind of miss. The characters of a reply count only while the window is open. -/
inductive Misses (s : State) (d e w : Nat) (k : TxKind) : Instr → Nat → MissKind → Prop
  | window : Misses s d e w k .plReplyWindowExpiry (max s.now w) .noReply
  | unmarkedGap (x : PlChar) (l : List PlChar) : s.now ≤ w → l.length < 20 → x.mark = false →
      Misses s d e w k (.plReplyGap (x :: l)) (max s.now e) .check
  | strangerGap (x : PlChar) (l : List PlChar) : s.now ≤ w → l.length < 20 → x.mark = true → x.byte.toNat ≠ d →
      Misses s d e w k (.plReplyGap (x :: l)) (max s.now e) .stray
  | cutShort (x : PlChar) (l : List PlChar) : s.now ≤ w → l.length < 20 → x.mark = true → x.byte.toNat = d →
      Misses s d e w k (.plReplyGap (x :: l)) (max s.now e) .check
  | unmarked (x : PlChar) (l : List PlChar) : s.now ≤ w → l.length = 20 → x.mark = false →
      Misses s d e w k (.plReplyReceived (x :: l)) (max s.now e) .check
  | stranger (x : PlChar) (l : List PlChar) : s.now ≤ w → l.length = 20 → x.mark = true → x.byte.toNat ≠ d →
      Misses s d e w k (.plReplyReceived (x :: l)) (max s.now e) .stray
  | notStatus (x y : PlChar) (l : List PlChar) : s.now ≤ w → l.length = 19 → x.mark = true → x.byte.toNat = d → y.byte ≠ 0x10 →
      Misses s d e w k (.plReplyReceived (x :: y :: l)) (max s.now e) .check
  | wrongCrc (x y lo hi : PlChar) (l : List PlChar) : s.now ≤ w → l.length = 17 → x.mark = true → x.byte.toNat = d → y.byte = 0x10 →
      crc16 ((y :: l).map (·.byte)) ≠ hi.byte ++ lo.byte →
      Misses s d e w k (.plReplyReceived (x :: y :: (l ++ [lo, hi]))) (max s.now e) .check
  | badField (body : List Byte) : s.now ≤ w → BadBody body → Misses s d e w k (.plReplyReceived (plFrame d 0x10 body)) (max s.now e) .check
  | misfit (chars : List PlChar) (st : Status) (r : CommandResult) : s.now ≤ w → IsStatus chars d st r → ¬ ResultFits k st r →
      Misses s d e w k (.plReplyReceived chars) (max s.now e) .check

end Sys2Proof.Claims

/-- R5, R31, R32, R33, R39, R46: a transaction that ends by window expiry, by a gap or in a reply that fails one of the six checks of
Table 11 (log entry 8 for the ranges of check 5) is a miss of its kind: the total of its kind and the transactions are counted, the dish's miss count rises, its good count falls to 0 in SETTLING, and
its last status stays; below N_miss, or ABSENT already, it keeps its state. The miss is handed to ACT with its kind. -/
def Obligations.MissIsCountedByItsKind : Prop :=
  ∀ (s : State) (d e w : Nat) (k : TxKind) (f : List PlChar) (c : Instr) (now : Nat) (m : MissKind),
    Shape s → Running s → 1 ≤ d → d ≤ 48 → k ≠ .allStop → k ≠ .heatAllOff →
    s.pbc.flight = some { kind := k, station := d, frameEnd := e, windowDue := w, frame := f } → Misses s d e w k c now m →
    let oneMore (b : Bool) (x : Nat) : Nat := if b then min 4294967295 (x + 1) else x
    Happens c s now [.dsv, .pbc, .znc, .sls, .fbu, .mlc, .act] (fun t =>
      (t.dish d).last = (s.dish d).last ∧ (t.dish d).lastGood = (s.dish d).lastGood
      ∧ (t.dish d).miss = min 65535 ((s.dish d).miss + 1) ∧ ((s.dish d).state = .settling → (t.dish d).good = 0)
      ∧ ((s.dish d).state = .absent ∨ min 65535 ((s.dish d).miss + 1) < s.dsv.nMiss → (t.dish d).state = (s.dish d).state)
      ∧ SameDishesBut [d] s t ∧ t.pbc.flight = none ∧ t.plDe = false
      ∧ t.pbc.commandCount = (if k = .poll then 0 else min 8 (s.pbc.commandCount + 1))
      ∧ t.pbc.totals.transactions = min 4294967295 (s.pbc.totals.transactions + 1)
      ∧ t.pbc.totals.noReply = oneMore (m == .noReply) s.pbc.totals.noReply
      ∧ t.pbc.totals.check = oneMore (m == .check) s.pbc.totals.check
      ∧ t.pbc.totals.stray = oneMore (m == .stray) s.pbc.totals.stray ∧ t.pbc.totals.retries = s.pbc.totals.retries ∧ KeepsLink s t
      ∧ CountsOf s t .pedestalMiss [some (match m with | .noReply => 0 | .check => 1 | .stray => 2)])

namespace Sys2Proof.Claims

/-- R8: at the miss that brings the miss count to N_miss or above, at least 2 000 ms after the last good reply, a dish that is not ABSENT
becomes ABSENT: its reservation is released, its claim closed, its timer cancelled, its supervisor fault NONE, its command slots
cleared, its counted stage 0, and PRESENCE is set; its last status is kept. -/
def AbsenceClearsTheDish : Prop :=
  ∀ (s : State) (d e w : Nat) (k : TxKind) (f : List PlChar) (c : Instr) (now : Nat) (m : MissKind),
    Shape s → Running s → 1 ≤ d → d ≤ 48 → k ≠ .allStop → k ≠ .heatAllOff →
    s.pbc.flight = some { kind := k, station := d, frameEnd := e, windowDue := w, frame := f } → Misses s d e w k c now m →
    (s.dish d).state ≠ .absent → s.dsv.nMiss ≤ min 65535 ((s.dish d).miss + 1) →
    (∀ g, (s.dish d).lastGood = some g → 2000 ≤ now - g) →
    Happens c s now [.dsv, .pbc, .znc, .sls, .fbu, .mlc, .act] (fun t =>
      (t.dish d).state = .absent ∧ (t.dish d).reservation = none ∧ (t.dish d).claim = none ∧ (t.dish d).timer = none
      ∧ (t.dish d).supFault = .clear ∧ (t.dish d).last = (s.dish d).last ∧ (t.heater d).counted = 0 ∧ (t.heater d).granted = 0
      ∧ (t.slots d).movePending = none ∧ (t.slots d).stopPending = none ∧ (t.slots d).heatPending = none
      ∧ (t.dish d).flags = { (s.dish d).flags with presence := true })

/-- R41, R42: a command that meets a miss is kept: a MOVE or HOME sent fewer than 3 times, a STOP, and a HEAT with no newer stage
pending become pending again with the present moment as their age, and a newer pending HEAT stage stays in place of a missed one. The
dish is below N_miss. -/
def MissedCommandIsKeptForARetry : Prop :=
  ∀ (s : State) (d e w : Nat) (k : TxKind) (f : List PlChar) (c : Instr) (now : Nat) (m : MissKind),
    Shape s → Running s → 1 ≤ d → d ≤ 48 → s.pbc.flight = some { kind := k, station := d, frameEnd := e, windowDue := w, frame := f } →
    Misses s d e w k c now m → min 65535 ((s.dish d).miss + 1) < s.dsv.nMiss →
    let ends (p : State → Prop) : Prop := ∃ t, exec c s = .next t ∧ p t
    let age := s.moment + 1
    (∀ x, (k = .home ∨ ∃ q, k = .move q) → (s.slots d).moveFlight = some x → x.withdrawn = false → x.attempts < 3 → ends (fun t =>
      (t.slots d).movePending = some { cmd := x.cmd, attempts := x.attempts, age := age } ∧ (t.slots d).moveFlight = none
      ∧ (t.dish d).claim = (s.dish d).claim ∧ (t.dish d).reservation = (s.dish d).reservation))
    ∧ (k = .stop → (s.slots d).stopFlight = some false → ends (fun t =>
      (t.slots d).stopPending = some { age := age, retry := true } ∧ (t.slots d).stopFlight = none))
    ∧ (∀ g x, k = .heat g → (s.slots d).heatFlight = some x → x.withdrawn = false → ends (fun t =>
      (t.slots d).heatFlight = none ∧ (t.slots d).heatPending =
        (match (s.slots d).heatPending with | some p => some p | none => some { stage := x.stage, age := age, retry := true })))

/-- R14, R17, R41, R46: the miss of the third transmission of a MOVE or HOME that was not withdrawn exhausts it: the command is gone, the
exhaustion is counted, the reservation is released, and the dish keeps its state. An auto task waits again; a host or wave member closes
ABORTED(LINK). The dish is below N_miss. (Two choices of the model: a STOW task waits again also where its zone's cause set has become
empty, against note 2 of Table 31, log entry 34; and a closed host member keeps its running mark, log entry 35.) -/
def ExhaustionReturnsTheTaskOrAbortsTheMember : Prop :=
  ∀ (s : State) (d e w : Nat) (k : TxKind) (f : List PlChar) (c : Instr) (now : Nat) (m : MissKind) (x : MoveFlight) (cl : OpenClaim),
    Shape s → Running s → 1 ≤ d → d ≤ 48 → s.pbc.flight = some { kind := k, station := d, frameEnd := e, windowDue := w, frame := f } →
    Misses s d e w k c now m → min 65535 ((s.dish d).miss + 1) < s.dsv.nMiss → (k = .home ∨ ∃ q, k = .move q) →
    (s.slots d).moveFlight = some x → x.withdrawn = false → x.attempts = 3 → (s.dish d).state ≠ .absent →
    (s.dish d).claim = some cl → cl.standing = .admitted →
    ∃ t, exec c s = .next t ∧ (t.slots d).moveFlight = none ∧ (t.slots d).movePending = (s.slots d).movePending
      ∧ (t.dish d).state = (s.dish d).state ∧ (t.dish d).reservation = none
      ∧ t.pbc.totals.exhaustions = min 4294967295 (s.pbc.totals.exhaustions + 1)
      ∧ (cl.ref = .task → (t.dish d).claim = some { cl with standing := .waiting, running := false }
          ∧ (t.dish d).task = (s.dish d).task ∧ t.fbu.passDue = true)
      ∧ (cl.ref ≠ .task → (t.dish d).claim = none)
      ∧ (∀ id r, cl.ref = .host id → s.record id = some r → r.complete = false →
          (∀ y ∈ r.members, y.dish = d → y.state = .admitted) →
          ∃ r', t.record id = some r' ∧ (r'.complete = true → .slewDone id ∈ t.oli.notices)
            ∧ RecordAfter r r' now (fun y => if y.dish = d then .aborted .link else y.state))
      ∧ (∀ z v, cl.ref = .wave z → 1 ≤ z → z ≤ 8 → (s.zone z).wave = some v →
          WaveAfter s t z v (v.members.map (fun y => if y.dish = d then { y with state := .aborted .link } else y)))

end Sys2Proof.Claims

/-- R8, R14, R17, R41, R42: the miss that declares a dish ABSENT, the command that a miss leaves for a retry, and the one that it exhausts. That
an exhausted STOW task waits again although its zone's cause set has become empty (log entry 34), and that a closed host member keeps its
running mark (log entry 35), are the model's choices. -/
def Obligations.AbsenceClearsAndMissesAreRetriedOrExhausted : Prop :=
  AbsenceClearsTheDish ∧ MissedCommandIsKeptForARetry ∧ ExhaustionReturnsTheTaskOrAbortsTheMember

/-- R14, R17 (and log entry 9 where the reply also shows the reference lost or gained): the reply to a MOVE or HOME of an admitted claim
that was not withdrawn. ACCEPTED starts the motion: SLEWING with the
sequence recorded, the claim running and the slew timer armed with the claim's slew timeout; HOMING with the home timer armed with the
home timeout. REFUSED ends it: FAULTED with supervisor fault DRIVE_REFUSED, the claim closed and the reservation released. The drive is
remote without a fault code, and its key stays at NONE. -/
def Obligations.DriveAcceptanceStartsTheMotion : Prop :=
  ∀ (s : State) (d now : Nat) (k : TxKind) (chars : List PlChar) (st : Status) (r : CommandResult) (x : MoveFlight) (cl : OpenClaim),
    Shape s → Running s → Addressed s k d now → IsStatus chars d st r → ResultFits k st r →
    (s.slots d).moveFlight = some x → x.withdrawn = false → (s.dish d).claim = some cl → cl.standing = .admitted →
    st.owner = .remote → st.fault = 0 → st.key = .clear → (∀ p, (s.dish d).last = some p → p.key = .clear ∧ p.owner = .remote) →
    let ends (p : State → Prop) : Prop := ∃ t, exec (.plReplyReceived chars) s = .next t ∧ p t
    let refused (t : State) : Prop := (t.dish d).state = .faulted ∧ (t.dish d).supFault = .driveRefused ∧ (t.dish d).claim = none
      ∧ (t.dish d).reservation = none ∧ (t.dish d).flags.fault = true
    (∀ seq, k = .move seq → (s.dish d).state = .ready →
      (r = .accepted → ends (fun t => (t.dish d).state = .slewing ∧ (t.dish d).acceptedSeq = some seq
        ∧ (t.dish d).claim = some { cl with running := true } ∧ (t.dish d).reservation = (s.dish d).reservation
        ∧ (t.dish d).timer = some { kind := .slew, due := now + (s.dish d).slewTimeout.getD 0 * 100 }))
      ∧ (r = .refused → ends refused))
    ∧ (k = .home → (s.dish d).state = .unreferenced →
      (r = .accepted → ends (fun t => (t.dish d).state = .homing ∧ (t.dish d).claim = some cl
        ∧ (t.dish d).reservation = (s.dish d).reservation
        ∧ (t.dish d).timer = some { kind := .home, due := now + s.dsv.homeTimeout * 1000 }))
      ∧ (r = .refused → ends refused))

namespace Sys2Proof.Claims

/-- R7, R9, R11, R14, R15, R18, R21: the state that a valid reply to a POLL leads to from ABSENT, SETTLING, HOMING, SLEWING and STOPPING, and
from any supervised state on owner LOCAL or a drive fault. -/
def PollReplyMovesTheDishState : Prop :=
  ∀ (s : State) (d now : Nat) (chars : List PlChar) (st : Status) (r : CommandResult),
    Shape s → Running s → Addressed s .poll d now → IsStatus chars d st r → r = .none →
    let x := s.dish d
    let ends (p : State → Prop) : Prop := ∃ t, exec (.plReplyReceived chars) s = .next t ∧ p t
    let supervised : Prop := x.state = .settling ∨ x.state = .unreferenced ∨ x.state = .homing ∨ x.state = .ready
      ∨ x.state = .slewing ∨ x.state = .stopping
    let quiet : Prop := st.owner = .remote ∧ st.fault = 0 ∧ st.key = .clear ∧ ∀ p, x.last = some p → p.key = .clear
    (x.state = .absent → st.owner = .remote → st.fault = 0 → 2 ≤ s.dsv.nSettle → ends (fun t =>
      (t.dish d).state = .settling ∧ (t.dish d).good = 1 ∧ (t.dish d).flags.presence = true))
    ∧ (x.state = .settling → quiet → x.claim = none → min 50 (x.good + 1) < s.dsv.nSettle → ends (fun t =>
      (t.dish d).state = .settling ∧ (t.dish d).good = min 50 (x.good + 1)))
    ∧ (x.state = .settling → quiet → x.claim = none → s.dsv.nSettle ≤ min 50 (x.good + 1) → ends (fun t =>
      (st.referenced = true → (t.dish d).state = .ready ∧ t.fbu.passDue = true)
      ∧ (st.referenced = false → (t.dish d).state = .unreferenced ∧ (t.dish d).task = some .home
          ∧ (t.dish d).claim = some { ref := .task, standing := .waiting })))
    ∧ (supervised → st.owner = .handset → ends (fun t =>
      (t.dish d).state = .handset ∧ (t.dish d).claim = none ∧ (t.dish d).reservation = none ∧ (t.dish d).timer = none
      ∧ (t.dish d).supFault = .clear ∧ (t.dish d).flags.owner = true ∧ (t.slots d).movePending = none
      ∧ (t.slots d).stopPending = none))
    ∧ (supervised → st.owner = .remote → st.fault ≠ 0 → ends (fun t =>
      (t.dish d).state = .faulted ∧ (t.dish d).claim = none ∧ (t.dish d).timer = none ∧ (t.dish d).supFault = x.supFault
      ∧ CountsOf s t .dishFault [some 0] ∧ (t.dish d).flags.fault = true ∧ (t.slots d).movePending = none
      ∧ (t.dish d).reservation = (if st.moving then x.reservation else none)))
    ∧ (x.state = .homing → quiet → st.referenced = true → st.moving = false → ends (fun t =>
      (t.dish d).state = .ready ∧ (t.dish d).reservation = none ∧ (t.dish d).timer = none ∧ t.fbu.passDue = true))
    ∧ (x.state = .slewing → quiet → st.referenced = true → st.inPosition = true → x.acceptedSeq = some st.echo → ends (fun t =>
      (t.dish d).state = .ready ∧ (t.dish d).reservation = none ∧ (t.dish d).timer = none ∧ t.fbu.passDue = true))
    ∧ (x.state = .slewing → quiet → (st.inPosition = false ∨ x.acceptedSeq ≠ some st.echo) → ends (fun t =>
      (t.dish d).state = .slewing ∧ (t.dish d).timer = x.timer ∧ (t.dish d).reservation = x.reservation))
    ∧ (x.state = .stopping → quiet → x.claim = none → st.moving = false → ends (fun t =>
      (t.dish d).reservation = none ∧ (t.dish d).timer = none
      ∧ (t.dish d).state = (if x.supFault = .slewTimeout then .faulted else if st.referenced then .ready else .unreferenced)))

/-- R10, R12: the states that a reply to a POLL leads to from LOCAL and FAULTED. Owner REMOTE moves a LOCAL dish to SETTLING with good count
1, and from there to FAULTED where the reply carries a fault code; owner LOCAL keeps it. A FAULTED dish stays FAULTED: a reply that shows
IDLE or owner LOCAL releases its reservation, and a changed owner or fault code sets its flag. -/
def PollReplyInLocalAndFaulted : Prop :=
  ∀ (s : State) (d now : Nat) (chars : List PlChar) (st : Status),
    Shape s → Running s → Addressed s .poll d now → IsStatus chars d st .none →
    let x := s.dish d
    let ends (p : State → Prop) : Prop := ∃ t, exec (.plReplyReceived chars) s = .next t ∧ p t
    (x.state = .handset → st.owner = .handset → ends (fun t => (t.dish d).state = .handset ∧ (t.dish d).flags.owner = x.flags.owner))
    ∧ (x.state = .handset → st.owner = .remote → st.fault = 0 → 2 ≤ s.dsv.nSettle → ends (fun t =>
      (t.dish d).state = .settling ∧ (t.dish d).good = 1 ∧ (t.dish d).flags.owner = true))
    ∧ (x.state = .handset → st.owner = .remote → st.fault ≠ 0 → ends (fun t =>
      (t.dish d).state = .faulted ∧ (t.dish d).flags.owner = true ∧ (t.dish d).flags.fault = true))
    ∧ (x.state = .faulted → ends (fun t => (t.dish d).state = .faulted ∧ (t.dish d).supFault = x.supFault
      ∧ (t.dish d).reservation = (if st.moving = false ∨ st.owner = .handset then none else x.reservation)
      ∧ (∀ p, x.last = some p → (t.dish d).flags.owner = (x.flags.owner || p.owner != st.owner)
          ∧ (t.dish d).flags.fault = (x.flags.fault || p.fault != st.fault))))

/-- R18, R113, R188: the reply that completes a slew closes its host member DONE; a record with no member left open becomes COMPLETE with its
SLEW_DONE pending and is handed to the timing monitor. (The dish is no PREEMPT_WAIT member, whose end R80 would assess too. That the closed
member keeps its running mark is the model's choice, log entry 35.) -/
def PollReplyCompletesTheHostMember : Prop :=
  ∀ (s : State) (d now id : Nat) (chars : List PlChar) (st : Status) (cl : OpenClaim) (r : SlewRecord),
    Shape s → Running s → Addressed s .poll d now → IsStatus chars d st .none →
    st.owner = .remote → st.fault = 0 → st.key = .clear → (∀ p, (s.dish d).last = some p → p.key = .clear) →
    st.referenced = true → st.inPosition = true →
    let x := s.dish d
    x.state = .slewing → x.acceptedSeq = some st.echo → x.claim = some cl → cl.ref = .host id → cl.standing = .admitted →
    s.record id = some r → r.complete = false → (∀ y ∈ r.members, y.dish = d → y.state = .admitted) →
    (∀ w, (s.zone x.zone).wave = some w → ∀ y ∈ w.members, y.dish = d → y.state ≠ .preemptWait) →
    ∃ t r', exec (.plReplyReceived chars) s = .next t ∧ t.record id = some r'
      ∧ RecordAfter r r' now (fun y => if y.dish = d then .done else y.state) ∧ (t.dish d).claim.map (·.ref) ≠ some (.host id)
      ∧ (r'.complete = true → .slewDone id ∈ t.oli.notices ∧ MonitorAtCompletion s.act.monitor t.act.monitor now (.host id))
      ∧ (r'.complete = false → t.act.monitor = s.act.monitor)

/-- R15, R16: the reference. A READY dish that shows none becomes UNREFERENCED with a waiting HOME task in place of its claim, the MOVE of an
admitted claim gone and its reservation released; an UNREFERENCED dish that shows it at rest becomes READY, its HOME task and HOME gone,
and one that does not stays. The drive is remote without a fault, with its key at NONE before and after. -/
def PollReplyOnTheReference : Prop :=
  ∀ (s : State) (d now : Nat) (chars : List PlChar) (st : Status),
    Shape s → Running s → Addressed s .poll d now → IsStatus chars d st .none →
    st.owner = .remote → st.fault = 0 → st.key = .clear → (∀ p, (s.dish d).last = some p → p.key = .clear) →
    let x := s.dish d
    let ends (p : State → Prop) : Prop := ∃ t, exec (.plReplyReceived chars) s = .next t ∧ p t
    (x.state = .ready → st.referenced = false → ends (fun t =>
      (t.dish d).state = .unreferenced ∧ (t.dish d).task = some .home ∧ (t.dish d).claim = some { ref := .task, standing := .waiting }
      ∧ t.fbu.passDue = true
      ∧ (∀ cl, x.claim = some cl → cl.standing = .admitted → (t.dish d).reservation = none ∧ (t.slots d).movePending = none)
      ∧ ((∀ cl, x.claim = some cl → cl.standing = .waiting) → (t.dish d).reservation = x.reservation)))
    ∧ (x.state = .unreferenced → st.referenced = true → st.moving = false → ends (fun t =>
      (t.dish d).state = .ready ∧ (t.dish d).reservation = none ∧ (t.dish d).task ≠ some .home ∧ (t.slots d).movePending = none
      ∧ (t.dish d).timer = none ∧ t.fbu.passDue = true))
    ∧ (x.state = .unreferenced → (st.referenced = false ∨ st.moving = true) → ends (fun t =>
      (t.dish d).state = .unreferenced ∧ (t.dish d).claim = x.claim ∧ (t.dish d).task = x.task
      ∧ (t.dish d).reservation = x.reservation))

/-- R23: a reply whose key position differs from the previous one sets KEY. Leaving NONE stops an admitted claim: the dish enters STOPPING
with its claim closed, its reservation kept and a STOP ordered; a waiting host or wave claim and a waiting SHED task are gone, a waiting
HOME or STOW task is held. With the key back at NONE, a READY dish that nothing blocks makes a pass due. -/
def PollReplyOnTheKey : Prop :=
  ∀ (s : State) (d now : Nat) (chars : List PlChar) (st p : Status),
    Shape s → Running s → Addressed s .poll d now → IsStatus chars d st .none → (s.dish d).last = some p → p.key ≠ st.key →
    let x := s.dish d
    let ends (q : State → Prop) : Prop := ∃ t, exec (.plReplyReceived chars) s = .next t ∧ q t
    let sound : Prop := st.owner = .remote ∧ st.fault = 0
    ends (fun t => (t.dish d).flags.key = true)
    ∧ (∀ cl, sound → p.key = .clear → x.claim = some cl → cl.standing = .admitted → StopActs x → st.moving = true → ends (fun t =>
      (t.dish d).state = .stopping ∧ (t.dish d).claim = none ∧ (t.dish d).reservation = x.reservation
      ∧ (t.dish d).timer = some { kind := .stop, due := now + 30000 } ∧ (t.slots d).movePending = none
      ∧ ((t.slots d).stopPending.isSome = true ∨ (t.slots d).stopFlight.isSome = true)))
    ∧ (∀ cl, sound → p.key = .clear → x.state = .ready → x.claim = some cl → cl.standing = .waiting → st.referenced = true →
      ends (fun t => (t.dish d).state = .ready
        ∧ (t.dish d).claim = (if cl.ref = .task ∧ x.task ≠ some .shed then some cl else none)))
    ∧ (sound → st.key = .clear → x.state = .ready → covered s (·.motion) d = false → st.referenced = true → ends (fun t =>
      (t.dish d).state = .ready ∧ t.fbu.passDue = true))

end Sys2Proof.Claims

/-- R7, R9 to R12, R14 to R16, R18, R21, R23, R113, R188: the state that a valid reply to a POLL leads to from each state of Table 6, the host
member that a completed slew closes, and what a change of the key position does. (The closed member keeps its running mark: the model's
choice, log entry 35.) -/
def Obligations.PollReplyMovesTheDishThroughItsStates : Prop :=
  PollReplyMovesTheDishState ∧ PollReplyInLocalAndFaulted ∧ PollReplyCompletesTheHostMember ∧ PollReplyOnTheReference
    ∧ PollReplyOnTheKey

/-! ## Host slews and joint slews -/

namespace Sys2Proof.Claims

/-- The first id after the last one given that no record holds, counting on from 255 to 1 (R94). -/
def FirstFreeId (t : Sls) (id : Nat) : Prop :=
  ∃ i, i < 255 ∧ id = (t.lastId + i) % 255 + 1 ∧ (∀ r ∈ t.table, r.id ≠ id)
    ∧ ∀ j, j < i → ∃ r ∈ t.table, r.id = (t.lastId + j) % 255 + 1

/-- The member that Table 31 gives dish `d` at acceptance (R101, R109). A dish with a waiting STOW task in a zone without a cause fits no line;
that it is EXCUSED(BUSY) is the model's choice, log entry 34. -/
def memberAt (s : State) (d : Nat) : HostMember :=
  let r := s.dish d
  let keyed : Bool := match r.last with | some x => x.key != .clear | none => false
  let covered : Bool := s.lkt.entries.any (fun e => (e.state == .active || e.state == .releasing) && e.motion && inSet e.scope d)
  let causes := (s.zone r.zone).causes
  let shedWaits : Bool := r.task == some .shed && r.claim.map (·.standing) == some .waiting
  let st : MemberState :=
    if r.state ≠ .ready then .excused (.state r.state)
    else if keyed || covered then .excused .locked
    else if causes.wind || causes.noSource || causes.manual then .excused .zoneStowed
    else if r.claim.isSome && !shedWaits then .excused .busy
    else .waiting
  { dish := d, state := st, ice := st == .waiting && (match r.last with | some x => x.surface == .ice | none => false) }

/-- The excused members of a list with their reasons, in its order (R102). -/
def excusedOf (ms : List HostMember) : List (Nat × Excuse) :=
  ms.filterMap (fun m => match m.state with | .excused w => some (m.dish, w) | _ => none)

/-- R117: the LOCK_BLOCK events of a member list: each member excused LOCKED, in order, with the kind of the lowest-index entry that blocks the
motion of its dish; none for one that only its key excuses. -/
def lockEventsOf (s : State) (ms : List HostMember) : List (Option Nat) :=
  ms.filterMap (fun m =>
    if m.state = .excused .locked then
      ((s.lkt.entries.find? (fun e =>
          (e.state == .active || e.state == .releasing) && e.motion && inSet e.scope m.dish)).bind (·.kind)).map
        (fun k => some (match k with | .estop => 0 | .maintenance => 1 | .admin => 2))
    else none)

/-- The mark of a clamped rate (R98): 0 was given, or the rate is above the maximum of a WAITING member. -/
def rateMark (s : State) (rate : Option Nat) (ms : List HostMember) (vmax : Profile → Nat) : Bool :=
  match rate with
  | none => false
  | some v => v == 0 || ms.any (fun m => m.state == .waiting && vmax (s.dish m.dish).profile < v)

/-- The target lies in the ranges of check 2 of Table 30. -/
def TargetOk (a : SlewArgs) : Prop := -270000 ≤ a.az ∧ a.az ≤ 270000 ∧ 5000 ≤ a.el ∧ a.el ≤ 90000

/-- What an accepted slew request leaves (R94, R95, R98, R99, R101, R102): the record at the newest end of the table with the next id, the
WAITING members' claims on their dishes, a pass due, and a reply with the id, the excusals, the counts and the clamped marks. ACT is handed
the members excused LOCKED and the creation of the record (R117, R188). -/
def Accepts (c : Instr) (s : State) (kind tag : Nat) (mode : SlewMode) (sel : Selector) (a : SlewArgs) (dishes : List Nat) : Prop :=
  let ms := dishes.map (memberAt s)
  let deadline := a.deadline.map (fun x => max 1 (min 3600 x))
  let kept (r : Option Nat) : Option Nat := if r = some 0 then none else r
  ∃ id, FirstFreeId s.sls id ∧
    Answers c s kind tag
      (.ok (.slewAccepted
        { id := id, excusals := excusedOf ms, waiting := ms.countP (fun m => m.state == .waiting),
          iceHeld := ms.countP (fun m => m.state == .waiting && m.ice), clampAz := rateMark s a.rateAz ms (·.vmaxAz),
          clampEl := rateMark s a.rateEl ms (·.vmaxEl), clampDeadline := deadline != a.deadline }))
      [.dsv, .sls, .fbu, .act] (fun t =>
        t.fbu = { s.fbu with passDue := true } ∧ t.sls.groups = s.sls.groups ∧ t.sls.lastId = id
        ∧ t.sls.table = s.sls.table ++ [
            { id := id, complete := false, mode := mode, selector := sel, targetAz := a.az, targetEl := a.el,
              rateAz := kept a.rateAz, rateEl := kept a.rateEl, deadline := deadline,
              deadlineDue := deadline.map (fun x => s.now + x * 1000), accepted := s.now, completed := none, members := ms }]
        ∧ (∀ d, (∃ m ∈ ms, m.dish = d ∧ m.state = .waiting) → (t.dish d).claim = some { ref := .host id, standing := .waiting }
            ∧ (t.dish d).state = .ready ∧ SameAssignment d s t)
        ∧ (∀ d, ¬ (∃ m ∈ ms, m.dish = d ∧ m.state = .waiting) → t.dish d = s.dish d)
        ∧ CountsOnly s t .lockBlock (lockEventsOf s ms) ∧ t.act.conds = s.act.conds ∧ t.act.tickDue = s.act.tickDue
        ∧ MonitorAtCreation s.act.monitor t.act.monitor s.now (.host id) s.act.monitor.observe)

/-- R96, R98, R99, R101, R102: a SLEW whose dish is READY, motion-eligible, outside a stowing zone and free of claims (or holding a waiting
SHED task) is accepted as a record of mode SINGLE. -/
def SlewIsAcceptedAsASingleRecord : Prop :=
  ∀ (s : State) (tag d : Nat) (a : SlewArgs), Shape s → ClaimsFit s → Ready s (.slew tag d a) → 1 ≤ d → d ≤ 48 → TargetOk a →
    s.sls.table.length < 32 → (memberAt s d).state = .waiting →
    Accepts (.slew tag d a) s 0x0A tag .single (.dishes (single d)) a [d]

/-- R97, R98, R99, R101, R102: a JOINT_SLEW names a group, read as it stands, or a dish set, in mode GANG or WAVE; with at least one
member WAITING it is accepted, its members being assessed in dish order. -/
def JointSlewIsAcceptedWithItsMembers : Prop :=
  ∀ (s : State) (tag mode : Nat) (sel : Selector) (a : SlewArgs) (ds : DishSet), Shape s → ClaimsFit s →
    Ready s (.jointSlew tag sel mode a) →
    (sel = .dishes ds ∨ ∃ n, sel = .group n ∧ 1 ≤ n ∧ n ≤ 16 ∧ s.sls.groups[n - 1]? = some ds) → (mode = 1 ∨ mode = 2) → TargetOk a →
    s.sls.table.length < 32 → (∃ d, inSet ds d = true ∧ (memberAt s d).state = .waiting) →
    Accepts (.jointSlew tag sel mode a) s 0x0B tag (if mode = 1 then .gang else .wave) sel a (members ds)

end Sys2Proof.Claims

/-- R94 to R102: an accepted SLEW and an accepted JOINT_SLEW. (A dish whose STOW task waits in a zone without a cause is EXCUSED(BUSY): the
model's choice, log entry 34.) -/
def Obligations.AcceptedSlewsBecomeRecords : Prop :=
  SlewIsAcceptedAsASingleRecord ∧ JointSlewIsAcceptedWithItsMembers

/-- R96, R97, R100, R102, R117: SLEW and JOINT_SLEW are refused by the checks of Table 30 in their order, and a refused request changes no
record, no claim and no id. A request without an eligible member hands ACT each member excused LOCKED (log entry 22), as Table 31 has it
assessed, and nothing else. (A dish whose STOW task waits in a zone without a cause is EXCUSED(BUSY): the model's choice, log entry 34.) -/
def Obligations.SlewChecksRefuseInTheirOrder : Prop :=
  ∀ (s : State) (c : Instr) (kind tag : Nat) (a : SlewArgs) (named : Option (List Nat)), Shape s → Ready s c →
    ((∃ d, c = .slew tag d a ∧ kind = 0x0A ∧ named = (if 1 ≤ d ∧ d ≤ 48 then some [d] else none))
      ∨ (∃ ds m, c = .jointSlew tag (.dishes ds) m a ∧ kind = 0x0B ∧ named = (if m = 1 ∨ m = 2 then some (members ds) else none))
      ∨ (∃ n m, c = .jointSlew tag (.group n) m a ∧ kind = 0x0B
          ∧ named = (if (m = 1 ∨ m = 2) ∧ 1 ≤ n ∧ n ≤ 16 then (s.sls.groups[n - 1]?).map members else none))) →
    let refused (r : Result) : Prop := Reads c s kind tag r
    (named = none ∨ ¬ TargetOk a → refused (.refused .outOfRange))
    ∧ (TargetOk a → named = some [] → refused (.refused .emptySet))
    ∧ (∀ d l, TargetOk a → named = some (d :: l) → s.sls.table.length = 32 → refused (.refused .queueFull))
    ∧ (∀ d l, TargetOk a → named = some (d :: l) → s.sls.table.length < 32 → (∀ e ∈ d :: l, (memberAt s e).state ≠ .waiting) →
        let ms := (d :: l).map (memberAt s)
        Answers c s kind tag (.noEligible (excusedOf ms)) [.act] (fun t =>
          CountsOnly s t .lockBlock (lockEventsOf s ms) ∧ t.act = { s.act with counters := t.act.counters }
          ∧ ∀ k, (∀ n, k ≠ .counter n) → (k ∈ t.oli.notices ↔ k ∈ s.oli.notices)))

namespace Sys2Proof.Claims

/-- The record's open members and their dishes' claims agree, as they do from acceptance to closure (R102, R103): a WAITING member's dish
holds the waiting claim, an ADMITTED member's dish the admitted one, READY or SLEWING. -/
def MembersHoldClaims (s : State) (r : SlewRecord) : Prop :=
  (r.members.map (·.dish)).Nodup ∧ ∀ m ∈ r.members, 1 ≤ m.dish ∧ m.dish ≤ 48
    ∧ (m.state = .waiting → ∃ c, (s.dish m.dish).claim = some c ∧ c.ref = .host r.id ∧ c.standing = .waiting)
    ∧ (m.state = .admitted → ((s.dish m.dish).state = .ready ∨ (s.dish m.dish).state = .slewing)
        ∧ ∃ c, (s.dish m.dish).claim = some c ∧ c.ref = .host r.id ∧ c.standing = .admitted)

end Sys2Proof.Claims

/-- R20, R112, R113: SLEW_CANCEL is refused by its four checks in order; otherwise each WAITING member in scope closes CANCELLED, each
ADMITTED one closes STOPPED_BY_HOST with its dish STOPPING, the others stay, and the reply counts them. (A closed member keeps its running
and ice-held marks: the model's choice, log entry 35.) -/
def Obligations.SlewCancelClosesTheMembersInScope : Prop :=
  ∀ (s : State) (tag id : Nat) (ds : Option DishSet), Shape s → Ready s (.slewCancel tag id ds) →
    let refused (why : Reason) : Prop := Reads (.slewCancel tag id ds) s 0x0C tag (.refused why)
    let known : Prop := 1 ≤ id ∧ id ≤ 255
    (¬ known → refused .outOfRange) ∧ (known → s.record id = none → refused .notFound)
    ∧ (∀ r, known → s.record id = some r → r.complete = true → refused .state)
    ∧ (∀ r, known → s.record id = some r → r.complete = false → ds = some 0 → refused .emptySet)
    ∧ (∀ r, known → s.record id = some r → r.complete = false → ds ≠ some 0 → MembersHoldClaims s r →
        (∃ m ∈ r.members, m.state = .waiting ∨ m.state = .admitted) →
        let inScope (m : HostMember) : Bool := match ds with | some x => inSet x m.dish | none => true
        let count (p : HostMember → Bool) : Nat := r.members.countP (fun m => inScope m && p m)
        Answers (.slewCancel tag id ds) s 0x0C tag
          (.ok (.cancelled (count (fun m => m.state == .waiting)) (count (fun m => m.state == .admitted))
            (count (fun m => m.state != .waiting && m.state != .admitted)))) [.dsv, .pbc, .sls, .fbu, .act] (fun t =>
            (∃ r', t.record id = some r' ∧ (r'.complete = true → .slewDone id ∈ t.oli.notices)
              ∧ RecordAfter r r' s.now (fun m =>
              if inScope m && m.state == .waiting then .cancelled
              else if inScope m && m.state == .admitted then .stoppedByHost else m.state))
            ∧ (∀ m ∈ r.members, inScope m = true → m.state = .waiting → (t.dish m.dish).claim = none ∧ t.fbu.passDue = true)
            ∧ (∀ m ∈ r.members, inScope m = true → m.state = .admitted → (t.dish m.dish).claim = none
                ∧ (t.dish m.dish).state = .stopping ∧ (t.dish m.dish).timer = some { kind := .stop, due := s.now + 30000 }
                ∧ (t.dish m.dish).reservation = (s.dish m.dish).reservation)
            ∧ (∀ d, (∀ m ∈ r.members, m.dish = d → inScope m = false) → t.dish d = s.dish d) ∧ t.fbu.feeders = s.fbu.feeders))

namespace Sys2Proof.Claims

/-- R111, R113, R188: at the expiry of a record's deadline timer every WAITING member closes EXPIRED, the ADMITTED ones stay, and the timer
becomes absent; a record that this completes is handed to the timing monitor. -/
def TheExpiryClosesTheWaitingMembers : Prop :=
  ∀ (s : State) (id due : Nat) (r : SlewRecord), Shape s → Running s → s.record id = some r → r.complete = false →
    r.deadlineDue = some due → MembersHoldClaims s r → (∃ m ∈ r.members, m.state = .waiting) →
    Happens (.deadlineExpiry id) s (max s.now due) [.dsv, .sls, .fbu, .act] (fun t =>
      (∃ r', t.record id = some r' ∧ (r'.complete = true → .slewDone id ∈ t.oli.notices)
              ∧ RecordAfter { r with deadlineDue := none } r' (max s.now due) (fun m =>
        if m.state == .waiting then .expired else m.state))
      ∧ (∀ m ∈ r.members, m.state = .waiting → (t.dish m.dish).claim = none)
      ∧ (∀ d, (∀ m ∈ r.members, m.dish = d → m.state ≠ .waiting) → t.dish d = s.dish d)
      ∧ t.fbu = { s.fbu with passDue := true } ∧ KeepsLink s t ∧ t.act = { s.act with monitor := t.act.monitor }
      ∧ ((∃ m ∈ r.members, m.state = .admitted) → t.act.monitor = s.act.monitor)
      ∧ ((∀ m ∈ r.members, m.state ≠ .admitted) →
          MonitorAtCompletion s.act.monitor t.act.monitor (max s.now due) (.host id)))

/-- R111: the expiry of a record with no WAITING member changes only the timer, which becomes absent. -/
def TheExpiryWithNoneWaitingEndsTheTimerAlone : Prop :=
  ∀ (s : State) (id due : Nat) (r : SlewRecord), Running s → s.record id = some r → r.deadlineDue = some due →
    (∀ m ∈ r.members, m.state ≠ .waiting) →
    Happens (.deadlineExpiry id) s (max s.now due) [.sls] (fun t =>
      t.record id = some { r with deadlineDue := none } ∧ (∀ j, j ≠ id → t.record j = s.record j) ∧ t.sls.groups = s.sls.groups
      ∧ t.sls.lastId = s.sls.lastId ∧ t.sls.table.length = s.sls.table.length ∧ t.oli.notices = s.oli.notices ∧ KeepsLink s t)

end Sys2Proof.Claims

/-- R111, R113, R188: the expiry of a record's deadline timer, with WAITING members and without. (A closed member keeps its ice-held mark: the
model's choice, log entry 35.) -/
def Obligations.DeadlineExpiresTheWaitingMembers : Prop :=
  TheExpiryClosesTheWaitingMembers ∧ TheExpiryWithNoneWaitingEndsTheTimerAlone

namespace Sys2Proof.Claims

/-- R115: SLEW_STATUS is refused for an id outside 1..255 and for an id that no record holds, and otherwise reports the record, open or
complete. -/
def SlewStatusReportsTheRecord : Prop :=
  ∀ (s : State) (tag id : Nat), Ready s (.slewStatus tag id) →
    (¬ (1 ≤ id ∧ id ≤ 255) → Reads (.slewStatus tag id) s 0x0D tag (.refused .outOfRange))
    ∧ (1 ≤ id → id ≤ 255 → (∀ r ∈ s.sls.table, r.id ≠ id) → Reads (.slewStatus tag id) s 0x0D tag (.refused .notFound))
    ∧ (∀ r, 1 ≤ id → id ≤ 255 → s.sls.table.find? (fun r => r.id == id) = some r → Reads (.slewStatus tag id) s 0x0D tag (.ok (.slewStatus
        { id := r.id, complete := r.complete, mode := r.mode, selector := r.selector, az := r.targetAz, el := r.targetEl,
          rateAz := r.rateAz, rateEl := r.rateEl, deadline := r.deadline, age := min 65535 ((s.now - r.accepted) / 1000),
          deadlineLeft := r.deadlineDue.map (fun t => (t - s.now + 999) / 1000),
          completion := r.completed.map (fun t => (t - r.accepted) / 1000), members := r.members })))

/-- R92, R93, R116: QUEUE_STATUS reports the table in acceptance order; GROUP_SET replaces the contents of one group and changes no slew
record; GROUP_READ lists the named groups in order. -/
def QueueAndGroupsAreReadAndSet : Prop :=
  ∀ (s : State) (tag : Nat), Shape s →
    (Ready s (.queueStatus tag) → Reads (.queueStatus tag) s 0x0E tag (.ok (.queue s.sls.table.length (32 - s.sls.table.length) s.sls.lastId
      (s.sls.table.map (fun r =>
        { id := r.id, mode := r.mode, complete := r.complete, members := r.members.length,
          waiting := r.members.countP (fun m => m.state == .waiting),
          iceHeld := r.members.countP (fun m => m.state == .waiting && m.ice),
          admitted := r.members.countP (fun m => m.state == .admitted),
          deadlineLeft := r.deadlineDue.map (fun t => (t - s.now + 999) / 1000) })))))
    ∧ (∀ (n : Nat) (ds : DishSet), Ready s (.groupSet tag n ds) →
      (n = 0 ∨ 16 < n → Reads (.groupSet tag n ds) s 0x0F tag (.refused .outOfRange))
      ∧ (1 ≤ n → n ≤ 16 → Answers (.groupSet tag n ds) s 0x0F tag (.ok (.group n ds)) [.sls] (fun t =>
          t.sls = { s.sls with groups := s.sls.groups.set (n - 1) ds } ∧ t.oli.notices = s.oli.notices)))
    ∧ (∀ m : BitVec 16, Ready s (.groupRead tag m) →
      (m = 0 → Reads (.groupRead tag m) s 0x10 tag (.refused .emptySet))
      ∧ (m ≠ 0 → Reads (.groupRead tag m) s 0x10 tag (.ok (.groups
          (((List.range 16).filter (fun i => m.getLsbD i)).map (fun i => (i + 1, s.sls.groups.getD i 0)))))))

end Sys2Proof.Claims

/-- R92, R93, R115, R116: SLEW_STATUS, QUEUE_STATUS, GROUP_SET and GROUP_READ. (Ages rounded down and remaining times rounded up to
seconds: log entry 13. A completion time, which has no stated top, does not saturate: the model's choice, log entry 38.) -/
def Obligations.SlewQueueAndGroupRequests : Prop :=
  SlewStatusReportsTheRecord ∧ QueueAndGroupsAreReadAndSet

/-! ## Slew arithmetic and the feeder budget -/

namespace Sys2Proof.Claims

/-- R121: the demand is the smaller of Dmax and the base plus the wind term at the gust of the zone's source mast, or at 999 without a
source; with Dmax in its range it lies in 0..60 000. -/
def DemandIsBasePlusWindTermUpToDmax : Prop :=
  ∀ (s : State) (d : Nat) (cls : ClaimClass),
    let p := (s.dish d).profile
    let base := match cls with | .home => p.bHome | _ => p.bSlew
    (∀ m v, (s.zone (s.dish d).zone).source = some m → s.gust m = some v → s.demand d cls = min p.dmax (base + (p.c * v * v + 99) / 100))
    ∧ ((s.zone (s.dish d).zone).source = none → s.demand d cls = min p.dmax (base + (p.c * 998001 + 99) / 100))
    ∧ (p.dmax ≤ 60000 → s.demand d cls ≤ 60000)

/-- R123: the estimate of one axis: 0 for no travel; 10 × (d × a + v²) divided by v × a, rounded up, where the move reaches its rate;
and otherwise the smallest n with n² × a ≥ 400 × d. -/
def AxisEstimateFollowsTheThreeCases : Prop :=
  ∀ d v a : Nat, 0 < v → 0 < a →
    (d = 0 → axisEstimate d v a = 0)
    ∧ (0 < d → v * v ≤ d * a →
        10 * (d * a + v * v) ≤ axisEstimate d v a * (v * a) ∧ (axisEstimate d v a - 1) * (v * a) < 10 * (d * a + v * v))
    ∧ (0 < d → d * a < v * v →
        400 * d ≤ axisEstimate d v a ^ 2 * a ∧ ∀ n, n < axisEstimate d v a → n ^ 2 * a < 400 * d)

/-- R123, R124, Table 36: the four worked estimates and their slew timeouts. -/
def EstimateExamplesOfTable36 : Prop :=
  axisEstimate 60000 1000 300 = 634 ∧ slewTimeoutOf 634 = 1051 ∧ axisEstimate 2000 2000 500 = 40 ∧ slewTimeoutOf 40 = 160
    ∧ axisEstimate 3000 2000 500 = 49 ∧ slewTimeoutOf 49 = 174 ∧ axisEstimate 0 1000 300 = 0 ∧ slewTimeoutOf 0 = 100

/-- The qualifier value of a class (Table 35, Table 53). -/
def classBit : ClaimClass → Nat
  | .stow => 0
  | .home => 1
  | .observe => 2
  | .shed => 3

/-- One waiting claim of class `cls` on dish `d` is all that the pass finds (R119, R120), and it is not skipped (R130): the dish is READY, or
UNREFERENCED for HOME, its key is at NONE and no motion-blocking entry covers it, it is not ice-held, and for SHED its zone is not in
WATCH. -/
def AloneInThePass (s : State) (d : Nat) (cls : ClaimClass) : Prop :=
  1 ≤ d ∧ d ≤ 48 ∧ s.passUnits = [.claim d cls] ∧ (s.dish d).claimClass = some cls ∧ (s.dish d).reservation = none
    ∧ (s.dish d).state = (if cls = .home then .unreferenced else .ready)
    ∧ (∀ x, (s.dish d).last = some x → x.key = .clear) ∧ inSet s.motionBlocked d = false ∧ s.iceHeld d = false
    ∧ (cls = .shed → (s.zone (s.dish d).zone).state ≠ .watch)

/-- What an admission pass leaves whatever it finds: no pass due. -/
def PassEnds (s : State) (p : State → Prop) : Prop :=
  Happens .admissionPass s s.now [.dsv, .pbc, .znc, .sls, .fbu, .mlc, .act] (fun t => t.fbu.passDue = false ∧ KeepsLink s t ∧ p t)

/-- R81, R103, R122, R125, R131, R134: a claim alone in the pass is admitted when committed plus its demand fits below the ceiling (less the
stow reserve for a class other than STOW): the demand becomes the reservation and adds to slew committed, and the MOVE with the contents of
its class, or the HOME, is ordered. The owner records it: a host member is ADMITTED with the demand and the estimate, a wave member
ADMITTED, and no other member or record changes. The admission is handed to ACT, and to the timing monitor for a host or wave member. -/
def PassAdmitsAClaimThatFits : Prop :=
  ∀ (s : State) (d : Nat) (cls : ClaimClass), Shape s → Running s → Accounts s → s.fbu.passDue = true → AloneInThePass s d cls →
    s.pbc.heatOff = false →
    let x := s.dish d
    let p := x.profile
    let r := s.feeder x.feeder
    let z := s.zone x.zone
    (cls = .stow → r.slewCommitted + r.heatCommitted + s.demand d cls ≤ r.ceiling) →
    (cls ≠ .stow → r.slewCommitted + r.heatCommitted + s.demand d cls + r.reserve ≤ r.ceiling) →
    PassEnds s (fun t =>
      (t.dish d).reservation = some (s.demand d cls) ∧ (t.dish d).state = x.state ∧ SameAssignment d s t ∧ SameDishesBut [d] s t
      ∧ (t.dish d).claim = x.claim.map (fun c => { c with standing := .admitted, running := false, budgetWaiting := false })
      ∧ (t.feeder x.feeder).slewCommitted = r.slewCommitted + s.demand d cls ∧ CountsOf s t .admission [some (classBit cls)]
      ∧ (∀ ref, x.claim.map (·.ref) = some ref →
          (∀ id, ref = .host id → MonitorAtAdmission s.act.monitor t.act.monitor s.now (.host id) ∧ t.znc = s.znc)
          ∧ (∀ y, ref = .wave y → MonitorAtAdmission s.act.monitor t.act.monitor s.now (.wave y) ∧ t.sls = s.sls
              ∧ ∀ w, (s.zone y).wave = some w →
                (∀ i, i ≠ y → t.zone i = s.zone i)
                ∧ t.zone y = { s.zone y with wave := some { w with
                    members := w.members.map (fun m => if m.dish = d then { m with state := .admitted } else m) } })
          ∧ (ref = .task → t.act.monitor = s.act.monitor ∧ t.sls = s.sls ∧ t.znc = s.znc))
      ∧ (cls = .home → (t.slots d).movePending = some { cmd := .home, attempts := 0, age := s.moment + 1 })
      ∧ (∀ st, x.last = some st →
        let estimate (az el : Int) (v w : Nat) : Nat :=
          max (axisEstimate (az - st.az).natAbs v p.aAz) (axisEstimate (el - st.el).natAbs w p.aEl)
        let moves (az el : Int) (v w : Nat) : Prop :=
          (t.slots d).movePending = some { cmd := .move az el v w p.aAz p.aEl, attempts := 0, age := s.moment + 1 }
          ∧ (t.dish d).slewTimeout = some (slewTimeoutOf (estimate az el v w))
        (cls = .stow → moves (z.stowAz.getD st.az) z.stowEl p.vmaxAz p.vmaxEl) ∧ (cls = .shed → moves st.az p.shedEl p.vmaxAz p.vmaxEl)
        ∧ (∀ id rec, cls = .observe → x.claim.map (·.ref) = some (.host id) → s.record id = some rec →
            let v := match rec.rateAz with | none => p.vmaxAz | some q => min q p.vmaxAz
            let w := match rec.rateEl with | none => p.vmaxEl | some q => min q p.vmaxEl
            moves rec.targetAz rec.targetEl v w
            ∧ (∀ i, t.record i =
                if i = id then some { rec with members := rec.members.map (fun m =>
                  if m.dish = d then { m with state := .admitted, running := false, demand := some (s.demand d cls),
                                              estimate := some (estimate rec.targetAz rec.targetEl v w) } else m) }
                else s.record i)
            ∧ t.sls.lastId = s.sls.lastId ∧ t.sls.groups = s.sls.groups)))

/-- R131, R133, R135, R136: a claim alone in the pass that does not fit is not admitted: it is marked budget-waiting, which ACT is handed the
first time, and counted for its class on its feeder; a STOW claim also leaves committed plus demand minus ceiling as the feeder's shed demand. -/
def PassHoldsAClaimThatDoesNotFit : Prop :=
  ∀ (s : State) (d : Nat) (cls : ClaimClass), Shape s → Running s → Accounts s → s.fbu.passDue = true → AloneInThePass s d cls →
    (∀ e, e ≠ d → (s.dish e).claim.map (·.budgetWaiting) ≠ some true) →
    let x := s.dish d
    let r := s.feeder x.feeder
    (cls = .stow → r.ceiling < r.slewCommitted + r.heatCommitted + s.demand d cls) →
    (cls ≠ .stow → r.ceiling < r.slewCommitted + r.heatCommitted + s.demand d cls + r.reserve) →
    PassEnds s (fun t =>
      t.dish d = { x with claim := x.claim.map (fun c => { c with budgetWaiting := true }) } ∧ SameDishesBut [d] s t
      ∧ (t.slots d).movePending = (s.slots d).movePending
      ∧ (t.feeder x.feeder).waits = { stow := if cls = .stow then 1 else 0, home := if cls = .home then 1 else 0,
                                      observe := if cls = .observe then 1 else 0, shed := if cls = .shed then 1 else 0 }
      ∧ (t.feeder x.feeder).shedDemand =
          (if cls = .stow then some (r.slewCommitted + r.heatCommitted + s.demand d cls - r.ceiling) else none)
      ∧ (t.feeder x.feeder).slewCommitted = r.slewCommitted
      ∧ CountsOf s t .budgetWait (if x.claim.map (·.budgetWaiting) = some true then [] else [some (classBit cls)]))

end Sys2Proof.Claims

/-- R81, R103, R122, R125, R131, R133 to R136, R184, R188: the admission pass over one claim, and what an admission leaves in the record or
wave that owns the claim. -/
def Obligations.PassAdmitsWhatFitsAndHoldsWhatDoesNot : Prop :=
  PassAdmitsAClaimThatFits ∧ PassHoldsAClaimThatDoesNotFit

namespace Sys2Proof.Claims

/-- The dishes of the members of a list that satisfy `p`, in its order, which is dish order (R79, R101). -/
def waitingIn {α : Type} (l : List α) (p : α → Bool) (dish : α → Nat) : List Nat := (l.filter p).map dish

/-- R119, R120: the units of a pass in their order: the WAITING members of the open waves, in order of creation and zone; the waiting STOW
tasks, then the waiting HOME tasks, in dish order; the open host records in acceptance order, a GANG record as one unit and every other
one with a unit for each WAITING member; and the waiting SHED tasks in dish order. (Creation times are compared by event: log entry 5.) -/
def PassUnitsComeInTheirOrder : Prop :=
  ∀ s : State, Shape s → ∃ zs : List Nat,
    zs.Pairwise (fun a b => ∀ v w, (s.zone a).wave = some v → (s.zone b).wave = some w →
      v.moment < w.moment ∨ (v.moment = w.moment ∧ a < b))
    ∧ (∀ z, z ∈ zs ↔ 1 ≤ z ∧ z ≤ 8 ∧ (s.zone z).wave.isSome = true)
    ∧ (let members (z : Nat) : List Nat :=
        match (s.zone z).wave with | none => [] | some w => waitingIn w.members (fun m => m.state == .waiting) (·.dish)
      let tasks (k : Task) : List Nat :=
        allDishes.filter (fun d => (s.dish d).task == some k && (s.dish d).claim.map (·.standing) == some .waiting)
      let host (r : SlewRecord) : List PassUnit :=
        let ds := waitingIn r.members (fun m => m.state == .waiting) (·.dish)
        if r.complete || ds.isEmpty then [] else if r.mode == .gang then [.gang r.id ds] else ds.map (fun d => .claim d .observe)
      s.passUnits = (zs.flatMap members).map (fun d => .claim d .stow) ++ (tasks .stow).map (fun d => .claim d .stow)
        ++ (tasks .home).map (fun d => .claim d .home) ++ s.sls.table.flatMap host ++ (tasks .shed).map (fun d => .claim d .shed))

/-- What a pass makes of a dish: not presented, skipped, admitted, or kept waiting for budget. -/
inductive Fate where
  | absent | skipped | admitted | waits
  deriving DecidableEq, Repr

/-- A feeder during a pass (R133, R136): slew committed, the two marks, and the shed demand of its first failing STOW claim. -/
structure Purse where
  slew : Nat
  held : Bool := false
  stowHeld : Bool := false
  demand : Option Nat := none

/-- A pass so far: its feeders, and what it made of the dishes. -/
structure Walk where
  purse : Feeder → Purse
  fate : Nat → Fate

def Walk.set (w : Walk) (ds : List Nat) (x : Fate) : Walk := { w with fate := fun d => if d ∈ ds then x else w.fate d }

def Walk.hold (w : Walk) (p : Feeder → Purse → Purse) : Walk := { w with purse := fun f => p f (w.purse f) }

/-- R24, R109, R130: a claim of class `cls` on dish `d` may move: the dish is READY (UNREFERENCED for HOME), its key is at NONE, no entry blocks
its motion, it is not an ice-held member, and for SHED its zone is not in WATCH. -/
def mayMove (s : State) (d : Nat) (cls : ClaimClass) : Bool :=
  let r := s.dish d
  let ice : Bool :=
    match r.claim with
    | some { ref := .host id, .. } =>
      (match s.record id with | some rec => (rec.members.find? (·.dish == d)).map (·.ice) == some true | none => false)
    | _ => false
  r.state == (if cls = .home then .unreferenced else .ready) && (match r.last with | some x => x.key == .clear | none => true)
    && !covered s (·.motion) d && !ice && !(cls == .shed && (s.zone r.zone).state == .watch)

/-- R130 to R133, R136: one unit at its place. A claim that may not move is skipped; a STOW claim is held only by a failed STOW claim and may use
the stow reserve; any other claim is held by every failed claim; a GANG is skipped whole, admitted whole, or kept waiting whole with every
feeder it touches held. -/
def walkUnit (s : State) (w : Walk) : PassUnit → Walk
  | .claim d cls =>
    let f := (s.dish d).feeder
    let p := w.purse f
    let need := p.slew + (s.feeder f).heatCommitted + s.demand d cls
    let room := (s.feeder f).ceiling
    let taken := (w.set [d] .admitted).hold (fun g q => if g = f then { q with slew := q.slew + s.demand d cls } else q)
    let wait := w.set [d] .waits
    if !mayMove s d cls then w.set [d] .skipped
    else if cls = .stow then
      if p.stowHeld then wait else if need ≤ room then taken
      else wait.hold (fun g q => if g = f then { q with held := true, stowHeld := true, demand := some (need - room) } else q)
    else if p.held then wait else if need + (s.feeder f).reserve ≤ room then taken
    else wait.hold (fun g q => if g = f then { q with held := true } else q)
  | .gang _ ds =>
    let sum (f : Feeder) : Nat := ((ds.filter (fun d => (s.dish d).feeder == f)).map (fun d => s.demand d .observe)).sum
    let touched (f : Feeder) : Bool := ds.any (fun d => (s.dish d).feeder == f)
    let fits (f : Feeder) : Bool := !(w.purse f).held
      && decide ((w.purse f).slew + (s.feeder f).heatCommitted + sum f + (s.feeder f).reserve ≤ (s.feeder f).ceiling)
    if ds.any (fun d => !mayMove s d .observe) then w.set ds .skipped
    else if allFeeders.all (fun f => !touched f || fits f) then
      (w.set ds .admitted).hold (fun f q => { q with slew := q.slew + sum f })
    else (w.set ds .waits).hold (fun f q => if touched f then { q with held := true } else q)

/-- The dishes of a unit with the class of its claims. -/
def dishesOf : PassUnit → List (Nat × ClaimClass)
  | .claim d cls => [(d, cls)]
  | .gang _ ds => ds.map (fun d => (d, .observe))

/-- R119, R120, R130 to R136: a pass takes its units one after another, each tested against what the earlier ones left. Every claim it
presents is a waiting claim of its class on a dish without a reservation (R4, R119), one for each dish. At the end each admitted dish
holds its demand as reservation, each failed claim is marked, each skipped one is not, every other dish keeps its record, and each feeder
shows its slew committed, its shed demand and its waiting counts. -/
def PassTestsEachUnitAtItsPlace : Prop :=
  ∀ s : State, Shape s → Running s → Accounts s → s.fbu.passDue = true →
    let presented := s.passUnits.flatMap dishesOf
    (presented.map (·.1)).Nodup →
    (∀ u ∈ presented, 1 ≤ u.1 ∧ u.1 ≤ 48 ∧ (s.dish u.1).claimClass = some u.2 ∧ (s.dish u.1).reservation = none
      ∧ (s.dish u.1).claim.map (·.standing) = some .waiting) →
    (∀ d, d ∉ presented.map (·.1) → (s.dish d).claim.map (·.budgetWaiting) ≠ some true) →
    let w := s.passUnits.foldl (walkUnit s) { purse := fun f => { slew := (s.feeder f).slewCommitted }, fate := fun _ => .absent }
    PassEnds s (fun t =>
      (∀ d cls, (d, cls) ∈ presented → w.fate d = .admitted →
        (t.dish d).reservation = some (s.demand d cls) ∧ (t.dish d).state = (s.dish d).state ∧ SameAssignment d s t
        ∧ (t.dish d).claim = (s.dish d).claim.map (fun c => { c with standing := .admitted, running := false, budgetWaiting := false }))
      ∧ (∀ d, w.fate d = .waits →
        t.dish d = { s.dish d with claim := (s.dish d).claim.map (fun c => { c with budgetWaiting := true }) })
      ∧ (∀ d, w.fate d = .skipped →
        t.dish d = { s.dish d with claim := (s.dish d).claim.map (fun c => { c with budgetWaiting := false }) })
      ∧ (∀ d, w.fate d = .absent → t.dish d = s.dish d)
      ∧ ∀ f,
        let count (cls : ClaimClass) : Nat :=
          presented.countP (fun u => w.fate u.1 == .waits && u.2 == cls && (s.dish u.1).feeder == f)
        (t.feeder f).slewCommitted = (w.purse f).slew ∧ (t.feeder f).shedDemand = (w.purse f).demand
        ∧ (t.feeder f).waits = { stow := count .stow, home := count .home, observe := count .observe, shed := count .shed })

end Sys2Proof.Claims

/-- R119, R120, R130 to R136: the order of the units of a pass, and a pass over any number of them. -/
def Obligations.PassTakesTheUnitsInTheirOrder : Prop :=
  PassUnitsComeInTheirOrder ∧ PassTestsEachUnitAtItsPlace

namespace Sys2Proof.Claims

/-- R127, R129, R131, R154: whatever an admission pass admits and MLC then grants, a feeder whose committed power was within its limit
stays within it, and where no STOW claim waits the pass leaves the stow reserve free or committed no higher than it was. (No heater is granted
more than is counted: `HeaterStagesStayInOrder`.) -/
def PassLeavesTheReserve : Prop :=
  ∀ s t : State, Accounts s → HeaterStages s → Running s → s.fbu.passDue = true → exec .admissionPass s = .next t → ∀ f,
    let committed (u : State) : Nat := (u.feeder f).slewCommitted + (u.feeder f).heatCommitted
    let r := s.feeder f
    (committed s ≤ r.limit → committed t ≤ r.limit)
    ∧ ((∀ d, .claim d .stow ∉ s.passUnits) → committed t ≤ committed s ∨ committed t + r.reserve ≤ r.limit)

/-- R153: dish `a` comes before dish `b` in priority order: MELT before GUARD before the rest, within the first two the lower priority
temperature first and a dish without one last, and otherwise in dish order. -/
def ComesFirst (h : Nat → Heater) (a b : Nat) : Prop :=
  let rank (x : Heater) : Nat := if x.state = .melt then 0 else if x.state = .guard then 1 else 2
  let x := h a
  let y := h b
  rank x < rank y ∨ (rank x = rank y ∧
    if rank x = 2 ∨ x.prioTemp = y.prioTemp then a < b
    else match x.prioTemp, y.prioTemp with | some p, some q => p < q | some _, none => True | none, _ => False)

/-- The dishes of the feeder that are not ABSENT, in priority order (R153). -/
def InPriority (s : State) (f : Feeder) (l : List Nat) : Prop :=
  l.Pairwise (ComesFirst s.heater) ∧ ∀ d, d ∈ l ↔ 1 ≤ d ∧ d ≤ 48 ∧ (s.dish d).feeder = f ∧ (s.dish d).state ≠ .absent

/-- R153, R154: an allocation that starts from the heater records of `s` over the dishes `l` of a feeder, in priority order, with the feeder
record `r`: at each dish, `fit` is the largest stage up to the requested one that the running sum of the fits before it leaves room for in
the allowance; a grant above the fit is reduced to it; and a grant below it is raised, only with no shed demand and the ceiling at the
limit, to the largest stage up to the fit whose counted increase the allowance has room for beside heat committed and the raises before
it, where there is one above the grant. -/
def AllocationGives (s : State) (r : FeederRec) (l : List Nat) (fit grant : Nat → Nat) : Prop :=
  ∀ l1 d l2, l = l1 ++ d :: l2 →
    let h := s.heater d
    let power (e : Nat) : Nat := (s.dish e).profile.h
    let fits (n : Nat) : Prop := (l1.map (fun e => fit e * power e)).sum + n * power d ≤ r.allowance
    let raised := (l1.map (fun e => (grant e - (s.heater e).counted) * power e)).sum
    let room (n : Nat) : Prop := r.heatCommitted + raised + (n - h.counted) * power d ≤ r.allowance
    fit d ≤ h.requested ∧ fits (fit d) ∧ (∀ n, fit d < n → n ≤ h.requested → ¬ fits n)
    ∧ (fit d ≤ h.granted → grant d = fit d)
    ∧ (h.granted < fit d → (r.shedDemand ≠ none ∨ r.ceiling ≠ r.limit) → grant d = h.granted)
    ∧ (h.granted < fit d → r.shedDemand = none → r.ceiling = r.limit →
        (grant d = h.granted ∨ (h.granted < grant d ∧ grant d ≤ fit d ∧ room (grant d)))
        ∧ ∀ n, grant d < n → n ≤ fit d → ¬ room n)

/-- R155: the stages cut for a shed demand after an allocation that granted `grant`: none without a demand; with a demand of `S` watts, from
the last dish in priority order upwards, each dish whose H is above 0 being emptied before the next, until the reductions in flight reach
S or nothing is left to cut, and no stage after they have reached it. -/
def CutsMeetTheDemand (s : State) (f : Feeder) (demand : Option Nat) (l : List Nat) (grant cut : Nat → Nat) : Prop :=
  let power (e : Nat) : Nat := (s.dish e).profile.h
  let inFlight : Nat := ((allDishes.filter (fun e => (s.dish e).feeder == f)).map (fun e =>
    ((s.heater e).counted - (grant e - cut e)) * power e)).sum
  (demand = none → ∀ d ∈ l, cut d = 0)
    ∧ (∀ S, demand = some S →
      (∀ l1 d l2, l = l1 ++ d :: l2 → cut d ≤ grant d
        ∧ (0 < cut d → 0 < power d ∧ (∀ e ∈ l2, power e = 0 ∨ cut e = grant e)
            ∧ ((∀ e ∈ l1, cut e = 0) → inFlight < S + power d)))
      ∧ (S ≤ inFlight ∨ ∀ d ∈ l, power d = 0 ∨ cut d = grant d))

/-- R137, R151, R153 to R155: at the end of a pass MLC allocates on every feeder, with the allowance and the ceiling that the admissions have
left, heat committed as it was before the pass, and the shed demand that the pass hands; then it cuts for that demand. The granted stages
are what the two leave; a raise above the counted stage counts at once and a reduction stays counted; each dish with a changed grant is
ordered its granted stage; nothing else of a heater record changes; and each stage cut is handed to ACT with its feeder. -/
def PassAllocatesTheHeaters : Prop :=
  ∀ s t : State, Shape s → Accounts s → HeaterStages s → Running s → s.pbc.heatOff = false → s.fbu.passDue = true →
    exec .admissionPass s = .next t →
    ∃ (order : Feeder → List Nat) (fit grant cut : Nat → Nat),
      (∀ f, InPriority s f (order f)
        ∧ AllocationGives s { t.feeder f with heatCommitted := (s.feeder f).heatCommitted } (order f) fit grant
        ∧ CutsMeetTheDemand s f (t.feeder f).shedDemand (order f) grant cut)
      ∧ (∀ d, (s.dish d).state = .absent → grant d = (s.heater d).granted ∧ cut d = 0)
      ∧ (∀ d, 1 ≤ d → d ≤ 48 →
          t.heater d = { s.heater d with granted := grant d - cut d, counted := max (s.heater d).counted (grant d) }
          ∧ ((t.heater d).granted ≠ (s.heater d).granted → (t.slots d).heatPending.map (·.stage) = some (t.heater d).granted))
      ∧ CountsOf s t .shedStage (allFeeders.flatMap (fun f => List.replicate ((order f).map cut).sum (some f.code)))

/-- R145 to R149, R151, R152, Tables 40 and 41: after reset and after every step a heater asks for at most 4 stages and is granted no more
than is counted. -/
def HeaterStagesStayInOrder : Prop := HeaterStages State.reset ∧ ∀ s t : State, HeaterStages s → step s = .next t → HeaterStages t

end Sys2Proof.Claims

/-- R127, R129, R131, R153 to R155: what an admission pass leaves committed against the limit and the stow reserve, and what the allocation
and the shed demand at its end make of the heater grants: fits, reductions, raises in priority order, and stages cut. (The feeders are
taken in letter order: the model's choice, log entry 30.) -/
def Obligations.PassKeepsCommittedWithinTheLimitAndTheReserve : Prop :=
  PassLeavesTheReserve ∧ HeaterStagesStayInOrder ∧ PassAllocatesTheHeaters

namespace Sys2Proof.Claims

/-- R127, R128, R129, R139: FEEDER_SET refuses a feeder other than A..D and a limit above 400 000; otherwise it writes the carried limit,
clamps the stow reserve and the heat cap, carried or kept, to it, and the ceiling and the allowance follow; a BUDGET notice becomes
pending and a pass due, and a rise of the ceiling above the limit is handed to ACT. -/
def FeederSetWritesTheSettings : Prop :=
  ∀ (s : State) (tag b : Nat) (limit reserve cap : Option Nat), Accounts s → Ready s (.feederSet tag b limit reserve cap) →
    let c : Instr := .feederSet tag b limit reserve cap
    (3 < b ∨ (∃ x, limit = some x ∧ 400000 < x) → Reads c s 0x11 tag (.refused .outOfRange))
    ∧ (∀ f : Feeder, f.code = b → (∀ x, limit = some x → x ≤ 400000) →
      let old := s.feeder f
      let l := limit.getD old.limit
      let r := reserve.getD old.reserve
      let h := cap.getD old.heatCap
      let ceiling := max l (old.slewCommitted + old.heatCommitted)
      Answers c s 0x11 tag (.ok (.feederSet l (min r l) (min h l) ceiling (decide (l < r)) (decide (l < h)))) [.fbu, .act] (fun t =>
        (t.feeder f).limit = l ∧ (t.feeder f).reserve = min r l ∧ (t.feeder f).heatCap = min h l ∧ (t.feeder f).ceiling = ceiling
        ∧ (t.feeder f).slewCommitted = old.slewCommitted ∧ (t.feeder f).heatCommitted = old.heatCommitted ∧ Account t f
        ∧ (∀ g, g ≠ f → t.feeder g = s.feeder g) ∧ t.fbu.passDue = true ∧ .budget f ∈ t.oli.notices
        ∧ CountsOf s t .ceilingHigh (if old.ceiling = old.limit ∧ l < ceiling then [some b] else [])))

/-- R139, R140: FEEDER_STATUS refuses an empty set and otherwise reports the feeders of the set in letter order: the record, whether a pass
is due, the reservations with the class of the admitted claim, and the heated dishes, in dish order. A set with an undefined bit is
refused: log entry 7. -/
def FeederStatusReportsTheAccounts : Prop :=
  ∀ (s : State) (tag : Nat) (m : Mask), Shape s → Ready s (.feederStatus tag m) →
    (m = 0 → Reads (.feederStatus tag m) s 0x12 tag (.refused .emptySet))
    ∧ (16 ≤ m.toNat → Reads (.feederStatus tag m) s 0x12 tag (.refused .outOfRange))
    ∧ (m ≠ 0 → m.toNat < 16 → Reads (.feederStatus tag m) s 0x12 tag (.ok (.feeders
        ((allFeeders.filter (fun f => m.getLsbD f.code)).map (fun f =>
          let r := s.feeder f
          let on := allDishes.filter (fun d => (s.dish d).feeder == f)
          { report := { feeder := f, limit := r.limit, reserve := r.reserve, heatCap := r.heatCap, ceiling := r.ceiling,
                        above := decide (r.limit < r.ceiling), slewCommitted := r.slewCommitted, heatCommitted := r.heatCommitted,
                        committed := r.slewCommitted + r.heatCommitted, allowance := r.allowance, shedDemand := r.shedDemand,
                        waits := r.waits },
            passDue := s.fbu.passDue,
            reservations := on.filterMap (fun d => (s.dish d).reservation.map (fun w =>
              { dish := d, watts := w,
                cls := if (s.dish d).claim.map (·.standing) = some .admitted then (s.dish d).claimClass else none })),
            heaters := (on.filter (fun d => decide (0 < (s.heater d).counted))).map (fun d =>
              { dish := d, counted := (s.heater d).counted, granted := (s.heater d).granted }) })))))

end Sys2Proof.Claims

/-- R127 to R129, R139, R140: FEEDER_SET and FEEDER_STATUS. -/
def Obligations.FeederSetAndFeederStatus : Prop :=
  FeederSetWritesTheSettings ∧ FeederStatusReportsTheAccounts

/-! ## Wind measurement -/

namespace Sys2Proof.Claims

/-- R56, R57: the gust is the rounded mean of the newest three samples, or of all where there are fewer, the sustained speed that of the
whole window; both are absent for an empty window, and neither exceeds the largest sample. -/
def GustAndSustainedAreRoundedMeans : Prop :=
  (∀ w : List Nat, w ≠ [] → sustainedOf w = some ((w.sum + w.length / 2) / w.length))
  ∧ (∀ (w : List Nat) (x y z : Nat), gustOf (w ++ [x, y, z]) = some ((x + y + z + 1) / 3))
  ∧ (∀ x y : Nat, gustOf [x, y] = some ((x + y + 1) / 2) ∧ gustOf [x] = some x)
  ∧ gustOf [] = none ∧ sustainedOf [] = none
  ∧ (∀ (w : List Nat) (m v : Nat), (∀ x ∈ w, x ≤ m) → (gustOf w = some v ∨ sustainedOf w = some v) → v ≤ m)

end Sys2Proof.Claims

/-- R56, R57, R121, R123, R124: the arithmetic of wind, demand and slew time. (Derived from these rules, in the words of none: no figure
exceeds the largest sample, and a demand is at most 60 000 W.) -/
def Obligations.WindFiguresDemandsAndEstimates : Prop :=
  GustAndSustainedAreRoundedMeans ∧ DemandIsBasePlusWindTermUpToDmax ∧ AxisEstimateFollowsTheThreeCases ∧ EstimateExamplesOfTable36

namespace Sys2Proof.Claims

/-- The bytes are a report frame of Table 17 with this sequence, count and status byte, and a CRC that matches. -/
def IsReport (bytes : List Byte) (seq n status : Nat) : Prop :=
  ∃ q n0 n1 st c0 c1 : Byte, bytes = [0xA5, q, n0, n1, st, c0, c1] ∧ seq = q.toNat ∧ n = n0.toNat + 256 * n1.toNat
    ∧ status = st.toNat ∧ crc16 [q, n0, n1, st] = c1 ++ c0

/-- A report that is accepted sets the last sequence, status and time and restarts the slot timer at 1 500 ms (R52). -/
def reported (m : Mast) (now seq : Nat) (st : MastReport) : Mast :=
  { m with lastSeq := some seq, lastReport := some st, lastTime := some now, slotDue := now + 1500 }

/-- The record after a valid sample of speed `v` (R55, R58 to R60, R62): at most 60 samples, oldest first. -/
def sampled (m : Mast) (v : Nat) : Mast :=
  let w := (m.window ++ [v]).drop (m.window.length + 1 - 60)
  let live : Bool := match m.state with | .warming => decide (3 ≤ w.length) | .live => true | .stale => decide (3 ≤ m.validRun + 1)
  { m with window := w, valid := min 4294967295 (m.valid + 1), missedRun := 0, state := if live then .live else m.state,
           validRun := if m.state = .stale then (if live then 0 else m.validRun + 1) else m.validRun,
           peak := match m.peak, gustOf w with | some p, some g => some (max p g) | none, g => g | p, none => p }

/-- The record after a miss (R58 to R60): the fifth in a row makes a WARMING or LIVE mast STALE, a miss while STALE empties the window. -/
def missed (m : Mast) : Mast :=
  let run := min 5 (m.missedRun + 1)
  let m1 := { m with missed := min 4294967295 (m.missed + 1), missedRun := run }
  if m.state = .stale then { m1 with validRun := 0, window := [] }
  else if run = 5 then { m1 with state := .stale, window := [], validRun := 0, missedRun := 0 }
  else m1

/-- The mast `m` has this record in `t`, and every other mast and every block that wind does not reach is unchanged. -/
def MastBecomes (c : Instr) (s : State) (now m : Nat) (x : Mast) : Prop :=
  Happens c s now [.dsv, .pbc, .wmn, .znc, .sls, .fbu, .act] (fun t =>
    t.mast m = x ∧ (∀ k, k ≠ m → t.mast k = s.mast k) ∧ KeepsLink s t)

end Sys2Proof.Claims

/-- R50, R51, R52, R54, R55, R58, R59, R60, R62: a checked report frame with a new sequence is accepted: an OK report adds its speed to the
window, an ICED or FAULT report is a miss. One with the last sequence is only counted as a duplicate. -/
def Obligations.MastReportIsASampleAMissOrADuplicate : Prop :=
  ∀ (s : State) (m : Nat) (bytes : List Byte) (seq n status : Nat), Shape s → Running s → 1 ≤ m → m ≤ 4 →
    IsReport bytes seq n status →
    let c : Instr := .mastReportFrame m bytes false
    let x := s.mast m
    let v := if n = 0 then 0 else min 999 (x.offset + (n * x.gain + 128) / 256)
    (status = 0 → x.lastSeq ≠ some seq → MastBecomes c s s.now m (sampled (reported x s.now seq .ok) v))
    ∧ (status = 1 → x.lastSeq ≠ some seq → MastBecomes c s s.now m (missed (reported x s.now seq .iced)))
    ∧ (status = 2 → x.lastSeq ≠ some seq → MastBecomes c s s.now m (missed (reported x s.now seq .fault)))
    ∧ (status ≤ 2 → x.lastSeq = some seq → Happens c s s.now [.wmn] (fun t =>
        t.mast m = { x with duplicates := min 4294967295 (x.duplicates + 1) } ∧ (∀ k, k ≠ m → t.mast k = s.mast k) ∧ KeepsLink s t))

/-- R50, R53: a frame with a status byte above 2, a CRC that differs, or a framing error at or after its start byte, and a gap within a
frame, add 1 to the mast's rejected frames and change nothing else; the slot timer's expiry is a miss that restarts the timer at 1 000 ms. -/
def Obligations.RejectedFramesAndMissedSlots : Prop :=
  ∀ (s : State) (m : Nat), Shape s → Running s → 1 ≤ m → m ≤ 4 →
    let rejected (c : Instr) : Prop := Happens c s s.now [.wmn] (fun t =>
      t.mast m = { s.mast m with rejected := min 4294967295 ((s.mast m).rejected + 1) } ∧ (∀ k, k ≠ m → t.mast k = s.mast k)
      ∧ KeepsLink s t ∧ t.oli.notices = s.oli.notices)
    (∀ bytes, bytes.length ≤ 6 → rejected (.mastReportFrame m (0xA5 :: bytes) true)) ∧ rejected (.mastFrameGapTimeout m)
    ∧ (∀ bytes seq n status, IsReport bytes seq n status → 2 < status → rejected (.mastReportFrame m bytes false))
    ∧ (∀ q n0 n1 st c0 c1 : Byte, crc16 [q, n0, n1, st] ≠ c1 ++ c0 → rejected (.mastReportFrame m [0xA5, q, n0, n1, st, c0, c1] false))
    ∧ (let now := max s.now (s.mast m).slotDue
       MastBecomes (.slotTimerExpiry m) s now m (missed { s.mast m with slotDue := now + 1000 }))

/-- R62, R64, R65: MAST_SET writes the carried gain and the carried offset, clamped to 50, and touches nothing else of the mast;
MAST_STATUS reports the masts of the set in order and then makes the peak of each absent. A mast set with an undefined bit is refused:
log entry 7. -/
def Obligations.MastSetAndMastStatus : Prop :=
  ∀ (s : State) (tag : Nat), Shape s →
    (∀ (m : Nat) (gain offset : Option Nat), Ready s (.mastSet tag m gain offset) →
      (m = 0 ∨ 4 < m → Reads (.mastSet tag m gain offset) s 0x13 tag (.refused .outOfRange))
      ∧ (1 ≤ m → m ≤ 4 →
        let x := s.mast m
        let k := gain.getD x.gain
        let o := match offset with | none => x.offset | some o => min o 50
        Answers (.mastSet tag m gain offset) s 0x13 tag (.ok (.mastSet k o (match offset with | none => false | some o => decide (50 < o))))
          [.wmn] (fun t => t.mast m = { x with gain := k, offset := o } ∧ (∀ j, j ≠ m → t.mast j = s.mast j)
            ∧ t.oli.notices = s.oli.notices)))
    ∧ (∀ (ms : Mask) (window : Bool), Ready s (.mastStatus tag ms window) →
      (ms = 0 → Reads (.mastStatus tag ms window) s 0x14 tag (.refused .emptySet))
      ∧ (16 ≤ ms.toNat → Reads (.mastStatus tag ms window) s 0x14 tag (.refused .outOfRange))
      ∧ (ms ≠ 0 → ms.toNat < 16 →
        let numbers := ((List.range 4).filter (fun i => ms.getLsbD i)).map (· + 1)
        Answers (.mastStatus tag ms window) s 0x14 tag (.ok (.masts (numbers.map (fun m =>
          let x := s.mast m
          { mast := m, state := x.state, gain := x.gain, offset := x.offset, lastSeq := x.lastSeq, lastReport := x.lastReport,
            since := x.lastTime.map (fun u => min 65535 (s.now - u)), samples := x.window.length, newest := x.window.getLast?,
            largest := x.window.max?, gust := gustOf x.window, sustained := sustainedOf x.window, peak := x.peak,
            validRun := x.validRun, missedRun := x.missedRun, valid := x.valid, missed := x.missed, duplicates := x.duplicates,
            rejected := x.rejected, window := if window then some x.window else none })))) [.wmn] (fun t =>
          (∀ m ∈ numbers, t.mast m = { s.mast m with peak := none }) ∧ (∀ m, m ∉ numbers → t.mast m = s.mast m)
          ∧ t.oli.notices = s.oli.notices)))

/-! ## Wind zones and stowing -/

namespace Sys2Proof.Claims

/-- Whether the dish's last status lies within 100 mdeg of the zone's stow position (line 5 of Table 25). -/
def nearStow (z : Zone) (r : Dish) : Bool :=
  match r.last with
  | none => false
  | some st => (st.el - z.stowEl).natAbs ≤ 100 && (match z.stowAz with | none => true | some az => (st.az - az).natAbs ≤ 100)

/-- The member that Table 25 gives dish `d` of zone `z` (R79, R80). -/
def placeInWave (s : State) (z d : Nat) : WaveState :=
  let r := s.dish d
  let blocked : Bool := (match r.last with | some x => x.key != .clear | none => false)
    || s.lkt.entries.any (fun e => (e.state == .active || e.state == .releasing) && e.motion && inSet e.scope d)
  let admitted : Bool := r.claim.map (·.standing) == some .admitted
  let fresh : WaveState :=
    if r.state ≠ .ready then .excused (.state r.state) else if blocked then .excused .locked
    else if nearStow (s.zone z) r then .done else .waiting
  if (match r.claim with | some { ref := .host _, .. } => true | _ => false) || r.task == some .shed then
    (if admitted then .preemptWait else fresh)
  else if r.task == some .stow then (if admitted then .admitted else .waiting)
  else fresh

/-- An open member of a wave (R82). -/
def WaveOpen (st : WaveState) : Bool := st == .waiting || st == .preemptWait || st == .admitted

/-- What an assessment by Table 25 leaves of the dish of a member that took the state `st` (R79, R80; log entry 10 for a PREEMPT_WAIT member,
whose dish holds no claim): the member holds the dish's claim, or the dish is being stopped with its claim gone. -/
def Assessed (s t : State) (z d : Nat) (st : WaveState) : Prop :=
  (st = .waiting ∨ st = .admitted → ∃ k, (t.dish d).claim = some k ∧ k.ref = .wave z ∧ (k.standing = .admitted ↔ st = .admitted))
    ∧ (st = .preemptWait → (t.dish d).claim = none ∧ (t.dish d).state = .stopping ∧ (t.dish d).reservation = (s.dish d).reservation)

/-- R77 to R82, R188: ZONE_STOW adds MANUAL. On a zone whose cause set was not empty nothing else of the zone changes; on one whose cause set
was empty and that has no open wave, a wave is created with a member for each dish of the zone, in dish order, placed by Table 25, and the
zone is STOWING, or STOWED at once where no member is open. The wave is handed to ACT, and to the timing monitor: before the members are
assessed (log entry 27). A zone without dishes leaves an empty outcome list (log entry 12). -/
def ZoneStowCreatesAWave : Prop :=
  ∀ (s : State) (tag z : Nat), Shape s → ClaimsFit s → Ready s (.zoneStow tag z) →
    let x := s.zone z
    let c : Instr := .zoneStow tag z
    let causes : Causes := { x.causes with manual := true }
    (z = 0 ∨ 8 < z → Reads c s 0x1A tag (.refused .outOfRange))
    ∧ (1 ≤ z → z ≤ 8 → x.causes.manual = true → Reads c s 0x1A tag (.ok (.causes x.causes)))
    ∧ (1 ≤ z → z ≤ 8 → x.causes.manual = false → (x.causes.wind = true ∨ x.causes.noSource = true) →
        Answers c s 0x1A tag (.ok (.causes causes)) [.znc, .act] (fun t =>
          t.zone z = { x with causes := causes } ∧ (∀ y, y ≠ z → t.zone y = s.zone y) ∧ .zone z ∈ t.oli.notices))
    ∧ (1 ≤ z → z ≤ 8 → x.causes = {} → x.wave = none →
        let dishes := allDishes.filter (fun d => (s.dish d).zone == z)
        let ms := dishes.map (fun d => ({ dish := d, state := placeInWave s z d } : WaveMember))
        let opened := ms.any (fun m => WaveOpen m.state)
        Answers c s 0x1A tag (.ok (.causes causes)) [.dsv, .pbc, .znc, .sls, .fbu, .act] (fun t =>
          t.zone z = { x with
            causes := causes, state := if opened then .stowing else .stowed,
            wave := if opened then some { created := s.now, moment := s.moment + 1, members := ms } else none,
            lastOutcome := if opened then x.lastOutcome else some ms }
          ∧ (∀ y, y ≠ z → t.zone y = s.zone y) ∧ .zone z ∈ t.oli.notices ∧ t.fbu.passDue = true
          ∧ (∀ m ∈ ms, Assessed s t z m.dish m.state) ∧ (∀ d, (s.dish d).zone ≠ z → t.dish d = s.dish d)
          ∧ CountsOnly s t .stowOrder [some (z - 1)]
          ∧ ((∀ d ∈ dishes, (s.dish d).claim = none) → ∃ m, MonitorAtCreation s.act.monitor m s.now (.wave z) s.act.monitor.stow
              ∧ (opened = true → t.act.monitor = m) ∧ (opened = false → MonitorAtCompletion m t.act.monitor s.now (.wave z)))))

/-- R78, R80, R82, R83: a cause that comes to a zone with an empty cause set whose wave from an earlier stow is still open keeps that wave: each
closed member whose dish is still in the zone is assessed again by Table 25, open members and members of dishes that left keep their
states, and the claims of preemptible dishes that joined the zone end without a member. No wave is handed to ACT. -/
def ZoneStowReassessesAnOpenWave : Prop :=
  ∀ (s : State) (tag z : Nat) (w : Wave), Shape s → ClaimsFit s → Ready s (.zoneStow tag z) → 1 ≤ z → z ≤ 8 →
    let x := s.zone z
    x.causes = {} → x.wave = some w → (w.members.map (·.dish)).Nodup → (∀ m ∈ w.members, 1 ≤ m.dish ∧ m.dish ≤ 48) →
    let again (m : WaveMember) : Bool := !WaveOpen m.state && (s.dish m.dish).zone == z
    let ms := w.members.map (fun m => if again m then { m with state := placeInWave s z m.dish } else m)
    let opened := ms.any (fun m => WaveOpen m.state)
    let joined (d : Nat) : Prop := (s.dish d).zone = z ∧ d ∉ w.members.map (·.dish)
      ∧ ((∃ id, (s.dish d).claim.map (·.ref) = some (.host id)) ∨ (s.dish d).task = some .shed)
    Answers (.zoneStow tag z) s 0x1A tag (.ok (.causes { manual := true })) [.dsv, .pbc, .znc, .sls, .fbu, .act] (fun t =>
      t.zone z = { x with
        causes := { manual := true }, state := if opened then .stowing else .stowed,
        wave := if opened then some { w with members := ms } else none, lastOutcome := if opened then x.lastOutcome else some ms }
      ∧ (∀ y, y ≠ z → t.zone y = s.zone y) ∧ .zone z ∈ t.oli.notices ∧ t.fbu.passDue = true
      ∧ (∀ m ∈ w.members, again m = true → Assessed s t z m.dish (placeInWave s z m.dish))
      ∧ (∀ d, joined d → (t.dish d).claim = none ∧ ((s.dish d).claim.map (·.standing) = some .admitted →
          (t.dish d).state = .stopping ∧ (t.dish d).reservation = (s.dish d).reservation))
      ∧ (∀ d, ¬ joined d → (∀ m ∈ w.members, m.dish = d → again m = false) → t.dish d = s.dish d)
      ∧ CountsOf s t .stowOrder [])

/-- R18, R81, R82, R188: the reply that completes the slew of a wave member makes it DONE. A wave with another member open goes on; with none
it closes: its list is the last outcome, the zone is STOWED where it has a cause, and the wave is handed to the timing monitor. -/
def WaveClosesWithItsLastMember : Prop :=
  ∀ (s : State) (d now z : Nat) (chars : List PlChar) (st : Status) (cl : OpenClaim) (w : Wave),
    Shape s → Running s → Addressed s .poll d now → IsStatus chars d st .none →
    st.owner = .remote → st.fault = 0 → st.key = .clear → (∀ p, (s.dish d).last = some p → p.key = .clear) →
    st.referenced = true → st.inPosition = true →
    let x := s.dish d
    x.state = .slewing → x.acceptedSeq = some st.echo → x.claim = some cl → cl.ref = .wave z → cl.standing = .admitted →
    x.zone = z → 1 ≤ z → z ≤ 8 → (s.zone z).wave = some w →
    let ms := w.members.map (fun m => if m.dish = d then { m with state := .done } else m)
    ∃ t, exec (.plReplyReceived chars) s = .next t ∧ WaveAfter s t z w ms ∧ (t.dish d).claim.map (·.ref) ≠ some (.wave z)
      ∧ (ms.any (fun m => WaveOpen m.state) = true → t.act.monitor = s.act.monitor)
      ∧ (ms.any (fun m => WaveOpen m.state) = false → MonitorAtCompletion s.act.monitor t.act.monitor now (.wave z))

end Sys2Proof.Claims

/-- R77 to R83: the creation of a wave by ZONE_STOW, the reassessment of one that is still open, and the close with the last member. -/
def Obligations.WavesAreCreatedReassessedAndClosed : Prop :=
  ZoneStowCreatesAWave ∧ ZoneStowReassessesAnOpenWave ∧ WaveClosesWithItsLastMember

namespace Sys2Proof.Claims

/-- The zone after its cause set becomes `causes` by a removal (R76): its state follows the source mast where nothing is left. -/
def Uncaused (s t : State) (z : Nat) (x : Zone) (causes : Causes) : Prop :=
  let quiet : ZoneState :=
    match x.source.bind (fun m => sustainedOf (s.mast m).window) with
    | some v => if (s.activeRow z).w ≤ v then .watch else .calm
    | none => .calm
  t.zone z = { x with causes := causes, state := if causes = {} then quiet else x.state }
    ∧ (∀ y, y ≠ z → t.zone y = s.zone y)
    ∧ (∀ d, t.dish d = (if causes = {} ∧ (s.dish d).zone = z ∧ (s.dish d).task = some .stow
            ∧ (s.dish d).claim.map (·.standing) = some .waiting
          then { s.dish d with claim := none, task := none, slewTimeout := none, acceptedSeq := none } else s.dish d))
    ∧ .zone z ∈ t.oli.notices

end Sys2Proof.Claims

/-- R75, R76, R77: ZONE_RELEASE is refused for a zone outside 1..8 and for one without MANUAL; it removes MANUAL from a zone that holds it, and the expiry of the release timer removes WIND and the timer. A
cause that remains keeps the zone as it is; with none left the zone is WATCH or CALM by the sustained speed of its source, its waiting
STOW tasks are dropped, and an open wave stays. -/
def Obligations.ZoneReleaseAndTheReleaseTimerRemoveTheirCause : Prop :=
  ∀ (s : State) (z : Nat), Shape s → ClaimsFit s →
    let x := s.zone z
    let named : Prop := 1 ≤ z ∧ z ≤ 8
    (∀ tag, Ready s (.zoneRelease tag z) →
      let causes : Causes := { x.causes with manual := false }
      (¬ named → Reads (.zoneRelease tag z) s 0x1B tag (.refused .outOfRange))
      ∧ (named → x.causes.manual = false → Reads (.zoneRelease tag z) s 0x1B tag (.refused .state))
      ∧ (named → x.causes.manual = true → Answers (.zoneRelease tag z) s 0x1B tag (.ok (.causes causes)) [.dsv, .znc, .fbu, .act] (fun t =>
          Uncaused s t z x causes)))
    ∧ (∀ due, named → Running s → x.releaseDue = some due → x.causes.wind = true →
        Happens (.releaseTimerExpiry z) s (max s.now due) [.dsv, .znc, .fbu, .act] (fun t =>
          Uncaused s t z { x with releaseDue := none } { x.causes with wind := false } ∧ KeepsLink s t))

namespace Sys2Proof.Claims

/-- R73, R74, R76: zone `x` becomes `y` in an evaluation at `now` with the sustained speed `v` and the gust `g` of its source against `row`: a
stow level adds WIND, ends NO_SOURCE and cancels the release timer; with WIND present the release levels start the timer, or leave it
running, and figures between cancel it; with no cause left the zone is WATCH from W on and CALM below. -/
def Evaluated (x y : Zone) (row : Row) (now v g : Nat) : Prop :=
  let stow : Prop := row.s1 ≤ v ∨ row.g1 ≤ g
  let below : Prop := v ≤ row.s0 ∧ g ≤ row.g0
  (stow → y.causes = { x.causes with wind := true, noSource := false } ∧ y.releaseDue = none
      ∧ (x.causes = {} → y.state = .stowing ∨ y.state = .stowed) ∧ (x.causes ≠ {} → y.state = x.state))
  ∧ (¬ stow → x.causes.wind = true → y.causes = { x.causes with noSource := false } ∧ y.state = x.state
      ∧ (below → y.releaseDue = some (x.releaseDue.getD (now + row.th * 1000))) ∧ (¬ below → y.releaseDue = none))
  ∧ (¬ stow → x.causes.wind = false → y.causes = { x.causes with noSource := false } ∧ y.releaseDue = x.releaseDue
      ∧ (x.causes.manual = true → y.state = x.state)
      ∧ (x.causes.manual = false → y.state = (if row.w ≤ v then .watch else .calm)))

/-- R73, R76: zone `x` becomes `y` in an evaluation without a source and with no candidate WARMING: NO_SOURCE is added and the release timer
cancelled; a zone without a cause before is then being stowed. -/
def EvaluatedSourceless (x y : Zone) : Prop :=
  y.causes = { x.causes with noSource := true } ∧ y.releaseDue = none
    ∧ (x.causes = {} → y.state = .stowing ∨ y.state = .stowed) ∧ (x.causes ≠ {} → y.state = x.state)

/-- Causes, release timer and state of a zone are left as they are. Where the zone is awaiting and stands in WATCH that is the model's choice of
log entry 33 (R73 against note 1 of Table 24). -/
def LeftAsItIs (x y : Zone) : Prop := y.causes = x.causes ∧ y.releaseDue = x.releaseDue ∧ y.state = x.state

/-- The state of mast `m`; none for a number that names no mast, such as an unset fallback. -/
def stateIn (s : State) (m : Nat) : Option MastState := if 1 ≤ m ∧ m ≤ 4 then some (s.mast m).state else none

/-- R67: the source that masts in these states give a zone. -/
def sourceOf (states : Nat → Option MastState) (primary fallback : Nat) : Option Nat :=
  if states primary = some .live then some primary else if states fallback = some .live then some fallback else none

/-- R52, R53: a report or a missed slot of mast `m` at `now` leaves it the record `r`; the last argument says whether it adds a sample. -/
inductive MastEvent (s : State) (m : Nat) : Instr → Nat → Mast → Bool → Prop
  | sample (bytes : List Byte) (seq n : Nat) : IsReport bytes seq n 0 → (s.mast m).lastSeq ≠ some seq →
      MastEvent s m (.mastReportFrame m bytes false) s.now
        (sampled (reported (s.mast m) s.now seq .ok)
          (if n = 0 then 0 else min 999 ((s.mast m).offset + (n * (s.mast m).gain + 128) / 256))) true
  | iced (bytes : List Byte) (seq n : Nat) : IsReport bytes seq n 1 → (s.mast m).lastSeq ≠ some seq →
      MastEvent s m (.mastReportFrame m bytes false) s.now (missed (reported (s.mast m) s.now seq .iced)) false
  | fault (bytes : List Byte) (seq n : Nat) : IsReport bytes seq n 2 → (s.mast m).lastSeq ≠ some seq →
      MastEvent s m (.mastReportFrame m bytes false) s.now (missed (reported (s.mast m) s.now seq .fault)) false
  | slot : MastEvent s m (.slotTimerExpiry m) (max s.now (s.mast m).slotDue)
      (missed { s.mast m with slotDue := max s.now (s.mast m).slotDue + 1000 }) false

end Sys2Proof.Claims

/-- R61, R63, R67, R72, R73, R74, R76: what a report or a missed slot of a mast makes of each zone. A mast that changes its state has every zone
that names it select its source again. A zone is evaluated once, where its source changed or is the mast that gained a sample, or where
it names the mast and is left sourceless by an update; an awaiting zone and every other zone keep causes, state and timer. A LIVE mast
that becomes STALE is handed to ACT. (That an awaiting zone in WATCH keeps its state is the model's choice, log entry 33: R73 against note
1 of Table 24.) -/
def Obligations.MastUpdatesSelectSourcesAndEvaluateZones : Prop :=
  ∀ (s : State) (m z now : Nat) (c : Instr) (r : Mast) (added : Bool), Shape s → ClaimsFit s → Running s → 1 ≤ m → m ≤ 4 → 1 ≤ z → z ≤ 8 →
    MastEvent s m c now r added →
    let x := s.zone z
    let names : Prop := x.primary = m ∨ x.fallback = m
    let states (k : Nat) : Option MastState := if k = m then some r.state else stateIn s k
    let window (k : Nat) : List Nat := if k = m then r.window else (s.mast k).window
    let source := if r.state ≠ (s.mast m).state ∧ names then sourceOf states x.primary x.fallback else x.source
    let updates : Prop := added = true ∨ r.state ≠ (s.mast m).state ∨ r.window ≠ (s.mast m).window
    let awaiting : Prop := states x.primary = some .warming ∨ states x.fallback = some .warming
    ∃ t, exec c s = .next t ∧ t.mast m = r ∧ (t.zone z).source = source ∧ (source ≠ x.source → .zone z ∈ t.oli.notices)
      ∧ CountsOf s t .mastStale (if (s.mast m).state = .live ∧ r.state = .stale then [some (m - 1)] else [])
      ∧ (∀ k v g, source = some k → (source ≠ x.source ∨ (added = true ∧ k = m)) → sustainedOf (window k) = some v →
          gustOf (window k) = some g → Evaluated x (t.zone z) (s.activeRow z) now v g)
      ∧ (∀ k, source = some k → source = x.source → (added = false ∨ k ≠ m) → LeftAsItIs x (t.zone z))
      ∧ (source = none → names → updates → ¬ awaiting → EvaluatedSourceless x (t.zone z))
      ∧ (source = none → (¬ names ∨ ¬ updates ∨ awaiting) → LeftAsItIs x (t.zone z))

/-- R67, R68: ZONE_SET is refused for a zone, primary, fallback or stow azimuth outside its range and where primary and fallback would be
equal (both carried: log entry 19); otherwise it writes the carried fields, the stow elevation clamped, and replies with the settings in
force. A write that changes primary or fallback selects the source again, and a changed source evaluates the zone (R72 to R74). A write of
stow fields alone changes nothing else. (That a zone in WATCH which the write makes awaiting keeps its state is the model's choice, log
entry 33: R73 against note 1 of Table 24.) -/
def Obligations.ZoneSetWritesTheSettings : Prop :=
  ∀ (s : State) (tag z : Nat) (e : ZoneEdit), Shape s → Ready s (.zoneSet tag z e) →
    let x := s.zone z
    let p := e.primary.getD x.primary
    let f := e.fallback.getD x.fallback
    let el := match e.stowEl with | none => x.stowEl | some v => max 5000 (min 90000 v)
    let az := match e.stowAz with | none => x.stowAz | some v => v
    let cut : Bool := match e.stowEl with | none => false | some v => decide (v < 5000 ∨ 90000 < v)
    let bad : Prop := z = 0 ∨ 8 < z ∨ (∃ v, e.primary = some v ∧ (v = 0 ∨ 4 < v)) ∨ (∃ v, e.fallback = some v ∧ 4 < v)
      ∨ (∃ v, e.stowAz = some (some v) ∧ (v < -270000 ∨ 270000 < v))
      ∨ ((e.primary.isSome = true ∨ e.fallback.isSome = true) ∧ p = f)
    let source := if p = x.primary ∧ f = x.fallback then x.source else sourceOf (stateIn s) p f
    let awaiting : Prop := stateIn s p = some .warming ∨ stateIn s f = some .warming
    let answer := Result.ok (.zoneSet { primary := p, fallback := f, stowEl := el, stowAz := az } cut)
    (bad → Reads (.zoneSet tag z e) s 0x15 tag (.refused .outOfRange))
    ∧ (¬ bad → Answers (.zoneSet tag z e) s 0x15 tag answer [.dsv, .pbc, .znc, .sls, .fbu, .act] (fun t =>
        (t.zone z).primary = p ∧ (t.zone z).fallback = f ∧ (t.zone z).stowEl = el ∧ (t.zone z).stowAz = az
        ∧ (t.zone z).source = source ∧ (source ≠ x.source → .zone z ∈ t.oli.notices)
        ∧ (source = x.source → LeftAsItIs x (t.zone z))
        ∧ (∀ k v g, source ≠ x.source → source = some k → sustainedOf (s.mast k).window = some v → gustOf (s.mast k).window = some g →
            Evaluated x (t.zone z) (s.activeRow z) s.now v g)
        ∧ (source ≠ x.source → source = none → ¬ awaiting → EvaluatedSourceless x (t.zone z))
        ∧ (source ≠ x.source → source = none → awaiting → LeftAsItIs x (t.zone z))))
    ∧ (¬ bad → e.primary = none → e.fallback = none → Answers (.zoneSet tag z e) s 0x15 tag answer [.znc] (fun t =>
        t.zone z = { x with stowEl := el, stowAz := az } ∧ (∀ y, y ≠ z → t.zone y = s.zone y) ∧ t.oli.notices = s.oli.notices))

namespace Sys2Proof.Claims

/-- R69, R70: BANK_WRITE_ROW is refused for a bank, zone or speed outside its range, then with BAD_THRESHOLDS for a row that breaks the four
conditions; otherwise the row is replaced, a running release timer restarting where the bank is active. BANK_SELECT makes a bank active,
every running release timer restarting at the new row's Th; the active bank selected again changes nothing. -/
def BankWritesAndSelection : Prop :=
  ∀ (s : State) (tag b : Nat), Shape s →
    (∀ (z : Nat) (r : Row), Ready s (.bankWriteRow tag b z r) →
      let c : Instr := .bankWriteRow tag b z r
      let inside : Prop := b ≤ 1 ∧ 1 ≤ z ∧ z ≤ 8 ∧ r.w ≤ 999 ∧ r.s1 ≤ 999 ∧ r.g1 ≤ 999 ∧ r.s0 ≤ 999 ∧ r.g0 ≤ 999
      let ordered : Prop := r.s0 < r.s1 ∧ r.g0 < r.g1 ∧ r.s0 ≤ r.w ∧ r.w ≤ r.s1 ∧ 60 ≤ r.th ∧ r.th ≤ 3600
      let active : Prop := s.znc.active = (if b = 0 then .a else .b)
      (¬ inside → Reads c s 0x17 tag (.refused .outOfRange)) ∧ (inside → ¬ ordered → Reads c s 0x17 tag (.refused .badThresholds))
      ∧ (inside → ordered → Answers c s 0x17 tag (.ok .accepted) [.znc] (fun t =>
          t.znc.bankA = (if b = 0 then s.znc.bankA.set (z - 1) r else s.znc.bankA)
          ∧ t.znc.bankB = (if b = 1 then s.znc.bankB.set (z - 1) r else s.znc.bankB) ∧ t.znc.active = s.znc.active
          ∧ (∀ y, y ≠ z → t.zone y = s.zone y)
          ∧ (¬ active ∨ (s.zone z).releaseDue = none → t.zone z = s.zone z)
          ∧ (active → (s.zone z).releaseDue.isSome = true → t.zone z = { s.zone z with releaseDue := some (s.now + r.th * 1000) }))))
    ∧ (Ready s (.bankSelect tag b) →
      let c : Instr := .bankSelect tag b
      let k : Bank := if b = 0 then .a else .b
      (2 ≤ b → Reads c s 0x19 tag (.refused .outOfRange)) ∧ (b ≤ 1 → s.znc.active = k → Reads c s 0x19 tag (.ok .accepted))
      ∧ (b ≤ 1 → s.znc.active ≠ k → Answers c s 0x19 tag (.ok .accepted) [.znc] (fun t =>
          t.znc.active = k ∧ t.znc.bankA = s.znc.bankA ∧ t.znc.bankB = s.znc.bankB
          ∧ (∀ z, (s.zone z).releaseDue = none → t.zone z = s.zone z)
          ∧ (∀ z, 1 ≤ z → z ≤ 8 → (s.zone z).releaseDue.isSome = true → t.zone z = { s.zone z with
              releaseDue := some (s.now + ((if b = 0 then s.znc.bankA else s.znc.bankB).getD (z - 1) defaultRow).th * 1000) }))))

/-- R71, R87, R88: BANK_READ returns the eight rows of a bank and the selection; ZONE_STATUS reports each zone of the set in zone order:
its settings, its record, the figures of its source, and its open wave. Neither changes anything. -/
def ZonesAndBanksAreReported : Prop :=
  ∀ (s : State) (tag : Nat), Shape s →
    (∀ b, Ready s (.bankRead tag b) →
      (2 ≤ b → Reads (.bankRead tag b) s 0x18 tag (.refused .outOfRange))
      ∧ (b = 0 → Reads (.bankRead tag b) s 0x18 tag (.ok (.bank s.znc.bankA s.znc.active)))
      ∧ (b = 1 → Reads (.bankRead tag b) s 0x18 tag (.ok (.bank s.znc.bankB s.znc.active))))
    ∧ (∀ m : Mask, Ready s (.zoneStatus tag m) →
      (m = 0 → Reads (.zoneStatus tag m) s 0x16 tag (.refused .emptySet))
      ∧ (m ≠ 0 → Reads (.zoneStatus tag m) s 0x16 tag (.ok (.zones
          ((((List.range 8).filter (fun i => m.getLsbD i)).map (· + 1)).map (fun z =>
            let x := s.zone z
            let warming (k : Nat) : Bool := decide (1 ≤ k) && decide (k ≤ 4) && (s.mast k).state == .warming
            let open' (st : WaveState) : Nat := match x.wave with | none => 0 | some w => w.members.countP (fun m => m.state == st)
            { settings := { primary := x.primary, fallback := x.fallback, stowEl := x.stowEl, stowAz := x.stowAz },
              report := { zone := z, state := x.state, causes := x.causes, source := x.source,
                          condition := if x.source.isSome then .sourced
                            else if warming x.primary || warming x.fallback then .awaiting else .sourceless,
                          active := s.znc.active, releaseLeft := x.releaseDue.map (fun u => (u - s.now + 999) / 1000),
                          waveOpen := x.wave.isSome, waiting := open' .waiting, preemptWait := open' .preemptWait,
                          admitted := open' .admitted, lastOutcome := x.lastOutcome },
              gust := x.source.bind (fun k => gustOf (s.mast k).window),
              sustained := x.source.bind (fun k => sustainedOf (s.mast k).window),
              wave := x.wave.map (fun w => (w.created, w.members)) }))))))

end Sys2Proof.Claims

/-- R69, R70, R71, R87, R88: the threshold banks, and the reports of banks and zones. (BANK_READ of a bank above 1 is refused: log entry 7. A
wave's creation time does not saturate: log entry 38.
The release time left rounded up to seconds, and a wave's creation time in ms of the time base: log entry 13.) -/
def Obligations.BanksAndZonesAreSetAndReported : Prop :=
  BankWritesAndSelection ∧ ZonesAndBanksAreReported

/-! ## Snow melting and shedding -/

namespace Sys2Proof.Claims

/-- R144: the heater of a dish is DISABLED while its heat enable is off; with heat enable on it is BLOCKED while a heat-blocking entry
covers the dish or its key is at ALL_OFF, and in a surface state otherwise. -/
def HeaterGate (s : State) (d : Nat) : Prop :=
  let shut : Prop := covered s (·.heat) d = true ∨ ∃ x, (s.dish d).last = some x ∧ x.key = .allOff
  ((s.heater d).state = .disabled ↔ (s.dish d).profile.heatEnable = false)
    ∧ ((s.dish d).profile.heatEnable = true → ((s.heater d).state = .blocked ↔ shut))

end Sys2Proof.Claims

/-- R144: every step keeps every heater in the state that heat enable, coverage and key give it. -/
def Obligations.EveryStepKeepsHeatersInTheirGates : Prop :=
  ∀ s t : State, Shape s → (∀ d, 1 ≤ d → d ≤ 48 → HeaterGate s d) → step s = .next t → ∀ d, 1 ≤ d → d ≤ 48 → HeaterGate t d

namespace Sys2Proof.Claims

def ResetHasHeatersInTheirGates : Prop := ∀ d, 1 ≤ d → d ≤ 48 → HeaterGate State.reset d

end Sys2Proof.Claims

/-- The state after reset has the shape of the machine, keeps every feeder's account, has every claim in accord with its dish's state and
every heater in its gate. -/
def Obligations.ResetHasTheInvariants : Prop :=
  ResetHasTheShape ∧ ResetHasTheAccounts ∧ ResetHasClaimsFitToTheirStates ∧ ResetHasHeatersInTheirGates

/-- R143, R161: HEAT_POLICY_SET is refused for a carried value outside its range and for bands or guard levels out of order once applied,
and otherwise writes the carried values. HEAT_STATUS reports the policy, the dishes and the feeders named, and is refused where both sets
are empty. A feeder set with an undefined bit is refused: log entry 7. The hold left rounded up and the time in MELT rounded down: log
entry 13. -/
def Obligations.HeatPolicyIsSetAndHeatIsReported : Prop :=
  ∀ (s : State) (tag : Nat), Shape s →
    (∀ e : PolicyEdit, Ready s (.heatPolicySet tag e) →
      let c : Instr := .heatPolicySet tag e
      let x := s.mlc.policy
      let y : Policy :=
        { bandHigh := e.bandHigh.getD x.bandHigh, bandLow := e.bandLow.getD x.bandLow, guardOn := e.guardOn.getD x.guardOn,
          guardOff := e.guardOff.getD x.guardOff, minMelt := e.minMelt.getD x.minMelt, sensorHold := e.sensorHold.getD x.sensorHold }
      let hot (v : Option Int) : Prop := ∃ q, v = some q ∧ (q < -400 ∨ 600 < q)
      let long (v : Option Nat) : Prop := ∃ q, v = some q ∧ 3600 < q
      let bad : Prop := hot e.bandHigh ∨ hot e.bandLow ∨ hot e.guardOn ∨ hot e.guardOff ∨ long e.minMelt ∨ long e.sensorHold
        ∨ y.bandHigh ≤ y.bandLow ∨ y.guardOff ≤ y.guardOn
      (bad → Reads c s 0x1C tag (.refused .outOfRange))
      ∧ (¬ bad → Answers c s 0x1C tag (.ok (.policy y)) [.mlc] (fun t =>
          t.mlc = { s.mlc with policy := y } ∧ t.oli.notices = s.oli.notices)))
    ∧ (∀ (ds : DishSet) (m : Mask), Ready s (.heatStatus tag ds m) →
      let c : Instr := .heatStatus tag ds m
      (16 ≤ m.toNat → Reads c s 0x1E tag (.refused .outOfRange)) ∧ (ds = 0 → m = 0 → Reads c s 0x1E tag (.refused .emptySet))
      ∧ (m.toNat < 16 → ds ≠ 0 ∨ m ≠ 0 → Reads c s 0x1E tag (.ok (.heat s.mlc.policy
          ((members ds).map (fun d =>
            let r := s.dish d
            let h := s.heater d
            { dish := d, state := h.state, requested := h.requested, granted := h.granted, counted := h.counted,
              applied := r.last.map (·.applied), prioTemp := h.prioTemp,
              inMelt := h.meltEntry.map (fun u => min 65535 ((s.now - u) / 1000)),
              hold := (match h.hold with | .running due => .running ((due - s.now + 999) / 1000) | k => k), lastShed := h.lastShed,
              shedTask := if r.task = some .shed then r.claim.map (·.standing) else none, melts := h.melts,
              shedsCreated := h.shedsCreated, shedsSkipped := h.shedsSkipped, shedsDone := h.shedsDone }))
          ((allFeeders.filter (fun f => m.getLsbD f.code)).map (fun f =>
            let r := s.feeder f
            { feeder := f, allowance := r.allowance, heatCommitted := r.heatCommitted,
              inFlight := (((s.dsv.dishes.zip s.mlc.heaters).filter (fun x => x.1.feeder == f)).map (fun x =>
                (x.2.counted - x.2.granted) * x.1.profile.h)).sum,
              shedDemand := r.shedDemand,
              unmet := allDishes.countP (fun d => (s.dish d).feeder == f && decide ((s.heater d).granted < (s.heater d).requested)),
              raisesAllowed := r.shedDemand.isNone && decide (r.ceiling = r.limit) }))))))

namespace Sys2Proof.Claims

/-- The stage that a temperature asks for in MELT (Table 41). -/
def bandStage (p : Policy) (temp : Int) : Nat := if p.bandHigh ≤ temp then 2 else if temp < p.bandLow then 4 else 3

end Sys2Proof.Claims

/-- R144, R158, R159: HEAT_ENABLE writes the carried enables to every dish of the set and lists, in dish order, each dish whose heater
state changed. Heat enable off makes a dish DISABLED with nothing requested or granted; heat enable on takes a DISABLED dish to BLOCKED
or to the surface state of its last status, also while the dish is ABSENT, which is the model's choice of log entry 28; other heaters of
the set keep their states. Shed enable turned off drops a waiting SHED task. A dish outside the set keeps its record. -/
def Obligations.HeatEnableMovesTheHeatersOfTheSet : Prop :=
  ∀ (s : State) (tag : Nat) (ds : DishSet) (heat shed : Option Bool), Shape s → ClaimsFit s → (∀ d, 1 ≤ d → d ≤ 48 → HeaterGate s d) →
    Ready s (.heatEnable tag ds heat shed) →
    let c : Instr := .heatEnable tag ds heat shed
    let opened (d : Nat) : HeaterState :=
      if covered s (·.heat) d then .blocked
      else
        match (s.dish d).last with
        | none => .off
        | some x =>
          if x.key = .allOff then .blocked else if x.surface = .ice then .melt
          else if x.surface = .wet ∧ x.temp ≤ s.mlc.policy.guardOn then .guard else .off
    let after (d : Nat) : HeaterState :=
      match heat with
      | none => (s.heater d).state
      | some false => .disabled
      | some true => if (s.heater d).state = .disabled then opened d else (s.heater d).state
    (ds = 0 → Reads c s 0x1D tag (.refused .emptySet))
    ∧ (ds ≠ 0 → Answers c s 0x1D tag
        (.ok (.heatChanged (((members ds).filter (fun d => after d != (s.heater d).state)).map (fun d => (d, after d)))))
        [.dsv, .pbc, .fbu, .mlc, .act] (fun t =>
          (∀ d, inSet ds d = false → t.dish d = s.dish d)
          ∧ (∀ d, inSet ds d = true → ∃ p, p = (s.dish d).profile ∧ (t.dish d).profile =
              { p with heatEnable := heat.getD p.heatEnable, shedEnable := shed.getD p.shedEnable }
              ∧ (t.dish d).claim = (if shed = some false ∧ p.shedEnable = true ∧ (s.dish d).task = some .shed
                  ∧ (s.dish d).claim.map (·.standing) = some .waiting then none else (s.dish d).claim)
              ∧ (t.dish d).state = (s.dish d).state ∧ (t.dish d).reservation = (s.dish d).reservation
              ∧ (t.heater d).state = after d)
          ∧ (∀ d, inSet ds d = true → heat = some false → (s.heater d).state ≠ .disabled → (t.heater d).requested = 0
              ∧ (t.heater d).meltEntry = none ∧ (t.heater d).hold = .absent ∧ ((s.dish d).state ≠ .absent → (t.heater d).granted = 0))))

namespace Sys2Proof.Claims

/-- R149, R153: at the expiry of a running sensor hold the hold is expired, the requested stage is 0, the heater keeps its state, and
allocation takes the grant of a dish that is not ABSENT back; the counted stage waits for the confirmation. -/
def SensorHoldExpiryAsksForNothing : Prop :=
  ∀ (s : State) (d due : Nat), Shape s → Running s → 1 ≤ d → d ≤ 48 → (s.heater d).hold = .running due → (s.dish d).state ≠ .absent →
    Happens (.sensorHoldExpiry d) s (max s.now due) [.pbc, .fbu, .mlc, .act] (fun t =>
      t.heater d = { s.heater d with hold := .expired, requested := 0, granted := 0 } ∧ KeepsLink s t
      ∧ ∀ e, (t.heater e).state = (s.heater e).state ∧ (t.heater e).requested = (if e = d then 0 else (s.heater e).requested))

/-- The parts of a heater record that the heater law sets (R145 to R147, R149). -/
def LawGives (h' : Heater) (st : HeaterState) (requested : Nat) (entry : Option Nat) (hold : SensorHold) : Prop :=
  h'.state = st ∧ h'.requested = requested ∧ h'.meltEntry = entry ∧ h'.hold = hold

/-- R145, R146, R147, R149, R151, R152: the heater law on a valid reply to a POLL, for a dish in a surface state that nothing blocks: the
state, the requested stage, the melt entry time and the sensor hold after each report; and where the request stays and no melt ends, a
reply that shows the granted stage or less applied confirms a reduction, and one that shows another stage orders the granted stage again,
whatever the surface state reported. (A dish that was ABSENT in GUARD or MELT is assessed from that state: the model's choice of log entry
28. The order of MLC's work on one reply: log entry 11.) -/
def HeaterLawFollowsTheReport : Prop :=
  ∀ (s : State) (d now : Nat) (chars : List PlChar) (x : Status), Shape s → Running s → Addressed s .poll d now → IsStatus chars d x .none →
    (s.dish d).profile.heatEnable = true → covered s (·.heat) d = false → x.key ≠ .allOff → s.pbc.heatOff = false →
    ((s.heater d).state = .off ∨ (s.heater d).state = .guard ∨ (s.heater d).state = .melt) →
    let h := s.heater d
    let p := s.mlc.policy
    let ends (q : Heater → Prop) : Prop := ∃ t, exec (.plReplyReceived chars) s = .next t ∧ q (t.heater d)
    let law (st : HeaterState) (requested : Nat) (entry : Option Nat) : Prop := ends (fun h' =>
      LawGives h' st requested entry .absent ∧ h'.prioTemp = some x.temp)
    let timeUp : Prop := ∃ u, h.meltEntry = some u ∧ p.minMelt * 1000 ≤ now - u
    let asks : Nat :=
      if x.surface = .ice ∨ h.state = .melt then bandStage p x.temp
      else if x.surface = .wet ∧ ((h.state = .off ∧ x.temp ≤ p.guardOn) ∨ (h.state = .guard ∧ x.temp < p.guardOff)) then 1 else 0
    let stays : Prop :=
      if x.surface = .sensorFail then h.hold ≠ .absent ∨ 0 < p.sensorHold
      else asks = h.requested ∧ (h.state = .melt → x.surface = .ice ∨ ¬ timeUp)
    (x.surface = .ice → h.state ≠ .melt → law .melt (bandStage p x.temp) (some now))
    ∧ (h.state = .melt → (x.surface = .ice ∨ ((x.surface = .dry ∨ x.surface = .wet) ∧ ¬ timeUp)) →
        law .melt (bandStage p x.temp) h.meltEntry)
    ∧ (h.state = .melt → timeUp → (x.surface = .wet ∧ x.temp ≤ p.guardOn) → law .guard 1 none)
    ∧ (h.state = .melt → timeUp → (x.surface = .dry ∨ (x.surface = .wet ∧ p.guardOn < x.temp)) → law .off 0 none)
    ∧ (h.state = .off → x.surface = .wet → x.temp ≤ p.guardOn → law .guard 1 h.meltEntry)
    ∧ (h.state = .off → (x.surface = .dry ∨ (x.surface = .wet ∧ p.guardOn < x.temp)) → law .off 0 h.meltEntry)
    ∧ (h.state = .guard → (x.surface = .dry ∨ (x.surface = .wet ∧ p.guardOff ≤ x.temp)) → law .off 0 h.meltEntry)
    ∧ (h.state = .guard → x.surface = .wet → x.temp < p.guardOff → law .guard 1 h.meltEntry)
    ∧ (x.surface = .sensorFail →
      (h.hold ≠ .absent → ends (fun h' => LawGives h' h.state h.requested h.meltEntry h.hold ∧ h'.prioTemp = h.prioTemp))
      ∧ (h.hold = .absent → 0 < p.sensorHold → ends (fun h' =>
          LawGives h' h.state h.requested h.meltEntry (.running (now + p.sensorHold * 1000)) ∧ h'.prioTemp = h.prioTemp))
      ∧ (h.hold = .absent → p.sensorHold = 0 → ends (fun h' =>
          LawGives h' h.state 0 h.meltEntry .expired ∧ h'.prioTemp = h.prioTemp)))
    ∧ (stays → ∃ t, exec (.plReplyReceived chars) s = .next t ∧ (t.heater d).requested = h.requested ∧ (t.heater d).granted = h.granted
        ∧ (t.heater d).counted = (if h.granted < h.counted ∧ x.applied ≤ h.granted then h.granted else h.counted)
        ∧ (x.applied ≠ h.granted → (t.slots d).heatPending.map (·.stage) = some h.granted))

end Sys2Proof.Claims

/-- R145, R146, R147, R149, R151 to R153: the heater law on a report, and the expiry of the sensor hold. -/
def Obligations.HeaterLawAndSensorHold : Prop :=
  HeaterLawFollowsTheReport ∧ SensorHoldExpiryAsksForNothing

/-- R147, R148, Table 42: a melt completion of a dish in any state but ABSENT counts one melt and records the outcome of the first of the
seven lines of Table 42 that applies, and a skip or a creation is counted. A READY dish that keeps its reference then holds a waiting SHED
task on CREATED, with a pass due, and keeps its claim on every other outcome. The reply answers a POLL and changes neither owner nor fault
state; its key is NONE or DRIVE_OFF and is the key of the last status, or turns to DRIVE_OFF on a dish without a claim. (The order of the
key, the heater law and the motion rule on one reply: log entry 11.) -/
def Obligations.MeltCompletionDecidesTheShed : Prop :=
  ∀ (s : State) (d u now : Nat) (chars : List PlChar) (x : Status), Shape s → Running s → Addressed s .poll d now → IsStatus chars d x .none →
    (s.dish d).profile.heatEnable = true → covered s (·.heat) d = false → (s.heater d).state = .melt →
    (s.heater d).meltEntry = some u → s.mlc.policy.minMelt * 1000 ≤ now - u → (x.surface = .dry ∨ x.surface = .wet) →
    let r := s.dish d
    let h := s.heater d
    r.state ≠ .absent → (x.owner = .remote → r.state ≠ .handset) → (x.owner = .handset → r.state = .handset ∨ r.state = .faulted) →
    (x.fault = 0 ∨ r.state = .handset ∨ r.state = .faulted) → x.key ≠ .allOff →
    (∀ y, r.last = some y → y.key = x.key ∨ (r.claim = none ∧ x.key = .driveOff)) →
    let o : ShedOutcome :=
      if r.profile.shedEnable = false then .shedDisabled else if x.el ≤ r.profile.shedEl + 100 then .notNeeded
      else if r.claim.isSome then .skippedClaim else if (s.zone r.zone).causes ≠ {} then .skippedStowed
      else if r.state ≠ .ready then .skippedNotReady
      else if x.key ≠ .clear ∨ covered s (·.motion) d = true then .skippedLocked else .created
    let one (b : Bool) : Nat := if b then 1 else 0
    ∃ t, exec (.plReplyReceived chars) s = .next t ∧ (t.heater d).lastShed = some o ∧ (t.heater d).melts = min 65535 (h.melts + 1)
      ∧ (t.heater d).shedsCreated = min 65535 (h.shedsCreated + one (o == .created))
      ∧ (t.heater d).shedsSkipped = min 65535 (h.shedsSkipped
          + one (o == .skippedClaim || o == .skippedStowed || o == .skippedNotReady || o == .skippedLocked))
      ∧ (r.state = .ready → x.referenced = true →
          (o = .created → (t.dish d).task = some .shed ∧ (t.dish d).claim = some { ref := .task, standing := .waiting } ∧ t.fbu.passDue = true)
          ∧ (o ≠ .created → (t.dish d).task = r.task ∧ (t.dish d).claim = r.claim))

/-! ## Lockouts -/

namespace Sys2Proof.Claims

/-- What a newly covering motion-blocking entry makes of a dish (Table 47): an admitted claim is stopped, a waiting HOME or STOW task is
held, every other waiting claim is gone. -/
def blockedRecord (r : Dish) (now : Nat) : Dish :=
  let gone := { r with claim := none, task := none, slewTimeout := none, acceptedSeq := none }
  match r.claim with
  | none => r
  | some c =>
    if c.standing = .admitted then { gone with state := .stopping, timer := some { kind := .stop, due := now + 30000 } }
    else if c.ref = .task ∧ r.task ≠ some .shed then r else gone

/-- The dishes that `fresh` marks become newly motion-blocked: their records follow Table 47, a stopped dish has a STOP ordered and no MOVE
or HOME pending, and every other dish keeps its record. Each claim so stopped, excused or dropped is handed to ACT with the entry's kind
(R117, R182). -/
def Blocks (s t : State) (now : Nat) (kind : LockKind) (fresh : Nat → Bool) : Prop :=
  let handed (r : Dish) : Bool :=
    match r.claim with | none => false | some c => c.standing == .admitted || c.ref != .task || r.task == some .shed
  CountsOf s t .lockBlock ((allDishes.filter (fun d => fresh d && handed (s.dish d))).map (fun _ =>
    some (match kind with | .estop => 0 | .maintenance => 1 | .admin => 2)))
  ∧ ∀ d, t.dish d = (if fresh d then blockedRecord (s.dish d) now else s.dish d)
    ∧ (fresh d = true → (s.dish d).claim.map (·.standing) = some .admitted →
        (t.slots d).movePending = none ∧ ((t.slots d).stopPending.isSome = true ∨ (t.slots d).stopFlight.isSome = true))

/-- What the end of an entry's coverage makes of a dish (R24, R85, R175): a READY dish with key NONE whose motion is no longer blocked takes
a STOW task where its zone has a cause, it is away from the stow position and it holds no claim and no open wave member. -/
def unblockedRecord (s t : State) (d : Nat) : Dish :=
  let r := s.dish d
  let z := s.zone r.zone
  let gains : Bool := covered s (·.motion) d && !covered t (·.motion) d && r.state == .ready
    && (match r.last with | some x => x.key == .clear | none => true)
  let inWave : Bool := match z.wave with
    | some w => w.members.any (fun m => m.dish == d && (m.state == .waiting || m.state == .preemptWait || m.state == .admitted))
    | none => false
  if gains && z.causes != {} && !nearStow z r && r.claim.isNone && !inWave then
    { r with claim := some { ref := .task }, task := some .stow }
  else r

/-- The release effects of R175: every dish record follows from the coverage that is left, heaters that nothing blocks any more leave
BLOCKED, and a pass is due. -/
def Unblocks (s t : State) : Prop :=
  (∀ d, t.dish d = unblockedRecord s t d) ∧ t.fbu.passDue = true
    ∧ (∀ d, covered s (·.heat) d = true → covered t (·.heat) d = false → (s.dish d).profile.heatEnable = true →
        (∀ x, (s.dish d).last = some x → x.key ≠ .allOff) → (t.heater d).state ≠ .blocked)

/-- The host's indices 1..63. -/
def hostEntries : List Nat := (List.range 63).map (· + 1)

end Sys2Proof.Claims

/-- R164, R167, R168, R169, R170, R171: LOCK_PLACE goes through its five checks in order; a duplicate is answered at once, and an accepted
placement writes the entry ACTIVE at the lowest EMPTY index (the lowest SPENT one where none is EMPTY), queues a WRITE that owes the reply,
hands ACT a SPENT record that is lost, and gives the dishes of the scope that were not motion-blocked, or not heat-blocked, their effects. -/
def Obligations.LockPlaceWritesTheEntryAndBlocks : Prop :=
  ∀ (s : State) (tag : Nat) (a : PlaceArgs), Shape s → ClaimsFit s → Ready s (.lockPlace tag a) →
    let c : Instr := .lockPlace tag a
    let refused (why : Reason) : Prop := Reads c s 0x1F tag (.refused why)
    let badNote : Prop := ∃ n, a.note = some n ∧ (32 < n.length ∨ ∃ b ∈ n, b.toNat < 0x20 ∨ 0x7E < b.toNat)
    let bad : Prop := (a.kind ≠ 1 ∧ a.kind ≠ 2) ∨ (a.kind = 1 ∧ a.holder = none) ∨ (∃ h, a.holder = some h ∧ (h = 0 ∨ 65534 < h))
      ∨ badNote ∨ (a.motion = false ∧ a.heat = false)
    let kind : LockKind := if a.kind = 1 then .maintenance else .admin
    let twin (i : Nat) : Bool :=
      let e := s.entry i
      e.state == .active && e.kind == some kind && e.holder == a.holder && e.scope == a.scope
    let stands (st : EntryState) (i : Nat) : Bool := (s.entry i).state == st
    let slot (i : Nat) : Prop := hostEntries.find? (stands .empty) = some i
      ∨ (hostEntries.find? (stands .empty) = none ∧ hostEntries.find? (stands .spent) = some i)
    (bad → refused .outOfRange) ∧ (¬ bad → a.scope = 0 → refused .emptySet)
    ∧ (∀ i, ¬ bad → a.scope ≠ 0 → hostEntries.find? twin = some i →
        Reads c s 0x1F tag (.ok (.placed i (some (s.entry i).persisted))))
    ∧ (¬ bad → a.scope ≠ 0 → hostEntries.find? twin = none → (∀ i ∈ hostEntries, stands .empty i = false ∧ stands .spent i = false) →
        refused .tableFull)
    ∧ (∀ i, ¬ bad → a.scope ≠ 0 → hostEntries.find? twin = none → slot i → s.lkt.queue.length = 8 → refused .storeBusy)
    ∧ (∀ i, ¬ bad → a.scope ≠ 0 → hostEntries.find? twin = none → slot i → s.lkt.queue.length < 8 →
        Defers c s [.dsv, .pbc, .znc, .sls, .fbu, .mlc, .lkt, .act] (fun t =>
          t.lkt = { s.lkt with
            entries := s.lkt.entries.set i
              { state := .active, kind := some kind, holder := a.holder, scope := a.scope, motion := a.motion, heat := a.heat,
                note := a.note, stamp := a.stamp, persisted := false, releaseStamp := none },
            queue := s.lkt.queue ++ [{ index := i, kind := .write, owed := some { kind := 0x1F, tag := tag } }] }
          ∧ .lockout i ∈ t.oli.notices ∧ CountsOf s t .spentLost (if stands .spent i then [none] else [])
          ∧ Blocks s t s.now kind (fun d => a.motion && inSet a.scope d && !covered s (·.motion) d)
          ∧ ∀ d, a.heat = true → inSet a.scope d = true → covered s (·.heat) d = false → (s.dish d).profile.heatEnable = true →
              (t.heater d).state = .blocked))

namespace Sys2Proof.Claims

/-- The holder test of R172 and R173: a MAINTENANCE entry takes no request without its holder. -/
def WrongHolder (e : Entry) (holder : Option Nat) : Prop :=
  e.kind = some .maintenance ∧ (holder = none ∨ holder ≠ e.holder)

end Sys2Proof.Claims

/-- R169, R170, R172: LOCK_AMEND is refused by its checks in order; a set that the scope holds already is answered at once; otherwise the
scope grows by the set, a WRITE that owes the reply is queued, and the added dishes receive the effects of a covering entry. -/
def Obligations.LockAmendGrowsTheScope : Prop :=
  ∀ (s : State) (tag i : Nat) (holder : Option Nat) (ds : DishSet), Shape s → ClaimsFit s → Ready s (.lockAmend tag i holder ds) →
    let c : Instr := .lockAmend tag i holder ds
    let refused (why : Reason) : Prop := Reads c s 0x20 tag (.refused why)
    let e := s.entry i
    let open' : Prop := i < 64 ∧ i ≠ 0 ∧ e.state = .active
    let busy : Prop := ∃ o ∈ s.lkt.queue, o.index = i
    let holds : Prop := ds &&& ~~~e.scope = 0
    (64 ≤ i → refused .outOfRange) ∧ (i < 64 → i = 0 ∨ e.state ≠ .active → refused .state) ∧ (open' → ds = 0 → refused .emptySet)
    ∧ (open' → ds ≠ 0 → WrongHolder e holder → refused .wrongHolder)
    ∧ (open' → ds ≠ 0 → ¬ WrongHolder e holder → busy → refused .busy)
    ∧ (open' → ds ≠ 0 → ¬ WrongHolder e holder → ¬ busy → holds → Reads c s 0x20 tag (.ok (.amended i e.scope)))
    ∧ (open' → ds ≠ 0 → ¬ WrongHolder e holder → ¬ busy → ¬ holds → s.lkt.queue.length = 8 → refused .storeBusy)
    ∧ (open' → ds ≠ 0 → ¬ WrongHolder e holder → ¬ busy → ¬ holds → s.lkt.queue.length < 8 →
        Defers c s [.dsv, .pbc, .znc, .sls, .fbu, .mlc, .lkt, .act] (fun t =>
          t.lkt = { s.lkt with
            entries := s.lkt.entries.set i { e with scope := e.scope ||| ds },
            queue := s.lkt.queue ++ [{ index := i, kind := .write, owed := some { kind := 0x20, tag := tag } }] }
          ∧ .lockout i ∈ t.oli.notices
          ∧ Blocks s t s.now (e.kind.getD .admin) (fun d => e.motion && inSet ds d && !covered s (·.motion) d)
          ∧ ∀ d, e.heat = true → inSet ds d = true → covered s (·.heat) d = false → (s.dish d).profile.heatEnable = true →
              (t.heater d).state = .blocked))

/-- R173, R174, R175: LOCK_RELEASE is refused by its checks in order and leaves a refused entry as it is; a persisted entry enters RELEASING
with its stamp and a CLEAR that owes the reply is queued, an entry not persisted enters SPENT with the release effects and the reply at
once. (The stamp of a RELEASING entry that is released again is overwritten, also with an absent one: the model's choice of log entry 29.)
LOCK_RETIRE empties a SPENT entry 1..63 and is refused for any other. -/
def Obligations.LockReleaseAndRetire : Prop :=
  ∀ (s : State) (tag i : Nat), Shape s →
    let e := s.entry i
    (∀ holder stamp, Ready s (.lockRelease tag i holder stamp) →
      let c : Instr := .lockRelease tag i holder stamp
      let refused (why : Reason) : Prop := Reads c s 0x21 tag (.refused why)
      let open' : Prop := i < 64 ∧ i ≠ 0 ∧ (e.state = .active ∨ e.state = .releasing)
      let busy : Prop := (∃ o ∈ s.lkt.queue, o.index = i) ∨ i ∈ s.lkt.writeBacks
      (64 ≤ i → refused .outOfRange) ∧ (i < 64 → i = 0 ∨ e.state = .empty ∨ e.state = .spent → refused .state)
      ∧ (open' → busy → refused .busy) ∧ (open' → ¬ busy → WrongHolder e holder → refused .wrongHolder)
      ∧ (open' → ¬ busy → ¬ WrongHolder e holder → e.persisted = true → s.lkt.queue.length = 8 → refused .storeBusy)
      ∧ (open' → ¬ busy → ¬ WrongHolder e holder → e.persisted = true → s.lkt.queue.length < 8 → Defers c s [.lkt] (fun t =>
          t.lkt = { s.lkt with
            entries := s.lkt.entries.set i { e with state := .releasing, releaseStamp := stamp },
            queue := s.lkt.queue ++ [{ index := i, kind := .clear, owed := some { kind := 0x21, tag := tag } }] }
          ∧ .lockout i ∈ t.oli.notices))
      ∧ (open' → ¬ busy → ¬ WrongHolder e holder → e.persisted = false →
          Answers c s 0x21 tag (.ok (.released i)) [.dsv, .pbc, .fbu, .mlc, .lkt, .act] (fun t =>
            t.lkt = { s.lkt with entries := s.lkt.entries.set i { e with state := .spent, persisted := false, releaseStamp := stamp } }
            ∧ .lockout i ∈ t.oli.notices ∧ Unblocks s t)))
    ∧ (Ready s (.lockRetire tag i) →
      let c : Instr := .lockRetire tag i
      (64 ≤ i → Reads c s 0x22 tag (.refused .outOfRange))
      ∧ (i < 64 → i = 0 ∨ e.state ≠ .spent → Reads c s 0x22 tag (.refused .state))
      ∧ (i < 64 → i ≠ 0 → e.state = .spent → Answers c s 0x22 tag (.ok .accepted) [.lkt] (fun t =>
          t.lkt = { s.lkt with entries := s.lkt.entries.set i {} } ∧ .lockout i ∈ t.oli.notices)))

/-- R166: LOCK_FIND lists, in ascending order, the entries that every present filter accepts, never an EMPTY one, and is refused for a kind
or state outside its sets; LOCK_READ reports each index of a set with its store operation, and entry 0 with the level of ESTOP_IN. -/
def Obligations.LockFindAndLockRead : Prop :=
  ∀ (s : State) (tag : Nat), Shape s →
    (∀ (ds : Option DishSet) (kinds states : Option Mask), Ready s (.lockFind tag ds kinds states) →
      let c : Instr := .lockFind tag ds kinds states
      let bad : Prop := (∃ m, kinds = some m ∧ 8 ≤ m.toNat) ∨ (∃ m, states = some m ∧ (16 ≤ m.toNat ∨ m.getLsbD 0 = true))
      let kindBit (k : LockKind) : Nat := match k with | .estop => 0 | .maintenance => 1 | .admin => 2
      let stateBit (x : EntryState) : Nat := match x with | .empty => 0 | .active => 1 | .releasing => 2 | .spent => 3
      let found (i : Nat) : Bool :=
        let e := s.entry i
        e.state != .empty && (match ds with | none => true | some x => (members x).any (inSet e.scope))
          && (match kinds with | none => true | some m => (match e.kind with | none => false | some k => m.getLsbD (kindBit k)))
          && (match states with | none => true | some m => m.getLsbD (stateBit e.state))
      (bad → Reads c s 0x23 tag (.refused .outOfRange))
      ∧ (¬ bad → Reads c s 0x23 tag (.ok (.indices ((List.range 64).filter found)))))
    ∧ (∀ m : BitVec 64, Ready s (.lockRead tag m) →
      let c : Instr := .lockRead tag m
      (m = 0 → Reads c s 0x24 tag (.refused .emptySet))
      ∧ (m ≠ 0 → Reads c s 0x24 tag (.ok (.entries (((List.range 64).filter (fun i => m.getLsbD i)).map (fun i =>
          { index := i, entry := s.entry i,
            op := (s.lkt.queue.find? (fun o => o.index == i)).map (fun o => (o.kind, o.running)),
            level := i == 0 && s.lkt.estopLevel }))))))

/-- R165, R169, R175, R176, R177: a change of the stop line to asserted orders ALL_STOP and, where entry 0 is EMPTY, enters it with kind ESTOP over
all dishes, blocking motion and not heat, each dish not blocked before receiving the effects of Table 47. A change to deasserted releases
nothing. ESTOP_CLEAR is refused while the line is asserted and where entry 0 is EMPTY, and otherwise empties entry 0 with the release
effects. -/
def Obligations.TheStopLineAndItsEntry : Prop :=
  ∀ s : State, Shape s →
    (Running s → ClaimsFit s → s.lkt.estopLevel = false →
      ((s.entry 0).state = .empty → Happens .estopAssert s s.now [.dsv, .pbc, .znc, .sls, .fbu, .lkt, .act] (fun t =>
        t.lkt = { s.lkt with
          estopLevel := true,
          entries := s.lkt.entries.set 0 { state := .active, kind := some .estop, scope := allSet, motion := true } }
        ∧ t.pbc = { s.pbc with allStop := true, slots := t.pbc.slots } ∧ .lockout 0 ∈ t.oli.notices ∧ KeepsLink s t
        ∧ Blocks s t s.now .estop (fun d => decide (1 ≤ d ∧ d ≤ 48) && !covered s (·.motion) d)))
      ∧ ((s.entry 0).state ≠ .empty → Happens .estopAssert s s.now [.pbc, .lkt] (fun t =>
        t.lkt = { s.lkt with estopLevel := true } ∧ t.pbc = { s.pbc with allStop := true } ∧ .lockout 0 ∈ t.oli.notices ∧ KeepsLink s t)))
    ∧ (Running s → s.lkt.estopLevel = true → Happens .estopDeassert s s.now [.lkt] (fun t =>
        t.lkt = { s.lkt with estopLevel := false } ∧ .lockout 0 ∈ t.oli.notices ∧ KeepsLink s t))
    ∧ (∀ tag, Ready s (.estopClear tag) →
      let c : Instr := .estopClear tag
      (s.lkt.estopLevel = true → Reads c s 0x25 tag (.refused .estopActive))
      ∧ (s.lkt.estopLevel = false → (s.entry 0).state = .empty → Reads c s 0x25 tag (.refused .state))
      ∧ (s.lkt.estopLevel = false → (s.entry 0).state ≠ .empty →
          Answers c s 0x25 tag (.ok .accepted) [.dsv, .pbc, .fbu, .mlc, .lkt, .act] (fun t =>
            t.lkt = { s.lkt with entries := s.lkt.entries.set 0 {} } ∧ .lockout 0 ∈ t.oli.notices ∧ Unblocks s t)))

/-! ## Stored settings and restart -/

namespace Sys2Proof.Claims

/-- The settings image holds the settings as the owners have them (R205, Table 61). -/
def HoldsSettings (s : State) (x : Settings) : Prop :=
  x.dishes = s.dsv.dishes.map (fun r => { profile := r.profile, feeder := r.feeder, zone := r.zone })
    ∧ x.nSettle = s.dsv.nSettle ∧ x.nMiss = s.dsv.nMiss ∧ x.homeTimeout = s.dsv.homeTimeout ∧ x.replyWindow = s.pbc.replyWindow
    ∧ x.masts = s.wmn.masts.map (fun m => { gain := m.gain, offset := m.offset })
    ∧ x.zones = s.znc.zones.map (fun z => { primary := z.primary, fallback := z.fallback, stowEl := z.stowEl, stowAz := z.stowAz })
    ∧ x.bankA = s.znc.bankA ∧ x.bankB = s.znc.bankB ∧ x.active = s.znc.active ∧ x.groups = s.sls.groups
    ∧ (∀ f, x.feeders.get f = { limit := (s.feeder f).limit, reserve := (s.feeder f).reserve, heatCap := (s.feeder f).heatCap })
    ∧ x.policy = s.mlc.policy ∧ x.enables = s.oli.enables

/-- The slot contents of a record with the CRC of its bytes (R212; the layout is the model's: log entry 21). -/
def withCrc (k : StoredEntry) : Slot := .record k (crc16 (storedBytes k))

/-- R171, R204, R205, R212: with the path free the arbiter starts the oldest queued lockout operation, which becomes RUNNING with the contents
of its entry as they stand (none for a CLEAR), and only with none queued a pending save, with the settings as they stand, each with the
CRC of its contents; otherwise the event cannot occur and nothing changes, which is the model's choice of log entry 1. The same holds while
a RESTART drains the store. -/
def TheStoreArbiterStartsTheNextWrite : Prop :=
  ∀ s : State, s.powered = true → (s.nvs.phase = .idle ∨ s.nvs.phase = .draining) →
    let c : Instr := .storeWriteStart
    let next := s.lkt.queue.find? (fun o => !o.running)
    (s.nvs.path ≠ .free ∨ (next = none ∧ s.nvs.save ≠ .pending) → exec c s = .next s)
    ∧ (∀ o, s.nvs.path = .free → next = some o → Happens c s s.now [.lkt, .nvs] (fun t =>
        (o.kind = .clear → t.nvs = { s.nvs with path := .lockout o.index .empty })
        ∧ (∀ k, o.kind = .write → (s.entry o.index).kind = some k → ∃ e, e = s.entry o.index ∧ t.nvs = { s.nvs with
            path := .lockout o.index (withCrc
              { kind := k, holder := e.holder, scope := e.scope, motion := e.motion, heat := e.heat, note := e.note, stamp := e.stamp }) })
        ∧ t.lkt = { s.lkt with
            queue := s.lkt.queue.map (fun p => if p.index = o.index then { p with running := true } else p) }
        ∧ .lockout o.index ∈ t.oli.notices ∧ KeepsLink s t))
    ∧ (s.nvs.path = .free → next = none → s.nvs.save = .pending → Happens c s s.now [.nvs] (fun t =>
        ∃ x, HoldsSettings s x ∧ t.nvs = { s.nvs with path := .save x (crc16 (imageBytes x)), save := .running } ∧ t.oli.notices = s.oli.notices ∧ KeepsLink s t))

/-- LKT once the operation of index `i` has left the queue (R171, R179): the lowest listed write-back joins where a place is free. -/
def afterOperation (s : State) (i : Nat) : Lkt :=
  let rest := s.lkt.queue.filter (fun o => o.index != i)
  match s.lkt.writeBacks with
  | j :: l => if rest.length < 8 then
      { s.lkt with queue := rest ++ [{ index := j, kind := .write, owed := none }], writeBacks := l } else { s.lkt with queue := rest }
  | [] => { s.lkt with queue := rest }

/-- The reply owed for a completed operation (R195, Table 49): none for a write-back (R179). -/
def owedReply (s : State) (i : Nat) (o : StoreOp) (result : StoreResult) : List Reply :=
  o.owed.toList.map (fun w =>
    { kind := w.kind, tag := w.tag, deferred := true, result :=
        if result ≠ .success then .storeFailed (some i) else if o.kind = .clear then .ok (.released i)
        else .ok (if w.kind = 0x20 then .amended i (s.entry i).scope else .placed i none) })

end Sys2Proof.Claims

/-- R171, R175, R179, R195, Table 49: the completion of the running lockout operation frees the path, takes the operation off the queue (the
lowest listed write-back joins where a place is free) and makes the owed reply ready, none being owed for a write-back. Success leaves the
contents in the slot: a WRITE makes the entry persisted, a CLEAR makes it SPENT with the release effects. Failure keeps the entry and
answers STORE_FAILED; the slot is as before or fails its check. The same holds while a RESTART drains the store and work is left. -/
def Obligations.LockStoreCompletionActsByKindAndResult : Prop :=
  ∀ (s : State) (i : Nat) (x : Slot) (o : StoreOp) (result : StoreResult), Shape s → s.powered = true → 1 ≤ i → i ≤ 63 →
    s.nvs.path = .lockout i x → s.lkt.queue.find? (fun o => o.index == i) = some o →
    let c : Instr := .lockStoreComplete result
    let e := s.entry i
    let joined := afterOperation s i
    (s.nvs.phase = .idle
      ∨ (s.nvs.phase = .draining ∧ (joined.queue ≠ [] ∨ joined.writeBacks ≠ [] ∨ s.nvs.save ≠ .idle))) →
    let slot (old : Slot) : Slot := match result with | .success => x | .failedKept => old | .failedDamaged => .damaged
    let ends (l : List Block) (p : State → Prop) : Prop := Happens c s s.now l (fun t =>
      t.nvs = { s.nvs with path := .free, slots := s.nvs.slots.modify (i - 1) slot } ∧ .lockout i ∈ t.oli.notices
      ∧ t.oli.replies = s.oli.replies ++ owedReply s i o result
      ∧ t.oli.inbound = s.oli.inbound ∧ t.oli.counts = s.oli.counts ∧ KeepsLine s t ∧ p t)
    (result = .success → o.kind = .write → ends [.lkt, .nvs] (fun t =>
        t.lkt = { joined with entries := s.lkt.entries.set i { e with persisted := true } }))
    ∧ (result = .success → o.kind = .clear → ends [.dsv, .pbc, .fbu, .mlc, .lkt, .nvs, .act] (fun t =>
        t.lkt = { joined with entries := s.lkt.entries.set i { e with state := .spent, persisted := false } } ∧ Unblocks s t))
    ∧ (result ≠ .success → ends [.lkt, .nvs] (fun t => t.lkt = joined))

namespace Sys2Proof.Claims

/-- R203, R205: SETTINGS_SAVE is refused with STORE_BUSY while a save is pending or running and otherwise owes its reply; the completion of the
running save frees the path, leaves the image, the old area or a damaged one, and makes the owed reply ready, ACCEPTED or STORE_FAILED;
success ends SETTINGS_DEFAULTED. The same holds while a RESTART drains the store and lockout operations are left. -/
def SettingsSaveAndItsCompletion : Prop :=
  (∀ (s : State) (tag : Nat), Ready s (.settingsSave tag) →
      (s.nvs.save ≠ .idle → Reads (.settingsSave tag) s 0x2B tag (.refused .storeBusy))
      ∧ (s.nvs.save = .idle → Defers (.settingsSave tag) s [.nvs] (fun t =>
          t.nvs = { s.nvs with save := .pending, saveTag := some tag } ∧ t.oli.notices = s.oli.notices)))
  ∧ (∀ (s : State) (tag : Nat) (x : Settings) (crc : BitVec 16) (result : StoreResult), s.powered = true →
      (s.nvs.phase = .idle ∨ (s.nvs.phase = .draining ∧ (s.lkt.queue ≠ [] ∨ s.lkt.writeBacks ≠ []))) →
      s.nvs.path = .save x crc → s.nvs.saveTag = some tag →
      Happens (.settingsSaveComplete result) s s.now [.nvs] (fun t =>
        t.nvs = { s.nvs with
          path := .free, save := .idle, saveTag := none,
          area := match result with | .success => .image x crc | .failedKept => s.nvs.area | .failedDamaged => .damaged,
          defaulted := s.nvs.defaulted && result != StoreResult.success }
        ∧ t.oli.replies = s.oli.replies
            ++ [{ kind := 0x2B, tag := tag, result := if result = .success then .ok .accepted else .storeFailed none, deferred := true }]
        ∧ t.oli.inbound = s.oli.inbound ∧ t.oli.notices = s.oli.notices ∧ KeepsLine s t))

end Sys2Proof.Claims

/-- R171, R203, R204, R205, R212: the start of a store write, SETTINGS_SAVE and its completion. (A start that cannot occur changes nothing:
log entry 1. The bytes under a CRC: log entry 21.) -/
def Obligations.StoreArbiterAndSettingsSave : Prop :=
  TheStoreArbiterStartsTheNextWrite ∧ SettingsSaveAndItsCompletion

namespace Sys2Proof.Claims

/-- The store has nothing to do: the queue and the write-back list are empty and no save is pending or running (R207). -/
def StoreIdle (s : State) : Prop := s.lkt.queue = [] ∧ s.lkt.writeBacks = [] ∧ s.nvs.save = .idle

/-- R208: the array is stopped as the store has drained, `dishes` being the dish records and `begun` the store's record then: ALL_STOP and HEAT_ALL_OFF are ordered, every
dish that a stop order acts on enters STOPPING, and the phase is STOPPING with its timer at 10 s, or QUIET where no dish is then SLEWING,
HOMING or STOPPING. -/
def StopsTheArray (s t : State) (dishes : Nat → Dish) (begun : Nvs) : Prop :=
  let moves (d : Nat) : Prop := StopActs (dishes d) ∨ (dishes d).state = .stopping
  t.pbc.allStop = true ∧ t.pbc.heatAllOff = true ∧ t.pbc.heatOff = true
    ∧ (∀ d, 1 ≤ d → d ≤ 48 → (t.slots d).movePending = none ∧ (t.slots d).heatPending = none)
    ∧ (∀ d, ¬ StopActs (dishes d) → t.dish d = dishes d)
    ∧ (∀ d, 1 ≤ d → d ≤ 48 → StopActs (dishes d) → (t.dish d).state = .stopping ∧ (t.dish d).claim = none
        ∧ (t.dish d).timer = some { kind := .stop, due := s.now + 30000 } ∧ (t.dish d).reservation = (dishes d).reservation)
    ∧ ((∃ d, 1 ≤ d ∧ d ≤ 48 ∧ moves d) → t.nvs = { begun with phase := .stopping, stopDue := some (s.now + 10000) })
    ∧ ((∀ d, 1 ≤ d → d ≤ 48 → ¬ moves d) → t.nvs = { begun with
        phase := .quiet, stopDue := none, quietDue := if s.pbc.flight = none then some (s.now + 2000) else none })

/-- R207, R208: RESTART owes its reply and enters DRAINING; with the store idle it goes on at once to stop the array. -/
def RestartDrainsThenStopsTheArray : Prop :=
  ∀ (s : State) (tag : Nat), Shape s → Ready s (.restart tag) →
    let begun : Nvs := { s.nvs with phase := .draining, restartTag := some tag }
    (¬ StoreIdle s → Defers (.restart tag) s [.nvs] (fun t => t.nvs = begun ∧ t.oli.notices = s.oli.notices))
    ∧ (StoreIdle s → Defers (.restart tag) s [.dsv, .pbc, .znc, .sls, .fbu, .nvs, .act] (fun t => StopsTheArray s t s.dish begun))

/-- R171, R205, R207, R208: the completion of the last operation, or of the save, that a RESTART waited for in DRAINING answers what it owes and
stops the array; a CLEAR that succeeds makes its entry SPENT first, and the stop orders reach the dishes as its release effects leave them. -/
def TheLastCompletionInDrainingStopsTheArray : Prop :=
  ∀ (s : State) (result : StoreResult), Shape s → s.powered = true → s.nvs.phase = .draining → s.lkt.writeBacks = [] →
    let blocks : List Block := [.dsv, .pbc, .znc, .sls, .fbu, .lkt, .nvs, .act]
    (∀ i x o, 1 ≤ i → i ≤ 63 → s.nvs.path = .lockout i x → s.lkt.queue = [o] → o.index = i → s.nvs.save = .idle →
      (o.kind = .write ∨ result ≠ .success) →
      let slot (old : Slot) : Slot := match result with | .success => x | .failedKept => old | .failedDamaged => .damaged
      Happens (.lockStoreComplete result) s s.now blocks (fun t =>
        StopsTheArray s t s.dish { s.nvs with path := .free, slots := s.nvs.slots.modify (i - 1) slot } ∧ t.lkt.queue = []
        ∧ (t.entry i).persisted = (if result = .success then true else (s.entry i).persisted)
        ∧ t.oli.replies = s.oli.replies ++ owedReply s i o result))
    ∧ (∀ i x o, 1 ≤ i → i ≤ 63 → s.nvs.path = .lockout i x → s.lkt.queue = [o] → o.index = i → s.nvs.save = .idle →
      o.kind = .clear → result = .success →
      Happens (.lockStoreComplete result) s s.now (.mlc :: blocks) (fun t =>
        StopsTheArray s t (unblockedRecord s t) { s.nvs with path := .free, slots := s.nvs.slots.modify (i - 1) (fun _ => x) }
        ∧ t.lkt = { s.lkt with queue := [], entries := s.lkt.entries.set i { s.entry i with state := .spent, persisted := false } }
        ∧ t.fbu.passDue = true ∧ .lockout i ∈ t.oli.notices ∧ t.oli.replies = s.oli.replies ++ owedReply s i o result
        ∧ (∀ d, covered s (·.heat) d = true → covered t (·.heat) d = false → (s.dish d).profile.heatEnable = true →
            (∀ x, (s.dish d).last = some x → x.key ≠ .allOff) → (t.heater d).state ≠ .blocked)))
    ∧ (∀ x crc, s.nvs.path = .save x crc → s.lkt.queue = [] →
      Happens (.settingsSaveComplete result) s s.now blocks (fun t =>
        StopsTheArray s t s.dish { s.nvs with
          path := .free, save := .idle, saveTag := none,
          area := match result with | .success => .image x crc | .failedKept => s.nvs.area | .failedDamaged => .damaged,
          defaulted := s.nvs.defaulted && result != StoreResult.success }
        ∧ t.lkt = s.lkt
        ∧ t.oli.replies = s.oli.replies ++ s.nvs.saveTag.toList.map (fun tag =>
            { kind := 0x2B, tag := tag, result := if result = .success then .ok .accepted else .storeFailed none, deferred := true })))

/-- What the reset of a RESTART leaves (R28, R49, R66, R91, R118, R142, R163, R180, R190, R202, R209; Tables 9, 15, 26, 34, 38, 44, 56, 59):
settings, masts, lockouts and the store are kept; each dish keeps only its profile and assignment; links, slews, accounts, heaters,
counters and counts begin again; an open wave closes with its open members ABORTED(RESTART); owed replies stay, each request still queued
is answered RESTARTING (IDENTIFY too: log entry 40), and the RESTART reply and the SYSTEM notice are ready. -/
def ResetByRestart (s t : State) (now : Nat) : Prop :=
  (∀ d, 1 ≤ d → d ≤ 48 →
      t.dish d = { profile := (s.dish d).profile, feeder := (s.dish d).feeder, zone := (s.dish d).zone }
      ∧ t.slots d = {} ∧ t.heater d = { state :=
          if (s.dish d).profile.heatEnable = false then .disabled else if covered s (·.heat) d then .blocked else .off })
    ∧ t.dsv.nSettle = s.dsv.nSettle ∧ t.dsv.nMiss = s.dsv.nMiss ∧ t.dsv.homeTimeout = s.dsv.homeTimeout
    ∧ t.pbc = { slots := t.pbc.slots, replyWindow := s.pbc.replyWindow } ∧ t.wmn = s.wmn ∧ t.lkt = s.lkt
    ∧ t.znc.bankA = s.znc.bankA ∧ t.znc.bankB = s.znc.bankB ∧ t.znc.active = s.znc.active
    ∧ (∀ z, (s.zone z).wave = none → t.zone z = s.zone z)
    ∧ (∀ z w, (s.zone z).wave = some w → (t.zone z).wave = none ∧ (t.zone z).causes = (s.zone z).causes
        ∧ (t.zone z).lastOutcome = some (w.members.map (fun m =>
            if m.state = .waiting ∨ m.state = .preemptWait ∨ m.state = .admitted then { m with state := .aborted .restart } else m)))
    ∧ t.sls = { table := [], lastId := 0, groups := s.sls.groups }
    ∧ (∀ f, t.feeder f = { limit := (s.feeder f).limit, reserve := (s.feeder f).reserve, heatCap := (s.feeder f).heatCap,
                           ceiling := (s.feeder f).limit, slewCommitted := 0, heatCommitted := 0,
                           allowance := min (s.feeder f).heatCap ((s.feeder f).limit - (s.feeder f).reserve), shedDemand := none })
    ∧ t.fbu.passDue = false ∧ t.mlc.policy = s.mlc.policy ∧ t.act.monitor = {} ∧ (∀ k ∈ t.act.counters, k = {})
    ∧ t.nvs = { s.nvs with phase := .idle, restartTag := none, stopDue := none, quietDue := none, resetDue := false, lastRestart := some now }
    ∧ t.oli.inbound = [] ∧ t.oli.flow = .go ∧ t.oli.notices = [.system] ∧ t.oli.counts = {} ∧ t.oli.enables = s.oli.enables
    ∧ (∀ tag, s.nvs.restartTag = some tag → t.oli.replies = s.oli.replies.filter (·.deferred)
        ++ s.oli.inbound.filterMap (fun c => (requestOf c).map (fun k => { kind := k.1, tag := k.2, result := .refused .restarting }))
        ++ [{ kind := 0x2C, tag := tag, result := .ok .accepted, deferred := true }])

/-- R208, R209: the 10 s timer of STOPPING leads to QUIET, whose timer of 2 s starts at once with no transaction in flight; at its expiry the
reset follows, or waits for the end of a transaction in flight. -/
def RestartTimersLeadToTheReset : Prop :=
  ∀ (s : State) (due : Nat), Shape s → s.powered = true →
    let now := max s.now due
    (s.nvs.phase = .stopping → s.nvs.stopDue = some due → Happens .restartStopTimerExpiry s now [.nvs] (fun t =>
        t.nvs = { s.nvs with phase := .quiet, stopDue := none, quietDue := if s.pbc.flight = none then some (now + 2000) else none }
        ∧ KeepsLink s t))
    ∧ (s.nvs.phase = .quiet → s.nvs.quietDue = some due → s.pbc.flight ≠ none → Happens .quietTimerExpiry s now [.nvs] (fun t =>
        t.nvs = { s.nvs with quietDue := none, resetDue := true } ∧ KeepsLink s t))
    ∧ (s.nvs.phase = .quiet → s.nvs.quietDue = some due → s.pbc.flight = none →
        Happens .quietTimerExpiry s now [.dsv, .pbc, .znc, .sls, .fbu, .mlc, .nvs, .act] (fun t => ResetByRestart s t now))

/-- A dish that keeps STOPPING open (R208). -/
def StillMoves (s : State) : Prop :=
  ∃ d, 1 ≤ d ∧ d ≤ 48 ∧ ((s.dish d).state = .slewing ∨ (s.dish d).state = .homing ∨ (s.dish d).state = .stopping)

/-- R208, R209, Table 62: after reset and after every step the quiet timer is there only in QUIET, and the stop timer only in STOPPING. -/
def PhaseTimersRunOnlyInTheirPhases : Prop :=
  PhaseTimers State.reset ∧ ∀ s t : State, PhaseTimers s → step s = .next t → PhaseTimers t

/-- R208, Table 62: STOPPING goes on, its timer kept, through every command that leaves a dish SLEWING, HOMING or STOPPING, but the expiry of
its timer; a command that leaves none leads to QUIET, whose timer starts at once with no transaction in flight. So do the idle reply and
the stop timeout of the last such dish. (No quiet timer is there in STOPPING: `PhaseTimersRunOnlyInTheirPhases`.) -/
def StoppingEndsWhenTheLastDishIsAtRest : Prop :=
  ∀ s : State, Shape s → ClaimsFit s → PhaseTimers s → s.powered = true → s.nvs.phase = .stopping → StillMoves s →
    let quietIn (t : State) : Prop :=
      t.nvs = { s.nvs with phase := .quiet, stopDue := none, quietDue := if t.pbc.flight = none then some (t.now + 2000) else none }
    let last (d : Nat) : Prop := 1 ≤ d ∧ d ≤ 48 ∧ (s.dish d).state = .stopping ∧ ∀ e, 1 ≤ e → e ≤ 48 → e ≠ d →
      (s.dish e).state ≠ .slewing ∧ (s.dish e).state ≠ .homing ∧ (s.dish e).state ≠ .stopping
    (∀ c t, exec c s = .next t → t.powered = true → c ≠ .restartStopTimerExpiry → StillMoves t →
        t.nvs.phase = .stopping ∧ t.nvs.stopDue = s.nvs.stopDue)
    ∧ (∀ c t, exec c s = .next t → t.powered = true → ¬ StillMoves t → quietIn t)
    ∧ (∀ d now chars x, last d → Addressed s .poll d now → IsStatus chars d x .none → x.moving = false → x.owner = .remote → x.fault = 0 →
        ∃ t, exec (.plReplyReceived chars) s = .next t ∧ ¬ StillMoves t ∧ t.pbc.flight = none ∧ t.now = now ∧ quietIn t)
    ∧ (∀ d due, last d → (s.dish d).timer = some { kind := .stop, due := due } →
        ∃ t, exec (.stopTimerExpiry d) s = .next t ∧ ¬ StillMoves t ∧ t.pbc.flight = s.pbc.flight ∧ t.now = max s.now due ∧ quietIn t)

/-- R45, R49, R208, R209: in QUIET no addressed frame starts; an ALL_STOP burst still does, and cancels the quiet timer; the end of a
transaction starts a quiet timer that does not run, at 2 s, whether a reply, the window's close or the end of a broadcast ends it; and
where the quiet timer has expired during a broadcast, the broadcast's end is the reset (log entry 15). -/
def QuietWaitsForTheBus : Prop :=
  ∀ s : State, Shape s → s.powered = true → s.nvs.phase = .quiet →
    let restarts (t : State) : Prop := t.pbc.flight = none ∧ t.nvs = { s.nvs with quietDue := some (t.now + 2000) }
    (s.pbc.allStop = false → s.pbc.heatAllOff = false → exec .plTransactionStart s = .next s)
    ∧ (s.pbc.flight = none → s.pbc.allStop = true → Happens .plTransactionStart s s.now [.pbc, .nvs] (fun t =>
        InFlight s t .allStop 127 (plFrame 127 6 [] ++ plFrame 127 6 [] ++ plFrame 127 6 []) ∧ t.pbc.allStop = false
        ∧ t.nvs = { s.nvs with quietDue := none } ∧ KeepsLink s t))
    ∧ (∀ k e w f, (k = .allStop ∨ k = .heatAllOff) →
        s.pbc.flight = some { kind := k, station := 127, frameEnd := e, windowDue := w, frame := f } →
        (s.nvs.resetDue = false → s.nvs.quietDue = none →
          Happens .plBroadcastEnd s (max s.now e) [.pbc, .nvs] (fun t => restarts t ∧ KeepsLink s t))
        ∧ (s.nvs.resetDue = true → Happens .plBroadcastEnd s (max s.now e) [.dsv, .pbc, .znc, .sls, .fbu, .mlc, .nvs, .act] (fun t =>
            ResetByRestart s t (max s.now e))))
    ∧ (s.nvs.resetDue = false → s.nvs.quietDue = none →
        (∀ d k e w f c now m, 1 ≤ d → d ≤ 48 → k ≠ .allStop → k ≠ .heatAllOff →
          s.pbc.flight = some { kind := k, station := d, frameEnd := e, windowDue := w, frame := f } → Misses s d e w k c now m →
          ∃ t, exec c s = .next t ∧ t.now = now ∧ restarts t)
        ∧ (∀ d k now chars st r, Addressed s k d now → IsStatus chars d st r → ResultFits k st r →
          ∃ t, exec (.plReplyReceived chars) s = .next t ∧ t.now = now ∧ restarts t))

end Sys2Proof.Claims

/-- R207 to R209: RESTART, the end of its draining, the end of STOPPING, its two timers and the phases they run in, the quiet interval, and
the reset that ends it. RESTART, RESTART_STOP_TIMER_EXPIRY and QUIET_TIMER_EXPIRY complete under the conditions stated for them. (The
order of the replies at the reset and what is counted of the queued requests: log entry 14. That an IDENTIFY still queued is answered
RESTARTING: the model's choice, log entry 40. A quiet timer that expires during a transaction: log entry 15.) -/
def Obligations.RestartRunsThroughItsPhases : Prop :=
  RestartDrainsThenStopsTheArray ∧ TheLastCompletionInDrainingStopsTheArray ∧ PhaseTimersRunOnlyInTheirPhases
    ∧ StoppingEndsWhenTheLastDishIsAtRest ∧ RestartTimersLeadToTheReset ∧ QuietWaitsForTheBus

/-- R171, R178, R179, R203, R206, R210, R212: PWR_OK deasserted leaves only the store, a running write having left the previous contents, the
new ones or contents that fail their check. Power-up loads the settings image where its CRC matches and its fields are in range, and the
defaults where not; each slot whose record has a matching CRC and valid contents gives its entry ACTIVE and persisted, each other slot
that is not empty an ADMIN entry over all dishes with the note RESTORED, and each empty slot an EMPTY entry; ESTOP_IN asserted gives entry
0 and a pending ALL_STOP. The bytes under each CRC are laid out by log entry 21, and the OLI record begins with GO as the flow state last
sent by log entry 31: both are the model's choices. -/
def Obligations.PowerFailsAndReturns : Prop :=
  ∀ s : State, Shape s →
    (∀ r, s.powered = true → ∃ t, exec (.powerFail r) s = .next t ∧ t.powered = false ∧ t.pending = s.pending
      ∧ (s.nvs.path = .free → t.nvs.area = s.nvs.area ∧ t.nvs.slots = s.nvs.slots)
      ∧ (∀ i x, s.nvs.path = .lockout i x → 1 ≤ i → t.nvs.area = s.nvs.area ∧ t.nvs.slots = s.nvs.slots.modify (i - 1) (fun old =>
          match r with | .previous => old | .damaged => .damaged | .complete => x))
      ∧ (∀ x crc, s.nvs.path = .save x crc → t.nvs.slots = s.nvs.slots ∧ t.nvs.area =
          match r with | .previous => s.nvs.area | .damaged => .damaged | .complete => .image x crc))
    ∧ (∀ e, s.powered = false → ∃ (t : State) (x : Settings) (bad : Bool), exec (.powerUp e) s = .next t ∧ HoldsSettings t x
      ∧ ((∃ y crc, s.nvs.area = .image y crc ∧ crc = crc16 (imageBytes y) ∧ settingsOk y = true ∧ x = y ∧ bad = false)
          ∨ ((∀ y crc, s.nvs.area = .image y crc → crc ≠ crc16 (imageBytes y) ∨ settingsOk y = false) ∧ x = defaultSettings ∧ bad = true))
      ∧ t.powered = true ∧ t.now = 0 ∧ t.pending = s.pending
      ∧ t.nvs.area = s.nvs.area ∧ t.nvs.slots = s.nvs.slots ∧ t.nvs.path = .free ∧ t.nvs.save = .idle ∧ t.nvs.defaulted = bad
      ∧ t.nvs.phase = .idle ∧ t.nvs.lastRestart = none
      ∧ t.pbc.allStop = e ∧ t.lkt.estopLevel = e
      ∧ t.entry 0 = (if e then { state := .active, kind := some .estop, scope := allSet, motion := true } else {})
      ∧ (∀ i, 1 ≤ i → i ≤ 63 →
          (s.nvs.slots[i - 1]? = some .empty → t.entry i = {})
          ∧ (∀ k crc, s.nvs.slots[i - 1]? = some (.record k crc) → crc = crc16 (storedBytes k) → storedOk k = true → t.entry i =
              { state := .active, kind := some k.kind, holder := k.holder, scope := k.scope, motion := k.motion, heat := k.heat,
                note := k.note, stamp := k.stamp, persisted := true })
          ∧ ((s.nvs.slots[i - 1]? = some .damaged
              ∨ ∃ k crc, s.nvs.slots[i - 1]? = some (.record k crc) ∧ (crc ≠ crc16 (storedBytes k) ∨ storedOk k = false)) →
              t.entry i = { state := .active, kind := some .admin, scope := allSet, motion := true, heat := true,
                            note := some [0x52, 0x45, 0x53, 0x54, 0x4F, 0x52, 0x45, 0x44] }
              ∧ ((∃ o ∈ t.lkt.queue, o.index = i ∧ o.kind = .write ∧ o.owed = none) ∨ i ∈ t.lkt.writeBacks)))
      ∧ t.oli = { enables := x.enables } ∧ t.sls.table = [] ∧ (∀ d, (t.dish d).state = .absent ∧ (t.dish d).last = none))

/-! ## Activity counters -/

namespace Sys2Proof.Claims

/-- The number of qualifier values of a class and whether it has a DURATION mode and an OCCURRENCE mode (Table 53). -/
def classFacts : Nat → Option (EventClass × Nat × Bool × Bool)
  | 0 => some (.admission, 4, false, true)
  | 1 => some (.budgetWait, 4, true, true)
  | 2 => some (.shedStage, 4, false, true)
  | 3 => some (.heatUnmet, 4, true, false)
  | 4 => some (.stowOrder, 8, true, true)
  | 5 => some (.lockBlock, 3, false, true)
  | 6 => some (.pedestalMiss, 3, false, true)
  | 7 => some (.commandRetry, 0, false, true)
  | 8 => some (.mastStale, 4, true, true)
  | 9 => some (.dishFault, 5, false, true)
  | 10 => some (.ceilingHigh, 4, true, true)
  | 11 => some (.spentLost, 0, false, true)
  | _ => none

/-- The condition of a counter holds: the condition set of its class meets its qualifiers, or is not empty where it has none (R185). -/
def conditionHolds (s : State) (c : Counter) : Bool :=
  let set : Mask :=
    match c.cls with
    | some .budgetWait => s.act.conds.budgetWait
    | some .heatUnmet => s.act.conds.heatUnmet
    | some .stowOrder => s.act.conds.stowOrder
    | some .mastStale => s.act.conds.mastStale
    | some .ceilingHigh => s.act.conds.ceilingHigh
    | _ => 0
  match c.quals with | none => set != 0 | some m => set &&& m != 0

/-- R183, R187: COUNTER_SET checks the number, the class, the mode and the qualifiers against Table 53 and the threshold, and then replaces the
record at 0 with overflow and notified no; COUNTER_READ reports the counters of a set, with the condition of a DURATION counter;
COUNTER_CLEAR reports value and overflow and clears them. (A qualifier set without a class is taken: log entry 20.) -/
def CountersAreSetReadAndCleared : Prop :=
  ∀ (s : State) (tag : Nat), Shape s →
    (∀ (n : Nat) (a : CounterArgs), Ready s (.counterSet tag n a) →
      let c : Instr := .counterSet tag n a
      let badClass : Prop := ∃ b, a.cls = some b ∧ (classFacts b = none ∨ ∃ k v dur occ, classFacts b = some (k, v, dur, occ)
        ∧ ((a.mode = 0 ∧ occ = false) ∨ (a.mode = 1 ∧ dur = false) ∨ ∃ m, a.quals = some m ∧ (v = 0 ∨ 2 ^ v ≤ m.toNat)))
      let bad : Prop := n = 0 ∨ 8 < n ∨ 1 < a.mode ∨ badClass ∨ a.threshold = some 0
      let x : Counter :=
        { cls := a.cls.bind (fun b => (classFacts b).map (·.1)), quals := a.quals,
          mode := if a.mode = 1 then .duration else .occurrence, value := 0, threshold := a.threshold, overflow := false, notified := false }
      (bad → Reads c s 0x26 tag (.refused .outOfRange)) ∧ (¬ bad → a.quals = some 0 → Reads c s 0x26 tag (.refused .emptySet))
      ∧ (¬ bad → a.quals ≠ some 0 → Answers c s 0x26 tag (.ok (.counter { counter := n, record := x, holds := none })) [.act] (fun t =>
          t.act = { s.act with counters := s.act.counters.set (n - 1) x } ∧ t.oli.notices = s.oli.notices)))
    ∧ (∀ m : Mask,
      let numbers := ((List.range 8).filter (fun i => m.getLsbD i)).map (· + 1)
      let record (n : Nat) : Counter := s.act.counters.getD (n - 1) {}
      (Ready s (.counterRead tag m) →
        (m = 0 → Reads (.counterRead tag m) s 0x27 tag (.refused .emptySet))
        ∧ (m ≠ 0 → Reads (.counterRead tag m) s 0x27 tag (.ok (.counters (numbers.map (fun n =>
            { counter := n, record := record n,
              holds := if (record n).mode = .duration then some (conditionHolds s (record n)) else none }))))))
      ∧ (Ready s (.counterClear tag m) →
        (m = 0 → Reads (.counterClear tag m) s 0x28 tag (.refused .emptySet))
        ∧ (m ≠ 0 → Answers (.counterClear tag m) s 0x28 tag (.ok (.cleared (numbers.map (fun n =>
              (n, (record n).value, (record n).overflow))))) [.act] (fun t =>
            t.act = { s.act with counters := t.act.counters } ∧ t.oli.notices = s.oli.notices
            ∧ ∀ n, 1 ≤ n → n ≤ 8 → t.act.counters.getD (n - 1) {} =
                if n ∈ numbers then { record n with value := 0, overflow := false, notified := false } else record n))))

/-- R184, R186: an event handed to ACT adds 1 to each counter in OCCURRENCE mode that is set to its class and whose qualifier set matches its
value, and changes nothing else but the notices of counters that it notifies. Which events the owners hand is stated with each of them. -/
def AHandedEventCounts : Prop :=
  ∀ (s : State) (k : EventClass) (q : Option Nat), Shape s →
    let t := s.count k q
    CountsOnly s t k [q] ∧ SameBut [.act] s t ∧ t.act = { s.act with counters := t.act.counters }
      ∧ t.oli = { s.oli with notices := t.oli.notices } ∧ (∀ x ∈ s.oli.notices, x ∈ t.oli.notices)
      ∧ ∀ x ∈ t.oli.notices, x ∉ s.oli.notices → ∃ n, 1 ≤ n ∧ n ≤ 8 ∧ x = .counter n
          ∧ (s.act.counters.getD (n - 1) {}).notified = false ∧ (t.act.counters.getD (n - 1) {}).notified = true

end Sys2Proof.Claims

/-- R183, R184, R186, R187: COUNTER_SET, COUNTER_READ and COUNTER_CLEAR, and what an event handed to ACT counts. -/
def Obligations.CountersCountAndAreSetReadAndCleared : Prop :=
  CountersAreSetReadAndCleared ∧ AHandedEventCounts

namespace Sys2Proof.Claims

/-- R185, R186: at each tick of the 1 s timer every counter in DURATION mode whose condition holds rises by 1, or overflows at the top; one that
reaches its threshold unnotified is notified and its notice becomes pending; every other counter stays, and the next tick is 1 000 ms
later. R189: TIMING_ARM clears the monitor and arms it for a non-empty class set, and TIMING_READ reports it and changes nothing. (A
class set with an undefined bit is refused: log entry 7. The next tick counts from the old due time, however late: log entry 25. The whole
seconds of TIMING_READ: log entry 13. Its two times do not saturate, no top being stated: the model's choice, log entry 38.) -/
def SecondTicksAndMonitorRequests : Prop :=
  ∀ s : State, Shape s →
    (Running s → Happens .oneSecondTick s (max s.now s.act.tickDue) [.act] (fun t =>
      t.act.tickDue = s.act.tickDue + 1000 ∧ t.act.monitor = s.act.monitor ∧ t.act.conds = s.act.conds ∧ KeepsLink s t
      ∧ ∀ n, 1 ≤ n → n ≤ 8 →
          let x := s.act.counters.getD (n - 1) {}
          let y := t.act.counters.getD (n - 1) {}
          let runs : Prop := x.mode = .duration ∧ conditionHolds s x = true
          let v := min 4294967295 (x.value + 1)
          let hit : Prop := x.notified = false ∧ ∃ k, x.threshold = some k ∧ k ≤ v
          (¬ runs → y = x)
          ∧ (runs → x.value ≤ 4294967295 → (hit → y.notified = true ∧ .counter n ∈ t.oli.notices) ∧ (¬ hit → y.notified = x.notified)
              ∧ y = { x with value := v, overflow := x.overflow || decide (x.value = 4294967295), notified := y.notified })))
    ∧ (∀ (tag : Nat) (m : Mask), Ready s (.timingArm tag m) →
      (4 ≤ m.toNat → Reads (.timingArm tag m) s 0x29 tag (.refused .outOfRange))
      ∧ (m.toNat < 4 → Answers (.timingArm tag m) s 0x29 tag (.ok .accepted) [.act] (fun t =>
          t.act = { s.act with monitor :=
            { state := if m = 0 then .disarmed else .armed, stow := m.getLsbD 0, observe := m.getLsbD 1, tracked := none, waitTotal := 0,
              runTotal := 0, count := 0, unadmitted := 0, untracked := 0, overflow := false } } ∧ t.oli.notices = s.oli.notices)))
    ∧ (∀ tag, Ready s (.timingRead tag) →
      let m := s.act.monitor
      Reads (.timingRead tag) s 0x2A tag (.ok (.timing
        { state := m.state, stow := m.stow, observe := m.observe, ref := m.tracked.map (·.ref),
          createdAgo := m.tracked.map (fun x => (s.now - x.created) / 1000),
          admittedAgo := (m.tracked.bind (·.admittedAt)).map (fun u => (s.now - u) / 1000), waitTotal := m.waitTotal,
          runTotal := m.runTotal, count := m.count, unadmitted := m.unadmitted, untracked := m.untracked, overflow := m.overflow })))

/-- R188, Table 55: what the creation of a record, an admission of one of its members and its completion make of the monitor. -/
def TheMonitorFollowsTable55 : Prop :=
  ∀ (m : Monitor) (now : Nat) (r : TrackRef) (stow : Bool),
    MonitorAtCreation m (m.onCreated now r stow) now r (if stow then m.stow else m.observe)
    ∧ MonitorAtAdmission m (m.onAdmitted now r) now r ∧ MonitorAtCompletion m (m.onCompleted now r) now r

end Sys2Proof.Claims

/-- R185, R186, R188, R189: the ticks of the 1 s timer, and the timing monitor: its requests and its state table. (The log entries that the
times rest on: 13, 25 and 38; the class set: 7.) -/
def Obligations.TheSecondTimerAndTheTimingMonitor : Prop :=
  SecondTicksAndMonitorRequests ∧ TheMonitorFollowsTable55
end

