-- ==== Sys2Proof/Laws/State.lean ====
section
/-! SUPPORT. One lemma per field for each of the plain updates of the state: the taking of a request, the start of an event, a reply,
a notice made pending, a trigger, and the per-record updates. -/

namespace Sys2Proof.Machine

/-! ## Numbered tables -/

theorem tget_tmod_same {α : Type} (l : List α) (n : Nat) (f : α → α) (x : α) (h : thas l n = true) :
    tget (tmod l n f) n x = f (tget l n x) := by
  cases n with
  | zero => simp [thas] at h
  | succ k =>
    have hk : k < l.length := by simp [thas] at h; omega
    simp [tget, tmod, List.getD_eq_getElem?_getD, hk]

theorem tget_tmod_other {α : Type} (l : List α) (n m : Nat) (f : α → α) (x : α) (h : m ≠ n) :
    tget (tmod l n f) m x = tget l m x := by
  cases n with
  | zero => rfl
  | succ k =>
    cases m with
    | zero => rfl
    | succ j =>
      have : k ≠ j := by omega
      simp [tget, tmod, List.getD_eq_getElem?_getD, this]

theorem tget_tmod_absent {α : Type} (l : List α) (n : Nat) (f : α → α) (h : thas l n = false) : tmod l n f = l := by
  cases n with
  | zero => rfl
  | succ k =>
    have hk : l.length ≤ k := by simp [thas] at h; omega
    simp [tmod, List.modify_eq_self hk]

@[simp] theorem length_tmod {α : Type} (l : List α) (n : Nat) (f : α → α) : (tmod l n f).length = l.length := by
  cases n <;> simp [tmod]

@[simp] theorem thas_tmod {α : Type} (l : List α) (n m : Nat) (f : α → α) : thas (tmod l n f) m = thas l m := by
  simp [thas]

/-! ## Dish records -/

@[simp] theorem modDish_isDish (s : State) (d e : Nat) (f : Dish → Dish) : (s.modDish d f).isDish e = s.isDish e := by
  simp [State.isDish, State.modDish]

theorem modDish_dish_same (s : State) (d : Nat) (f : Dish → Dish) (h : s.isDish d = true) : (s.modDish d f).dish d = f (s.dish d) :=
  tget_tmod_same _ _ _ _ h

theorem modDish_dish_other (s : State) (d e : Nat) (f : Dish → Dish) (h : e ≠ d) : (s.modDish d f).dish e = s.dish e :=
  tget_tmod_other _ _ _ _ _ h

@[simp] theorem modDish_powered (s : State) (d : Nat) (f : Dish → Dish) : (s.modDish d f).powered = s.powered := rfl
@[simp] theorem modDish_now (s : State) (d : Nat) (f : Dish → Dish) : (s.modDish d f).now = s.now := rfl
@[simp] theorem modDish_moment (s : State) (d : Nat) (f : Dish → Dish) : (s.modDish d f).moment = s.moment := rfl
@[simp] theorem modDish_pending (s : State) (d : Nat) (f : Dish → Dish) : (s.modDish d f).pending = s.pending := rfl
@[simp] theorem modDish_pbc (s : State) (d : Nat) (f : Dish → Dish) : (s.modDish d f).pbc = s.pbc := rfl
@[simp] theorem modDish_wmn (s : State) (d : Nat) (f : Dish → Dish) : (s.modDish d f).wmn = s.wmn := rfl
@[simp] theorem modDish_znc (s : State) (d : Nat) (f : Dish → Dish) : (s.modDish d f).znc = s.znc := rfl
@[simp] theorem modDish_sls (s : State) (d : Nat) (f : Dish → Dish) : (s.modDish d f).sls = s.sls := rfl
@[simp] theorem modDish_fbu (s : State) (d : Nat) (f : Dish → Dish) : (s.modDish d f).fbu = s.fbu := rfl
@[simp] theorem modDish_mlc (s : State) (d : Nat) (f : Dish → Dish) : (s.modDish d f).mlc = s.mlc := rfl
@[simp] theorem modDish_lkt (s : State) (d : Nat) (f : Dish → Dish) : (s.modDish d f).lkt = s.lkt := rfl
@[simp] theorem modDish_nvs (s : State) (d : Nat) (f : Dish → Dish) : (s.modDish d f).nvs = s.nvs := rfl
@[simp] theorem modDish_act (s : State) (d : Nat) (f : Dish → Dish) : (s.modDish d f).act = s.act := rfl
@[simp] theorem modDish_oli (s : State) (d : Nat) (f : Dish → Dish) : (s.modDish d f).oli = s.oli := rfl
@[simp] theorem modDish_nSettle (s : State) (d : Nat) (f : Dish → Dish) : (s.modDish d f).dsv.nSettle = s.dsv.nSettle := rfl
@[simp] theorem modDish_nMiss (s : State) (d : Nat) (f : Dish → Dish) : (s.modDish d f).dsv.nMiss = s.dsv.nMiss := rfl
@[simp] theorem modDish_homeTimeout (s : State) (d : Nat) (f : Dish → Dish) :
    (s.modDish d f).dsv.homeTimeout = s.dsv.homeTimeout := rfl

/-! ## Command slots -/

@[simp] theorem modSlots_powered (s : State) (d : Nat) (f : Slots → Slots) : (s.modSlots d f).powered = s.powered := rfl
@[simp] theorem modSlots_now (s : State) (d : Nat) (f : Slots → Slots) : (s.modSlots d f).now = s.now := rfl
@[simp] theorem modSlots_moment (s : State) (d : Nat) (f : Slots → Slots) : (s.modSlots d f).moment = s.moment := rfl
@[simp] theorem modSlots_pending (s : State) (d : Nat) (f : Slots → Slots) : (s.modSlots d f).pending = s.pending := rfl
@[simp] theorem modSlots_dsv (s : State) (d : Nat) (f : Slots → Slots) : (s.modSlots d f).dsv = s.dsv := rfl
@[simp] theorem modSlots_dish (s : State) (d e : Nat) (f : Slots → Slots) : (s.modSlots d f).dish e = s.dish e := rfl
@[simp] theorem modSlots_wmn (s : State) (d : Nat) (f : Slots → Slots) : (s.modSlots d f).wmn = s.wmn := rfl
@[simp] theorem modSlots_znc (s : State) (d : Nat) (f : Slots → Slots) : (s.modSlots d f).znc = s.znc := rfl
@[simp] theorem modSlots_sls (s : State) (d : Nat) (f : Slots → Slots) : (s.modSlots d f).sls = s.sls := rfl
@[simp] theorem modSlots_fbu (s : State) (d : Nat) (f : Slots → Slots) : (s.modSlots d f).fbu = s.fbu := rfl
@[simp] theorem modSlots_mlc (s : State) (d : Nat) (f : Slots → Slots) : (s.modSlots d f).mlc = s.mlc := rfl
@[simp] theorem modSlots_lkt (s : State) (d : Nat) (f : Slots → Slots) : (s.modSlots d f).lkt = s.lkt := rfl
@[simp] theorem modSlots_nvs (s : State) (d : Nat) (f : Slots → Slots) : (s.modSlots d f).nvs = s.nvs := rfl
@[simp] theorem modSlots_act (s : State) (d : Nat) (f : Slots → Slots) : (s.modSlots d f).act = s.act := rfl
@[simp] theorem modSlots_oli (s : State) (d : Nat) (f : Slots → Slots) : (s.modSlots d f).oli = s.oli := rfl

theorem modSlots_slots_same (s : State) (d : Nat) (f : Slots → Slots) (h : thas s.pbc.slots d = true) :
    (s.modSlots d f).slots d = f (s.slots d) := tget_tmod_same _ _ _ _ h

theorem modSlots_slots_other (s : State) (d e : Nat) (f : Slots → Slots) (h : e ≠ d) : (s.modSlots d f).slots e = s.slots e :=
  tget_tmod_other _ _ _ _ _ h

/-! ## Mast, zone, heater and slew records -/

@[simp] theorem modMast_dsv (s : State) (m : Nat) (f : Mast → Mast) : (s.modMast m f).dsv = s.dsv := rfl
@[simp] theorem modMast_pbc (s : State) (m : Nat) (f : Mast → Mast) : (s.modMast m f).pbc = s.pbc := rfl
@[simp] theorem modMast_znc (s : State) (m : Nat) (f : Mast → Mast) : (s.modMast m f).znc = s.znc := rfl
@[simp] theorem modMast_sls (s : State) (m : Nat) (f : Mast → Mast) : (s.modMast m f).sls = s.sls := rfl
@[simp] theorem modMast_fbu (s : State) (m : Nat) (f : Mast → Mast) : (s.modMast m f).fbu = s.fbu := rfl
@[simp] theorem modMast_mlc (s : State) (m : Nat) (f : Mast → Mast) : (s.modMast m f).mlc = s.mlc := rfl
@[simp] theorem modMast_lkt (s : State) (m : Nat) (f : Mast → Mast) : (s.modMast m f).lkt = s.lkt := rfl
@[simp] theorem modMast_nvs (s : State) (m : Nat) (f : Mast → Mast) : (s.modMast m f).nvs = s.nvs := rfl
@[simp] theorem modMast_act (s : State) (m : Nat) (f : Mast → Mast) : (s.modMast m f).act = s.act := rfl
@[simp] theorem modMast_oli (s : State) (m : Nat) (f : Mast → Mast) : (s.modMast m f).oli = s.oli := rfl

theorem modMast_mast_same (s : State) (m : Nat) (f : Mast → Mast) (h : thas s.wmn.masts m = true) :
    (s.modMast m f).mast m = f (s.mast m) := tget_tmod_same _ _ _ _ h

theorem modMast_mast_other (s : State) (m k : Nat) (f : Mast → Mast) (h : k ≠ m) : (s.modMast m f).mast k = s.mast k :=
  tget_tmod_other _ _ _ _ _ h

@[simp] theorem modZone_dsv (s : State) (z : Nat) (f : Zone → Zone) : (s.modZone z f).dsv = s.dsv := rfl
@[simp] theorem modZone_dish (s : State) (z d : Nat) (f : Zone → Zone) : (s.modZone z f).dish d = s.dish d := rfl
@[simp] theorem modZone_pbc (s : State) (z : Nat) (f : Zone → Zone) : (s.modZone z f).pbc = s.pbc := rfl
@[simp] theorem modZone_wmn (s : State) (z : Nat) (f : Zone → Zone) : (s.modZone z f).wmn = s.wmn := rfl
@[simp] theorem modZone_sls (s : State) (z : Nat) (f : Zone → Zone) : (s.modZone z f).sls = s.sls := rfl
@[simp] theorem modZone_fbu (s : State) (z : Nat) (f : Zone → Zone) : (s.modZone z f).fbu = s.fbu := rfl
@[simp] theorem modZone_mlc (s : State) (z : Nat) (f : Zone → Zone) : (s.modZone z f).mlc = s.mlc := rfl
@[simp] theorem modZone_lkt (s : State) (z : Nat) (f : Zone → Zone) : (s.modZone z f).lkt = s.lkt := rfl
@[simp] theorem modZone_nvs (s : State) (z : Nat) (f : Zone → Zone) : (s.modZone z f).nvs = s.nvs := rfl
@[simp] theorem modZone_act (s : State) (z : Nat) (f : Zone → Zone) : (s.modZone z f).act = s.act := rfl
@[simp] theorem modZone_oli (s : State) (z : Nat) (f : Zone → Zone) : (s.modZone z f).oli = s.oli := rfl

theorem modZone_zone_same (s : State) (z : Nat) (f : Zone → Zone) (h : thas s.znc.zones z = true) :
    (s.modZone z f).zone z = f (s.zone z) := tget_tmod_same _ _ _ _ h

theorem modZone_zone_other (s : State) (z k : Nat) (f : Zone → Zone) (h : k ≠ z) : (s.modZone z f).zone k = s.zone k :=
  tget_tmod_other _ _ _ _ _ h

@[simp] theorem modHeater_dsv (s : State) (d : Nat) (f : Heater → Heater) : (s.modHeater d f).dsv = s.dsv := rfl
@[simp] theorem modHeater_dish (s : State) (d e : Nat) (f : Heater → Heater) : (s.modHeater d f).dish e = s.dish e := rfl
@[simp] theorem modHeater_pbc (s : State) (d : Nat) (f : Heater → Heater) : (s.modHeater d f).pbc = s.pbc := rfl
@[simp] theorem modHeater_fbu (s : State) (d : Nat) (f : Heater → Heater) : (s.modHeater d f).fbu = s.fbu := rfl
@[simp] theorem modHeater_oli (s : State) (d : Nat) (f : Heater → Heater) : (s.modHeater d f).oli = s.oli := rfl
@[simp] theorem modHeater_act (s : State) (d : Nat) (f : Heater → Heater) : (s.modHeater d f).act = s.act := rfl
@[simp] theorem modHeater_nvs (s : State) (d : Nat) (f : Heater → Heater) : (s.modHeater d f).nvs = s.nvs := rfl
@[simp] theorem modHeater_policy (s : State) (d : Nat) (f : Heater → Heater) : (s.modHeater d f).mlc.policy = s.mlc.policy := rfl

theorem modHeater_heater_same (s : State) (d : Nat) (f : Heater → Heater) (h : thas s.mlc.heaters d = true) :
    (s.modHeater d f).heater d = f (s.heater d) := tget_tmod_same _ _ _ _ h

theorem modHeater_heater_other (s : State) (d e : Nat) (f : Heater → Heater) (h : e ≠ d) :
    (s.modHeater d f).heater e = s.heater e := tget_tmod_other _ _ _ _ _ h

@[simp] theorem modRecord_dsv (s : State) (id : Nat) (f : SlewRecord → SlewRecord) : (s.modRecord id f).dsv = s.dsv := rfl
@[simp] theorem modRecord_dish (s : State) (id d : Nat) (f : SlewRecord → SlewRecord) : (s.modRecord id f).dish d = s.dish d := rfl
@[simp] theorem modRecord_oli (s : State) (id : Nat) (f : SlewRecord → SlewRecord) : (s.modRecord id f).oli = s.oli := rfl
@[simp] theorem modRecord_act (s : State) (id : Nat) (f : SlewRecord → SlewRecord) : (s.modRecord id f).act = s.act := rfl

/-! ## Triggers, replies and the taking of an event -/

@[simp] theorem trigger_passDue (s : State) : s.trigger.fbu.passDue = true := rfl
@[simp] theorem trigger_feeders (s : State) : s.trigger.fbu.feeders = s.fbu.feeders := rfl
@[simp] theorem trigger_powered (s : State) : s.trigger.powered = s.powered := rfl
@[simp] theorem trigger_now (s : State) : s.trigger.now = s.now := rfl
@[simp] theorem trigger_moment (s : State) : s.trigger.moment = s.moment := rfl
@[simp] theorem trigger_pending (s : State) : s.trigger.pending = s.pending := rfl
@[simp] theorem trigger_dsv (s : State) : s.trigger.dsv = s.dsv := rfl
@[simp] theorem trigger_dish (s : State) (d : Nat) : s.trigger.dish d = s.dish d := rfl
@[simp] theorem trigger_pbc (s : State) : s.trigger.pbc = s.pbc := rfl
@[simp] theorem trigger_wmn (s : State) : s.trigger.wmn = s.wmn := rfl
@[simp] theorem trigger_znc (s : State) : s.trigger.znc = s.znc := rfl
@[simp] theorem trigger_sls (s : State) : s.trigger.sls = s.sls := rfl
@[simp] theorem trigger_mlc (s : State) : s.trigger.mlc = s.mlc := rfl
@[simp] theorem trigger_lkt (s : State) : s.trigger.lkt = s.lkt := rfl
@[simp] theorem trigger_nvs (s : State) : s.trigger.nvs = s.nvs := rfl
@[simp] theorem trigger_act (s : State) : s.trigger.act = s.act := rfl
@[simp] theorem trigger_oli (s : State) : s.trigger.oli = s.oli := rfl

@[simp] theorem begin_moment (s : State) : s.begin.moment = s.moment + 1 := rfl
@[simp] theorem begin_now (s : State) : s.begin.now = s.now := rfl
@[simp] theorem begin_powered (s : State) : s.begin.powered = s.powered := rfl
@[simp] theorem begin_pending (s : State) : s.begin.pending = s.pending := rfl
@[simp] theorem begin_dsv (s : State) : s.begin.dsv = s.dsv := rfl
@[simp] theorem begin_pbc (s : State) : s.begin.pbc = s.pbc := rfl
@[simp] theorem begin_wmn (s : State) : s.begin.wmn = s.wmn := rfl
@[simp] theorem begin_znc (s : State) : s.begin.znc = s.znc := rfl
@[simp] theorem begin_sls (s : State) : s.begin.sls = s.sls := rfl
@[simp] theorem begin_fbu (s : State) : s.begin.fbu = s.fbu := rfl
@[simp] theorem begin_mlc (s : State) : s.begin.mlc = s.mlc := rfl
@[simp] theorem begin_lkt (s : State) : s.begin.lkt = s.lkt := rfl
@[simp] theorem begin_nvs (s : State) : s.begin.nvs = s.nvs := rfl
@[simp] theorem begin_act (s : State) : s.begin.act = s.act := rfl
@[simp] theorem begin_oli (s : State) : s.begin.oli = s.oli := rfl

@[simp] theorem reply_replies (s : State) (r : Reply) : (s.reply r).oli.replies = s.oli.replies ++ [r] := rfl
@[simp] theorem reply_notices (s : State) (r : Reply) : (s.reply r).oli.notices = s.oli.notices := rfl
@[simp] theorem reply_enables (s : State) (r : Reply) : (s.reply r).oli.enables = s.oli.enables := rfl
@[simp] theorem reply_nvs (s : State) (r : Reply) : (s.reply r).nvs = s.nvs := rfl

end Sys2Proof.Machine
end

