-- ==== Sys2Proof/Laws/Link.lean ====
section
/-! SUPPORT. What the frame of an event can do: the choice of the next outbound frame, the end of an event, and the spec of a request
that is taken, of an event and of a timer. -/

namespace Sys2Proof.Machine

/-- Two states that agree in all but what the choice of an outbound frame sets. -/
def SameBesideLine (s t : State) : Prop :=
  ∃ x fp lf, t = { s with oli := { s.oli with sending := x, flowPending := fp, lastFlow := lf } }
    ∧ (s.oli.sending.isSome = true → x = s.oli.sending)

/-- The choice of the next outbound frame touches nothing but the line, and leaves a frame on the line alone (R197). -/
theorem transmit_frame (s : State) : SameBesideLine s s.transmit := by
  unfold State.transmit SameBesideLine
  split
  · exact ⟨s.oli.sending, s.oli.flowPending, s.oli.lastFlow, rfl, fun _ => rfl⟩
  · rename_i h
    have hn : ¬ s.oli.sending.isSome = true := by
      intro h'; simp [h'] at h
    split
    · exact ⟨_, _, _, rfl, fun h' => absurd h' hn⟩
    · split
      · exact ⟨_, _, _, rfl, fun h' => absurd h' hn⟩
      · split
        · exact ⟨_, _, _, rfl, fun h' => absurd h' hn⟩
        · exact ⟨_, _, _, rfl, fun _ => rfl⟩

/-- With no RESTART in progress an event ends with the choice of the next outbound frame alone. -/
theorem finish_idle (s : State) (h : s.nvs.phase = .idle) : s.finish = s.transmit := by
  simp [State.finish, State.restartProgress, h]

theorem finish_frame (s : State) (h : s.nvs.phase = .idle) : SameBesideLine s s.finish := by
  rw [finish_idle s h]; exact transmit_frame s

/-- The state in which the owner sees a request that has been taken. -/
def State.taken (s : State) : State := ({ s with oli := s.oli.leave }).begin

theorem taken_oli (s : State) : s.taken.oli = s.oli.leave := rfl

@[simp] theorem leave_inbound (o : Oli) : o.leave.inbound = o.inbound.tail := by
  unfold Oli.leave; simp only; split <;> rfl
@[simp] theorem leave_replies (o : Oli) : o.leave.replies = o.replies := by
  unfold Oli.leave; simp only; split <;> rfl
@[simp] theorem leave_notices (o : Oli) : o.leave.notices = o.notices := by
  unfold Oli.leave; simp only; split <;> rfl
@[simp] theorem leave_enables (o : Oli) : o.leave.enables = o.enables := by
  unfold Oli.leave; simp only; split <;> rfl
@[simp] theorem leave_sending (o : Oli) : o.leave.sending = o.sending := by
  unfold Oli.leave; simp only; split <;> rfl
@[simp] theorem leave_counts (o : Oli) : o.leave.counts = { o.counts with taken := min 4294967295 (o.counts.taken + 1) } := by
  unfold Oli.leave; simp only; split <;> simp [Oli.setFlow, inc32, satAdd, top32]

theorem leave_flow (o : Oli) (h : o.inbound ≠ []) :
    o.leave.flow = if o.flow = .hold ∧ o.inbound.length = 3 then .go else o.flow := by
  obtain ⟨c, l, hl⟩ := List.exists_cons_of_ne_nil h
  unfold Oli.leave
  simp only [hl, List.tail_cons, List.length_cons]
  cases hf : o.flow <;> simp [Oli.setFlow]
  split <;> simp_all

@[simp] theorem taken_powered (s : State) : s.taken.powered = s.powered := rfl
@[simp] theorem taken_now (s : State) : s.taken.now = s.now := rfl
@[simp] theorem taken_moment (s : State) : s.taken.moment = s.moment + 1 := rfl
@[simp] theorem taken_pending (s : State) : s.taken.pending = s.pending := rfl
@[simp] theorem taken_dsv (s : State) : s.taken.dsv = s.dsv := rfl
@[simp] theorem taken_dish (s : State) (d : Nat) : s.taken.dish d = s.dish d := rfl
@[simp] theorem taken_pbc (s : State) : s.taken.pbc = s.pbc := rfl
@[simp] theorem taken_wmn (s : State) : s.taken.wmn = s.wmn := rfl
@[simp] theorem taken_znc (s : State) : s.taken.znc = s.znc := rfl
@[simp] theorem taken_sls (s : State) : s.taken.sls = s.sls := rfl
@[simp] theorem taken_fbu (s : State) : s.taken.fbu = s.fbu := rfl
@[simp] theorem taken_mlc (s : State) : s.taken.mlc = s.mlc := rfl
@[simp] theorem taken_lkt (s : State) : s.taken.lkt = s.lkt := rfl
@[simp] theorem taken_nvs (s : State) : s.taken.nvs = s.nvs := rfl
@[simp] theorem taken_act (s : State) : s.taken.act = s.act := rfl

/-- What an owner may do to a taken request's state beside its records: notices become pending, nothing else of OLI changes. -/
def OwnerFrame (u v : State) : Prop :=
  v.powered = u.powered ∧ v.now = u.now ∧ v.moment = u.moment ∧ v.pending = u.pending ∧ v.oli.inbound = u.oli.inbound
    ∧ v.oli.flow = u.oli.flow ∧ v.oli.replies = u.oli.replies ∧ v.oli.counts = u.oli.counts ∧ v.oli.sending = u.oli.sending

theorem OwnerFrame.refl (u : State) : OwnerFrame u u := by simp [OwnerFrame]

theorem onRequest_ready (s : State) (c : Instr) (owner : State → Handled) (b : Bool) (h : Ready s c) :
    s.onRequest c owner b = (s.taken.handOver c b owner).finish := by
  obtain ⟨hp, _, hf, hr⟩ := h
  have hq : s.queued c = s := by
    have : s.oli.inbound.isEmpty = false := by
      cases hi : s.oli.inbound with
      | nil => simp [hi] at hf
      | cons => rfl
    simp [State.queued, this]
  have ht : s.takes c = true := by simp [State.takes, hp, hf, hr]
  simp [State.onRequest, hq, ht, State.takeRequest, State.taken]

/-- The state in which the owner has answered, before the next outbound frame is chosen. -/
theorem onRequest_answered (s : State) (c : Instr) (owner : State → Handled) (b : Bool) (kind tag : Nat) (v : State) (r : Result)
    (h : Ready s c) (hc : requestOf c = some (kind, tag)) (ho : owner s.taken = (v, some r)) (hv : v.nvs.phase = .idle) :
    ∃ t, s.onRequest c owner b = t ∧ SameBesideLine (v.reply { kind := kind, tag := tag, result := r }) t := by
  refine ⟨_, rfl, ?_⟩
  have hi : s.nvs.phase = .idle := h.2.1
  have hh : s.taken.handOver c b owner = v.reply { kind := kind, tag := tag, result := r } := by
    simp [State.handOver, hc, hi, ho]
  rw [onRequest_ready s c owner b h, hh]
  exact finish_frame _ hv

/-- The completion of a request, from what its owner answers. -/
theorem answers_of (s : State) (c : Instr) (owner : State → Handled) (b : Bool) (kind tag : Nat) (v : State) (r : Result)
    (l : List Block) (p : State → Prop) (h : Ready s c) (hc : requestOf c = some (kind, tag))
    (he : exec c s = .next (s.onRequest c owner b)) (ho : owner s.taken = (v, some r)) (hv : v.nvs.phase = .idle)
    (hf : OwnerFrame s.taken v) (hen : v.oli.enables = s.oli.enables) (hb : SameBut l s v)
    (hp : ∀ t, SameBesideLine (v.reply { kind := kind, tag := tag, result := r }) t → p t) : Answers c s kind tag r l p := by
  obtain ⟨t, ht, hs⟩ := onRequest_answered s c owner b kind tag v r h hc ho hv
  refine ⟨t, by rw [he, ht], ?_, ?_, ?_, ?_, hp t hs⟩
  · obtain ⟨x, fp, lf, rfl, hx⟩ := hs
    obtain ⟨h1, h2, h3, h4, h5, h6, _, h8, h9⟩ := hf
    have hne : s.oli.inbound ≠ [] := by
      intro hn; simp [Ready, hn] at h
    refine ⟨h1, h2, h3, h4, ?_, ?_, ?_, ?_⟩
    · simpa [State.reply, taken_oli] using h5
    · simpa [State.reply, taken_oli] using h8
    · simpa [State.reply, taken_oli, leave_flow _ hne] using h6
    · intro hso
      have : v.oli.sending = s.oli.sending := by simpa [taken_oli] using h9
      simpa [State.reply, this] using hx (by simpa [State.reply, this] using hso)
  · obtain ⟨x, fp, lf, rfl, _⟩ := hs
    have := hf.2.2.2.2.2.2.1
    simp [State.reply, this, taken_oli]
  · obtain ⟨x, fp, lf, rfl, _⟩ := hs
    simpa [State.reply] using hen
  · obtain ⟨x, fp, lf, rfl, _⟩ := hs
    simpa [SameBut, State.reply] using hb

/-- The completion of a request whose reply is deferred. -/
theorem defers_of (s : State) (c : Instr) (owner : State → Handled) (kind tag : Nat) (v : State) (l : List Block)
    (p : State → Prop) (h : Ready s c) (hc : requestOf c = some (kind, tag)) (he : exec c s = .next (s.onRequest c owner))
    (ho : owner s.taken = (v, none)) (hf : OwnerFrame s.taken v) (hen : v.oli.enables = s.oli.enables) (hb : SameBut l s v)
    (hv : v.nvs.phase = .idle) (hp : ∀ t, SameBesideLine v t → p t) : Defers c s l p := by
  have hi : s.nvs.phase = .idle := h.2.1
  have hh : s.taken.handOver c false owner = v := by simp [State.handOver, hc, hi, ho]
  have hs : SameBesideLine v (s.onRequest c owner) := by
    rw [onRequest_ready s c owner false h, hh]; exact finish_frame _ hv
  refine ⟨_, he, ?_, ?_, ?_, ?_, hp _ hs⟩
  · obtain ⟨x, fp, lf, hx', hx⟩ := hs
    obtain ⟨h1, h2, h3, h4, h5, h6, _, h8, h9⟩ := hf
    have hne : s.oli.inbound ≠ [] := by
      intro hn; simp [Ready, hn] at h
    rw [hx']
    refine ⟨h1, h2, h3, h4, ?_, ?_, ?_, ?_⟩
    · simpa [taken_oli] using h5
    · simpa [taken_oli] using h8
    · simpa [taken_oli, leave_flow _ hne] using h6
    · intro hso
      have : v.oli.sending = s.oli.sending := by simpa [taken_oli] using h9
      simpa [this] using hx (by simpa [this] using hso)
  · obtain ⟨x, fp, lf, hx', _⟩ := hs
    have := hf.2.2.2.2.2.2.1
    simp [hx', this, taken_oli]
  · obtain ⟨x, fp, lf, hx', _⟩ := hs
    simpa [hx'] using hen
  · obtain ⟨x, fp, lf, hx', _⟩ := hs
    simpa [SameBut, hx'] using hb

/-- The completion of an event of a part that runs and is in no RESTART. -/
theorem event_of (s : State) (occurs : Bool) (f : State → State) (h : Running s) (ho : occurs = true)
    (hv : (f s.begin).nvs.phase = .idle) : SameBesideLine (f s.begin) (s.onEvent occurs f) := by
  have : s.onEvent occurs f = (f s.begin).finish := by simp [State.onEvent, h.1, ho]
  rw [this]; exact finish_frame _ hv

/-- The completion of a timer expiry. -/
theorem timer_of (s : State) (due : Nat) (f : State → State) (h : Running s) (hv : (f (s.beginAt due)).nvs.phase = .idle) :
    SameBesideLine (f (s.beginAt due)) (s.onTimer (some due) f) := by
  have : s.onTimer (some due) f = (f (s.beginAt due)).finish := by simp [State.onTimer, h.1]
  rw [this]; exact finish_frame _ hv

/-- A refused hand-over leaves the owner's records alone. -/
theorem refuse_answered (s : State) (c : Instr) (owner : State → Handled) (kind tag : Nat) (why : Reason) (h : Ready s c)
    (hc : requestOf c = some (kind, tag)) (he : exec c s = .next (s.onRequest c owner)) (ho : owner s.taken = s.taken.refuse why) :
    Reads c s kind tag (.refused why) := by
  refine answers_of s c owner false kind tag s.taken _ [] _ h hc he ho h.2.1 (OwnerFrame.refl _) ?_ ?_ ?_
  · simp [taken_oli]
  · simp [SameBut]
  · rintro t ⟨x, fp, lf, rfl, _⟩
    simp [State.reply, taken_oli]

/-- An answered hand-over that changes no record. -/
theorem read_answered (s : State) (c : Instr) (owner : State → Handled) (b : Bool) (kind tag : Nat) (x : Contents) (h : Ready s c)
    (hc : requestOf c = some (kind, tag)) (he : exec c s = .next (s.onRequest c owner b)) (ho : owner s.taken = s.taken.answer x) :
    Reads c s kind tag (.ok x) := by
  refine answers_of s c owner b kind tag s.taken _ [] _ h hc he ho h.2.1 (OwnerFrame.refl _) ?_ ?_ ?_
  · simp [taken_oli]
  · simp [SameBut]
  · rintro t ⟨x, fp, lf, rfl, _⟩
    simp [State.reply, taken_oli]

end Sys2Proof.Machine
end

