-- ==== Sys2Proof/Laws/Invariants.lean ====
section
/-! SUPPORT. Tests by evaluation for the invariants of Safety.lean on a concrete state, the state in which a request has arrived, and the
completion of an event as `Happens` says it. -/

namespace Sys2Proof.Machine

/-- `ClaimFits` as a test. -/
def Dish.fitsTest (r : Dish) : Bool :=
  (r.task.isSome == (match r.claim with | some c => c.ref == .task | none => false))
    && (r.task != some .home || r.state == .unreferenced || r.state == .homing)
    && (r.claim.isNone || r.task == some .home || r.state == .ready || r.state == .slewing)
    && (match r.timer with | some x => x.kind != .stop || r.state == .stopping | none => true)

theorem claimFits_of_test (r : Dish) (h : r.fitsTest = true) : ClaimFits r := by
  unfold Dish.fitsTest at h
  simp only [Bool.and_eq_true] at h
  obtain ⟨⟨⟨h1, h2⟩, h3⟩, h4⟩ := h
  refine ⟨?_, ?_, ?_, ?_⟩
  · cases hc : r.claim <;> simp_all
  · intro ht; simpa [ht] using h2
  · intro hs ht
    cases hc : r.claim <;> simp_all
  · intro x hx hk; simpa [hx, hk] using h4

theorem tget_mem_or_default {α : Type} (l : List α) (n : Nat) (x : α) : tget l n x ∈ l ∨ tget l n x = x := by
  cases n with
  | zero => exact .inr rfl
  | succ k =>
    by_cases h : k < l.length
    · left; simp [tget, h]
    · right; simp [tget, List.getD, List.getElem?_eq_none (Nat.le_of_not_lt h)]

theorem claimsFit_of_test (s : State) (h : s.dsv.dishes.all Dish.fitsTest = true) : ClaimsFit s := by
  intro d
  apply claimFits_of_test
  rcases tget_mem_or_default s.dsv.dishes d Dish.initial with hm | hm
  · exact List.all_eq_true.mp h _ hm
  · show Dish.fitsTest (tget _ _ _) = true
    rw [hm]; rfl

/-- `Account` of every feeder as a test. -/
def State.accountsTest (s : State) : Bool :=
  allFeeders.all (fun f =>
    let r := s.feeder f
    r.slewCommitted == reserved s f && r.heatCommitted == heated s f && r.ceiling == max r.limit (r.slewCommitted + r.heatCommitted)
      && (r.allowance : Int) == max 0 (min (r.heatCap : Int) (r.limit - r.reserve - r.slewCommitted)))

theorem accounts_of_test (s : State) (h : s.accountsTest = true) : Accounts s := by
  have h' := List.all_eq_true.mp h
  intro f
  have := h' f (by cases f <;> simp [allFeeders])
  simp only [Bool.and_eq_true, beq_iff_eq] at this
  exact ⟨this.1.1.1, this.1.1.2, this.1.2, this.2⟩

/-- `HeaterStages` from a test of every heater record. -/
theorem heaterStages_of_test (s : State) (h : s.mlc.heaters.all (fun x => decide (x.requested ≤ 4) && decide (x.granted ≤ x.counted)) = true) :
    HeaterStages s := by
  intro d
  rcases tget_mem_or_default s.mlc.heaters d ({} : Heater) with hm | hm
  · have hh := List.all_eq_true.mp h _ hm
    simpa [State.heater] using hh
  · have hd : s.heater d = {} := hm
    rw [hd]; decide

/-- `Shape` as a test. -/
def State.shapeTest (s : State) : Bool :=
  s.dsv.dishes.length == 48 && s.pbc.slots.length == 48 && s.mlc.heaters.length == 48 && s.wmn.masts.length == 4
    && s.znc.zones.length == 8 && s.znc.bankA.length == 8 && s.znc.bankB.length == 8 && s.sls.groups.length == 16
    && s.lkt.entries.length == 64 && s.nvs.slots.length == 63 && s.act.counters.length == 8
    && decide (s.oli.inbound.length ≤ 8) && decide (s.sls.table.length ≤ 32) && decide (s.lkt.queue.length ≤ 8)
    && decide (s.pbc.commandCount ≤ 8) && s.wmn.masts.all (fun m => decide (m.window.length ≤ 60))
    && s.pbc.slots.all (fun sl => decide (sl.seq < 16))

theorem shape_of_test (s : State) (h : s.shapeTest = true) : Shape s := by
  simpa [State.shapeTest, Shape, and_assoc] using h

/-- The state in which the request is the only one in the inbound queue. -/
def State.asked (s : State) (c : Instr) : State := { s with oli.inbound := [c] }

/-- A part that runs takes a request that has just arrived. -/
theorem ready_asked (s : State) (c : Instr) (h : Running s) (hr : s.oli.replies.length < 16) : Ready (s.asked c) c :=
  ⟨h.1, h.2, rfl, hr⟩

theorem shape_asked (s : State) (c : Instr) (h : Shape s) : Shape (s.asked c) := by
  obtain ⟨h1, h2, h3, h4, h5, h6, h7, h8, h9, h10, h11, _, h13⟩ := h
  exact ⟨h1, h2, h3, h4, h5, h6, h7, h8, h9, h10, h11, by simp [State.asked], h13⟩

/-- The completion of an event, from what it makes of the state. -/
theorem happens_of (c : Instr) (s v : State) (now : Nat) (l : List Block) (p : State → Prop)
    (he : ∃ t, exec c s = .next t ∧ SameBesideLine v t) (hv : v.powered = true ∧ v.now = now ∧ v.moment = s.moment + 1 ∧ v.pending = s.pending)
    (hb : SameBut l s v) (hp : ∀ t, SameBesideLine v t → p t) : Happens c s now l p := by
  obtain ⟨t, ht, hs⟩ := he
  refine ⟨t, ht, ?_⟩
  have hpt := hp t hs
  obtain ⟨x, fp, lf, rfl, _⟩ := hs
  exact ⟨hv.1, hv.2.1, hv.2.2.1, hv.2.2.2, by simpa [SameBut] using hb, hpt⟩

end Sys2Proof.Machine
end

