-- ==== Sys2Proof/Tests/Slice0.lean ====
section
/-! SUPPORT. Tests: the well-formedness checks, single steps with values worked out from the spec, and for every statement that has
hypotheses a witness that meets them. -/

open Sys2Proof Sys2Proof.Machine Sys2Proof.Claims

namespace Sys2Proof.Tests

set_option Elab.async false

/-! ## Well-formedness: each check refuses an ill-formed command -/

theorem test_wf_tag_zero : (Instr.identify 0).wf = false := by decide
theorem test_wf_tag_high : (Instr.restart 256).wf = false := by decide
theorem test_wf_body_long : (Instr.olFrameArrival 1 1 (List.replicate 1025 0) 0).wf = false := by decide +kernel
theorem test_wf_dish_byte : (Instr.dishRehome 1 256).wf = false := by decide
theorem test_wf_profile : (Instr.dishSetProfile 1 1 { bSlew := some 65536 } {}).wf = false := by decide
theorem test_wf_profile_angle : (Instr.dishSetProfile 1 1 { shedEl := some 2147483648 } {}).wf = false := by decide
theorem test_wf_supervision : (Instr.dishSetProfile 1 1 {} { nSettle := some 256 }).wf = false := by decide
theorem test_wf_assign : (Instr.dishAssign 1 1 (some 256) none).wf = false := by decide
theorem test_wf_slew_angle : (Instr.slew 1 1 { az := 2147483648, el := 0 }).wf = false := by decide
theorem test_wf_slew_rate : (Instr.slew 1 1 { az := 0, el := 0, rateAz := some 65536 }).wf = false := by decide
theorem test_wf_selector : (Instr.jointSlew 1 (.group 256) 1 { az := 0, el := 0 }).wf = false := by decide
theorem test_wf_slew_id : (Instr.slewCancel 1 256 none).wf = false := by decide
theorem test_wf_feeder : (Instr.feederSet 1 0 (some 4294967296) none none).wf = false := by decide
theorem test_wf_mast_set : (Instr.mastSet 1 1 (some 65536) none).wf = false := by decide
theorem test_wf_zone_edit : (Instr.zoneSet 1 1 { stowAz := some (some 2147483648) }).wf = false := by decide
theorem test_wf_row : (Instr.bankWriteRow 1 0 1 ⟨65536, 0, 0, 0, 0, 0⟩).wf = false := by decide
theorem test_wf_policy : (Instr.heatPolicySet 1 { bandHigh := some 32768 }).wf = false := by decide
theorem test_wf_place : (Instr.lockPlace 1 ⟨256, none, 1, true, false, none, none⟩).wf = false := by decide
theorem test_wf_note : (Instr.lockPlace 1 ⟨1, none, 1, true, false, some (List.replicate 256 65), none⟩).wf = false := by decide +kernel
theorem test_wf_release_stamp : (Instr.lockRelease 1 1 none (some 4294967296)).wf = false := by decide
theorem test_wf_counter : (Instr.counterSet 1 1 ⟨some 256, none, 0, none⟩).wf = false := by decide
theorem test_wf_reply_length : (Instr.plReplyReceived []).wf = false := by decide
theorem test_wf_gap_length : (Instr.plReplyGap []).wf = false := by decide
theorem test_wf_timer_dish : (Instr.slewTimerExpiry 49).wf = false := by decide
theorem test_wf_mast_number : (Instr.mastFrameGapTimeout 5).wf = false := by decide
theorem test_wf_mast_bytes : (Instr.mastReportFrame 1 [] false).wf = false := by decide
theorem test_wf_mast_framing : (Instr.mastReportFrame 1 [0x11] true).wf = false := by decide
theorem test_wf_mast_framing_begun : (Instr.mastReportFrame 1 [0xA5] true).wf = true := by decide
theorem test_wf_zone_number : (Instr.releaseTimerExpiry 9).wf = false := by decide
theorem test_wf_record_id : (Instr.deadlineExpiry 0).wf = false := by decide
theorem test_wf_accepts : (Instr.slew 255 48 { az := -270000, el := 90000 }).wf = true := by decide

/-- No row of the table gives bits, so no word spells a command. -/
theorem test_no_table_word (nbits w : Nat) : decodeTableWord nbits w = none := rfl

/-! ## States -/

/-- The state after a command that answers a next state. -/
def after (c : Instr) (s : State) : State :=
  match exec c s with
  | .next t => t
  | .fault _ => s
  | .refused _ => s

/-- A quiet status at az 0 and el 45 degrees. -/
def idle : Status :=
  { az := 0, el := 45000, moving := false, inPosition := true, echo := 0, referenced := true, owner := .remote, key := .clear, fault := 0,
    temp := 0, surface := .dry, applied := 0 }

def setDish (d : Nat) (f : Dish → Dish) (s : State) : State := s.modDish d f

/-- Dishes 1 and 2 are READY at az 0, el 45 degrees. -/
def one : State :=
  setDish 2 (fun r => { r with state := .ready, last := some idle, lastGood := some 0 })
    (setDish 1 (fun r => { r with state := .ready, last := some idle, lastGood := some 0 }) State.reset)

/-- The characters of a STATUS frame of dish 1 with a body. -/
def statusBody (st : Status) (result : Nat) : List Byte :=
  let flag (b : Bool) (n : Nat) : Nat := if b then n else 0
  leInt 4 st.az ++ leInt 4 st.el
    ++ le 1 (flag st.moving 1 + flag st.inPosition 2 + flag st.referenced 4 + (match st.owner with | .remote => 0 | .handset => 8))
    ++ le 1 st.echo ++ le 1 (match st.key with | .clear => 0 | .driveOff => 1 | .allOff => 2) ++ le 1 st.fault ++ leInt 2 st.temp
    ++ le 1 (match st.surface with | .dry => 0 | .wet => 1 | .ice => 2 | .sensorFail => 3) ++ le 1 st.applied ++ le 1 result

def statusFrame (d : Nat) (st : Status) (result : Nat) : List PlChar := plFrame d 0x10 (statusBody st result)

/-- A target 10 degrees away in azimuth. -/
def target : SlewArgs := { az := 10000, el := 45000 }

/-- Dish 1 holds the waiting claim of record 1. -/
def waiting : State := after (.slew 1 1 target) one

/-- The claim has been admitted and its MOVE ordered. -/
def admitted : State := after .admissionPass waiting

/-- The MOVE is in flight. -/
def moving : State := after .plTransactionStart admitted

/-- The drive has accepted the MOVE. -/
def slewing : State := after (.plReplyReceived (statusFrame 1 { idle with echo := 1 } 1)) moving

/-- A POLL of dish 1 is in flight. -/
def polling : State := after .plTransactionStart one

/-! ## Single steps, with values from the spec -/

/-- Default B_slew 4 000 W and C 20 at gust 999 without a source: the demand is Dmax, 12 000 W (R121, Table 3). -/
theorem test_admission_reserves_dmax_without_a_source : (admitted.dish 1).reservation = some 12000 := by decide +kernel

/-- R131: the reservation adds to slew committed of feeder A. -/
theorem test_admission_commits_power : (admitted.feeder .a).slewCommitted = 12000 := by decide +kernel

/-- R43: the first MOVE carries sequence 1. -/
theorem test_first_move_has_sequence_one : (moving.pbc.flight.map (·.kind)) = some (.move 1) := by decide +kernel

/-- R17, R124: az 10 000 mdeg at 2 000 mdeg/s and 500 mdeg/s²: 10 × (10 000 × 500 + 2 000²) over 2 000 × 500 is 90 tenths; the slew timeout
is 90 × 3 / 2 + 100 = 235 tenths. The reply comes at 1 ms, the end of the MOVE frame of 21 characters of 11 µs. -/
theorem test_slew_timer_is_armed : (slewing.dish 1).timer = some { kind := .slew, due := 23501 } := by decide +kernel

/-- R29: PL_DE is asserted at 0 ms, while the MOVE frame is sent, and released at 1 ms, before the reply. -/
theorem test_pl_de_ends_with_the_frame : moving.plDe = true ∧ ({ moving with now := 1 } : State).plDe = false := by decide +kernel

theorem test_accepted_move_is_slewing : (slewing.dish 1).state = .slewing := by decide +kernel

/-- Table 36, first row: 60 degrees of azimuth at 1 000 mdeg/s and 300 mdeg/s² take 634 tenths. -/
theorem test_table_36_first_row : axisEstimate 60000 1000 300 = 634 := by decide +kernel

/-- R56: the gust of 100, 101 and 103 is 304 / 3 rounded, 101. -/
theorem test_gust_is_rounded : gustOf [5, 100, 101, 103] = some 101 := by decide

/-- R54: 100 pulses at gain 256 and offset 3 give 103 dm/s. -/
theorem test_speed_of_pulses : speedOf 256 3 100 = 103 := by decide

/-- R54: no pulse is no wind, whatever the offset. -/
theorem test_speed_of_no_pulse : speedOf 256 50 0 = 0 := by decide

/-- R70: a bank other than A and B is refused. -/
theorem test_bank_two_is_refused :
    ((after (.bankSelect 7 2) State.reset).oli.replies.map (·.result)) = [.refused .outOfRange] := by decide +kernel

/-- R94: the first record takes id 1. -/
theorem test_first_record_is_one : waiting.sls.lastId = 1 := by decide +kernel

/-- R176: the stop line gives entry 0 over all 48 dishes and stops the admitted claim. -/
theorem test_estop_stops_dish_one : ((after .estopAssert admitted).dish 1).state = .stopping := by decide +kernel

/-- R185: the tick moves the timer by one second. -/
theorem test_tick_restarts_itself : (after .oneSecondTick State.reset).act.tickDue = 2000 := by decide +kernel

/-- R206: power-up over a blank store takes the defaults and says so. -/
theorem test_power_up_is_defaulted :
    (after (.powerUp true) (after (.powerFail .previous) State.reset)).nvs.defaulted = true := by decide +kernel

/-- R191, R212: the HOLD frame is start byte, length 0, kind FE, tag 0 and the CRC of FE 00. -/
theorem test_hold_frame_starts : (olFrame 0xFE 0 []).take 5 = [0x7E, 0, 0, 0xFE, 0] := by decide +kernel


/-- R212: the CRC of "123456789" is 29B1. -/
theorem test_crc_check_value : crc16 [0x31, 0x32, 0x33, 0x34, 0x35, 0x36, 0x37, 0x38, 0x39] = 0x29B1 := by decide +kernel

/-! ## Witnesses: each statement's hypotheses are met -/

theorem running_of (s : State) (h : (s.powered && s.nvs.phase == .idle) = true) : Running s := by simpa [Running] using h

theorem all_of {α : Type} {o : Option α} (p : α → Bool) (h : o.all p = true) (x : α) (hx : o = some x) : p x = true := by
  simpa [hx] using h

theorem reset_running : Running State.reset := running_of _ (by decide +kernel)
theorem one_running : Running one := running_of _ (by decide +kernel)
theorem reset_shape : Shape State.reset := shape_of_test _ (by decide +kernel)
theorem one_shape : Shape one := shape_of_test _ (by decide +kernel)
theorem one_fits : ClaimsFit one := claimsFit_of_test _ (by decide +kernel)
theorem reset_asked (c : Instr) : Ready (State.reset.asked c) c := ready_asked _ c reset_running (by decide +kernel)
theorem one_asked (c : Instr) : Ready (one.asked c) c := ready_asked _ c one_running (by decide +kernel)
theorem one_asked_shape (c : Instr) : Shape (one.asked c) := shape_asked _ c one_shape

def off : State := after (.powerFail .previous) State.reset

theorem witness_step : ({ State.reset with pending := [.oneSecondTick] } : State).pending = .oneSecondTick :: [] ∧ State.reset.pending = []
    ∧ State.reset.powered = true ∧ off.pending = [] ∧ off.powered = false := by decide +kernel

/-- A queue whose front is another request, and 16 replies waiting. -/
theorem witness_cannot_occur : off.powered = false ∧ (∀ e, Instr.restart 1 ≠ .powerUp e)
    ∧ (requestOf (.restart 1)).isSome = true ∧ (State.reset.asked (.identify 2)).oli.inbound ≠ []
    ∧ (State.reset.asked (.identify 2)).oli.inbound.head? ≠ some (.restart 1)
    ∧ 16 ≤ ({ State.reset with oli.replies := List.replicate 16 { kind := 1, tag := 1, result := .refused .busy } } : State).oli.replies.length := by
  refine ⟨by decide +kernel, by simp, by decide, by decide +kernel, by decide +kernel, by decide +kernel⟩

/-- Right after reset most events cannot occur; with a POLL in flight no other transaction can start, and a reply that comes after 5 ms, the
close of its window, cannot be taken. -/
theorem witness_events_that_cannot_occur : CannotOccur State.reset (.powerUp true) ∧ CannotOccur State.reset .olFrameSent
    ∧ CannotOccur State.reset .storeWriteStart ∧ CannotOccur State.reset (.lockStoreComplete .success)
    ∧ CannotOccur State.reset (.settingsSaveComplete .success) ∧ CannotOccur State.reset .restartStopTimerExpiry
    ∧ CannotOccur State.reset .quietTimerExpiry ∧ CannotOccur State.reset .estopDeassert ∧ CannotOccur State.reset .plReplyWindowExpiry
    ∧ CannotOccur State.reset (.plReplyReceived []) ∧ CannotOccur State.reset (.plReplyGap []) ∧ CannotOccur State.reset .plBroadcastEnd
    ∧ CannotOccur State.reset (.slewTimerExpiry 1) ∧ CannotOccur State.reset (.homeTimerExpiry 1)
    ∧ CannotOccur State.reset (.stopTimerExpiry 1) ∧ CannotOccur State.reset (.slotTimerExpiry 5)
    ∧ CannotOccur State.reset (.mastReportFrame 1 [0x11] true) ∧ CannotOccur State.reset (.mastReportFrame 1 [0xA5] false)
    ∧ CannotOccur State.reset (.releaseTimerExpiry 1) ∧ CannotOccur State.reset .admissionPass
    ∧ CannotOccur State.reset (.sensorHoldExpiry 1) ∧ CannotOccur State.reset (.deadlineExpiry 1) ∧ CannotOccur polling .plTransactionStart
    ∧ CannotOccur { polling with now := 6 } (.plReplyGap [⟨true, 1⟩]) := by
  have none_of {α : Type} {o : Option α} (h : o = none) (x : α) : o ≠ some x := by simp [h]
  refine ⟨.powerUp _ (by decide +kernel), .frameSent (by decide +kernel), .writeStart (.inr ⟨by decide +kernel, by decide +kernel⟩),
    .lockComplete _ ?_, .saveComplete _ ?_, .stopTimer (by decide +kernel), .quietTimer (by decide +kernel), .lineDown (by decide +kernel),
    .unasked _ ?_ (.inl rfl), .wrongLength _ (by decide), .noGap _ (.inl rfl), .noBroadcast ?_,
    .slewTimer _ (fun _ => none_of (by decide +kernel) _), .homeTimer _ (fun _ => none_of (by decide +kernel) _),
    .stopTimerOf _ (fun _ => none_of (by decide +kernel) _), .noMast _ 5 (.inr (by decide +kernel)) (.inr (.inl rfl)),
    .noStart _ _ _ (by decide), .noFrame _ _ (by decide), .releaseTimer _ (.inr (.inr (by decide +kernel))), .pass (by decide +kernel),
    .holdTimer _ ?_, .deadline _ ?_, .busTaken (by decide +kernel),
    .late _ { kind := .poll, station := 1, frameEnd := 1, windowDue := 5, frame := plFrame 1 1 [] } (by decide +kernel) (by decide)
      ⟨_, .inr rfl⟩⟩
  · intro i x h; exact absurd h (by rw [show State.reset.nvs.path = .free by decide +kernel]; simp)
  · intro x c h; exact absurd h (by rw [show State.reset.nvs.path = .free by decide +kernel]; simp)
  · intro x h; exact absurd h (none_of (by decide +kernel) _)
  · intro x h; exact absurd h (none_of (by decide +kernel) _)
  · intro due; rw [show (State.reset.heater 1).hold = .absent by decide +kernel]; simp
  · intro r h; exact absurd h (none_of (by decide +kernel) _)

/-- A heater gate as a test. -/
def gateTest (s : State) (d : Nat) : Bool :=
  let shut := covered s (·.heat) d || (match (s.dish d).last with | some x => x.key == .allOff | none => false)
  (((s.heater d).state == .disabled) == !(s.dish d).profile.heatEnable)
    && (!(s.dish d).profile.heatEnable || (((s.heater d).state == .blocked) == shut))

theorem gate_of_test (s : State) (h : allDishes.all (gateTest s) = true) (d : Nat) (h1 : 1 ≤ d) (h2 : d ≤ 48) : HeaterGate s d := by
  have hm : d ∈ allDishes := by simp only [allDishes, List.mem_map, List.mem_range]; exact ⟨d - 1, by omega, by omega⟩
  have := List.all_eq_true.mp h d hm
  unfold gateTest at this
  unfold HeaterGate
  cases he : (s.dish d).profile.heatEnable <;> cases hl : (s.dish d).last <;> simp_all
  · rw [← this.2]; simp
  · have := this.2
    rw [Bool.eq_iff_iff] at this
    simpa using this

theorem one_gates : ∀ d, 1 ≤ d → d ≤ 48 → HeaterGate one d := gate_of_test _ (by decide +kernel)

theorem witness_invariants_are_kept : Shape one ∧ Accounts one ∧ ClaimsFit one ∧ (∀ d, 1 ≤ d → d ≤ 48 → HeaterGate one d)
    ∧ ∃ t, step one = .next t :=
  ⟨one_shape, accounts_of_test _ (by decide +kernel), one_fits, one_gates, _, rfl⟩

/-- RESTART is in progress: DRAINING with a save pending. -/
def draining : State := after (.restart 9) { State.reset with nvs.save := .pending }

theorem witness_restart_in_progress : (draining.asked (.identify 1)).powered = true ∧ (draining.asked (.identify 1)).nvs.phase ≠ .idle
    ∧ (draining.asked (.identify 1)).oli.replies.length < 16 ∧ (draining.asked (.identify 1)).drained = false
    ∧ (draining.asked (.identify 1)).nvs.phase ≠ .stopping ∧ (draining.asked (.zoneStow 1 1)).oli.inbound.head? = some (.zoneStow 1 1) := by
  decide +kernel

theorem witness_link_requests : Ready (State.reset.asked (.identify 1)) (.identify 1)
    ∧ Ready (State.reset.asked (.linkStatus 1)) (.linkStatus 1) ∧ Ready (State.reset.asked (.noticeEnable 1 {})) (.noticeEnable 1 {}) :=
  ⟨reset_asked _, reset_asked _, reset_asked _⟩

/-- A SLEW of dish 1 to az 10 000 and el 45 000 mdeg with a rate of 300 mdeg/s in elevation, byte by byte (R211). -/
def slewBytes : List Byte := [1, 0x10, 0x27, 0, 0, 0xC8, 0xAF, 0, 0, 0, 1, 0x2C, 1, 0]

theorem witness_received_frame : Running State.reset ∧ (Instr.slew 7 1 { target with rateEl := some 300 }).wf = true
    ∧ requestOf (.slew 7 1 { target with rateEl := some 300 }) = some (0x0A, 7)
    ∧ bodyOf (.slew 7 1 { target with rateEl := some 300 }) = some slewBytes ∧ State.reset.oli.inbound.length < 8 :=
  ⟨reset_running, by decide, by decide, by decide, by decide +kernel⟩

/-- The bytes written out are read as the request they spell. -/
theorem test_slew_bytes_are_read :
    (after (.olFrameArrival 0x0A 7 slewBytes (crc16 (0x0A :: 7 :: slewBytes))) State.reset).oli.inbound
      = [.slew 7 1 { target with rateEl := some 300 }] := by decide +kernel

/-- LOCK_PLACE of an ADMIN entry over dish 48, motion only, with the note "A". -/
theorem test_lock_place_bytes_are_read :
    let body : List Byte := [2, 0, 0, 0, 0, 0, 0, 0x80, 1, 1, 1, 0x41, 0]
    (after (.olFrameArrival 0x1F 9 body (crc16 (0x1F :: 9 :: body))) State.reset).oli.inbound
      = [.lockPlace 9 { kind := 2, holder := none, scope := 0x800000000000, motion := true, heat := false, note := some [0x41],
                        stamp := none }] := by decide +kernel

/-- Eight requests wait. -/
def full : State := { State.reset with oli.inbound := List.replicate 8 (.identify 1) }

theorem slewBytes_fit : ∃ l, partsOf 0x0A = some l ∧ Fits l slewBytes :=
  ⟨_, rfl, .bytes 9 _ [1, 0x10, 0x27, 0, 0, 0xC8, 0xAF, 0, 0] _ rfl
    (.absent _ _ _ (.present _ _ _ (.bytes 2 _ [0x2C, 1] _ rfl (.absent _ _ _ .nil))))⟩

/-- A note of one byte fits the layout of LOCK_PLACE, a selector of a group that of JOINT_SLEW. -/
theorem note_and_selector_fit : Fits [.opt [.note]] [1, 1, 0x41] ∧ Fits [.selector] [0, 16] ∧ Fits [.selector] [1, 1, 0, 0, 0, 0, 0] :=
  ⟨.present _ _ _ (.note _ 1 [0x41] _ rfl .nil), .group _ 16 _ .nil, .dishes _ [1, 0, 0, 0, 0, 0] _ rfl .nil⟩

theorem witness_dropped_and_refused_frames : Running State.reset ∧ Running full ∧ 8 ≤ full.oli.inbound.length
    ∧ 1024 < (List.replicate 1025 (0 : Byte)).length ∧ (0 : BitVec 16) ≠ crc16 [1, 1] ∧ partsOf 0x2D = none ∧ partsOf 0x00 = none
    ∧ partsOf 0x01 = some [] ∧ ¬ Fits [] [0] :=
  ⟨reset_running, running_of _ (by decide +kernel), by decide +kernel, by decide +kernel, by decide +kernel, rfl, rfl, rfl, by rintro ⟨⟩⟩

def sendingTwo : State := { State.reset with oli.sending := some { out := .flow .go, segments := [[], []] } }
def sendingReply : State :=
  { State.reset with
    oli.replies := [{ kind := 1, tag := 1, result := .refused .busy }],
    oli.sending := some { out := .reply { kind := 1, tag := 1, result := .refused .busy } true, segments := [[]] } }
def sendingNotice : State :=
  { State.reset with oli.notices := [.system], oli.sending := some { out := .notice .system (.system true) true, segments := [[]] } }

theorem witness_end_of_frame : Running sendingTwo ∧ sendingTwo.oli.sending.isSome = true ∧ Running sendingReply
    ∧ sendingReply.oli.replies.length = 1 ∧ Running sendingNotice ∧ sendingNotice.oli.notices = [.system] :=
  ⟨running_of _ (by decide +kernel), by decide +kernel, running_of _ (by decide +kernel), by decide +kernel,
   running_of _ (by decide +kernel), by decide +kernel⟩

/-! ### Dishes -/

theorem witness_dish_requests (c : Instr) : Shape (one.asked c) ∧ Ready (one.asked c) c ∧ ClaimsFit (one.asked c) :=
  ⟨one_asked_shape c, one_asked c, one_fits⟩

/-- Dish 1 is SLEWING: a stop order acts on it, not on dish 2. -/
theorem witness_dish_stop : StopActs (slewing.dish 1) ∧ ¬ StopActs (slewing.dish 2) ∧ Shape slewing ∧ Running slewing := by
  refine ⟨?_, ?_, shape_of_test _ (by decide +kernel), running_of _ (by decide +kernel)⟩
  · left; decide +kernel
  · rintro (h | h | ⟨_, h⟩) <;> revert h <;> decide +kernel

/-- Dish 1 FAULTED, without code and with one, and holding a reservation. -/
def faulted (code : Nat) (held : Option Nat) : State :=
  setDish 1 (fun r => { r with state := .faulted, last := some { idle with fault := code }, reservation := held }) one

theorem witness_rehome : ((faulted 0 none).dish 1).state = .faulted ∧ ((faulted 7 none).dish 1).last.map (·.fault) = some 7
    ∧ ((faulted 0 (some 5)).dish 1).reservation.isSome = true ∧ (one.dish 1).state ≠ .faulted
    ∧ (31 : Mask).toNat < 32 ∧ 32 ≤ (32 : Mask).toNat := by decide +kernel

/-- The dish set of dish 1 is not busy, the claimed dish is. -/
theorem witness_assign : ((1 : DishSet) ≠ 0) ∧ (one.dish 1).claim = none ∧ (one.dish 1).reservation = none
    ∧ (waiting.dish 1).claim.isSome = true ∧ inSet 1 1 = true := by decide +kernel

def timed (st : DishState) (k : TimerKind) : State := setDish 1 (fun r => { r with state := st, timer := some { kind := k, due := 700 } }) one

theorem witness_supervision_timers : Running (timed .slewing .slew) ∧ ((timed .slewing .slew).dish 1).state = .slewing
    ∧ ((timed .homing .home).dish 1).timer = some { kind := .home, due := 700 }
    ∧ ((timed .stopping .stop).dish 1).timer = some { kind := .stop, due := 700 } ∧ (timed .stopping .stop).shapeTest = true :=
  ⟨running_of _ (by decide +kernel), by decide +kernel, by decide +kernel, by decide +kernel, by decide +kernel⟩

/-! ### The Pedestal link -/

theorem witness_polls : Shape one ∧ Running one ∧ one.pbc.flight = none ∧ one.pbc.allStop = false ∧ one.pbc.heatAllOff = false
    ∧ FirstToPoll one one.pbc.pollPtr one.pbc.candidate (fun e => (one.slots e).polled) 1 := by
  refine ⟨one_shape, one_running, by decide +kernel, by decide +kernel, by decide +kernel, ?_⟩
  refine ⟨by decide +kernel, by decide, by decide, ⟨by decide +kernel, .inl (by decide +kernel)⟩, ?_⟩
  intro e _ h1 h2; omega

/-- The poll pointer stands at 48 with dish 3 the first ABSENT one: a new round. -/
def roundEnds : State := { one with pbc.pollPtr := 49 }

theorem witness_new_round : FirstAbsent roundEnds 3 ∧ FirstToPoll roundEnds 1 (some 3) (fun _ => false) 1
    ∧ ∀ d, ¬ FirstToPoll roundEnds roundEnds.pbc.pollPtr roundEnds.pbc.candidate (fun e => (roundEnds.slots e).polled) d := by
  refine ⟨⟨2, by decide, by decide +kernel, by decide +kernel, ?_⟩, ?_, ?_⟩
  · intro j hj
    interval_cases j <;> decide +kernel
  · refine ⟨by decide, by decide, by decide, ⟨rfl, .inl (by decide +kernel)⟩, ?_⟩
    intro e h0 h1 h2; omega
  · rintro d ⟨h, _, h2, _⟩
    have : roundEnds.pbc.pollPtr = 49 := by decide +kernel
    omega

/-- The first pending line of Table 13, for each line. -/
theorem witness_transaction_start : Running ({ one with pbc.allStop := true } : State)
    ∧ HoldsOldest admitted (fun sl => sl.movePending.map (·.age)) 1 ∧ NonePending admitted (fun sl => sl.stopPending.map (·.age))
    ∧ (admitted.slots 1).movePending.map (·.cmd) = some (.move 10000 45000 2000 1000 500 300) ∧ admitted.pbc.commandCount < 8
    ∧ admitted.pbc.flight = none := by
  have all (p : Nat → Bool) (h : allDishes.all p = true) (e : Nat) (h1 : 1 ≤ e) (h2 : e ≤ 48) : p e = true :=
    List.all_eq_true.mp h e (by simp only [allDishes, List.mem_map, List.mem_range]; exact ⟨e - 1, by omega, by omega⟩)
  refine ⟨running_of _ (by decide +kernel), ⟨by decide, by decide, ?_⟩, ?_, by decide +kernel, by decide +kernel, by decide +kernel⟩
  · refine ⟨2, by decide +kernel, ?_⟩
    intro e b h1 h2 hb
    have := all (fun e => e == 1 || ((admitted.slots e).movePending.map (·.age)) == none) (by decide +kernel) e h1 h2
    have h1v : ((admitted.slots 1).movePending.map (·.age)) = some 2 := by decide +kernel
    simp only [Bool.or_eq_true, beq_iff_eq] at this hb
    rcases this with rfl | hn
    · rw [h1v] at hb; cases hb; exact .inr ⟨rfl, Nat.le_refl _⟩
    · rw [hn] at hb; cases hb
  · intro e h1 h2
    have := all (fun e => ((admitted.slots e).stopPending.map (·.age)) == none) (by decide +kernel) e h1 h2
    simpa using this

/-- A STOP and a HEAT kept after a miss, and a MOVE sent once before. -/
theorem witness_retries : ((one.modSlots 1 (fun sl => { sl with stopPending := some { age := 0, retry := true } })).slots 1).stopPending.map (·.retry)
      = some true
    ∧ ((after .plReplyWindowExpiry moving).slots 1).movePending.map (fun p => (p.attempts, p.age)) = some (1, 4)
    ∧ (after .plTransactionStart (after .plReplyWindowExpiry moving)).pbc.totals.retries = 1 := by decide +kernel

theorem witness_broadcast_end :
    (after .plTransactionStart { one with pbc.allStop := true }).pbc.flight.map (·.kind) = some .allStop := by decide +kernel

theorem witness_status_in_range : StatusInRange idle
    ∧ StatusInRange { idle with az := -270000, el := 5000, echo := 15, fault := 255, temp := -400, applied := 4 }
    ∧ StatusInRange { idle with az := 270000, el := 90000, temp := 600 } := by
  refine ⟨?_, ?_, ?_⟩ <;> (unfold StatusInRange; decide)

theorem polling_addressed : Addressed polling .poll 1 1 := by
  refine ⟨by decide, by decide, by decide, by decide, 1, 5, plFrame 1 1 [], by decide +kernel, by decide +kernel, by decide +kernel⟩

theorem isStatus_of (d : Nat) (st : Status) (n : Nat) (r : CommandResult) (h : (statusBody st n).length = 17)
    (hr : readStatus (statusBody st n) = some (st, r)) : IsStatus (statusFrame d st n) d st r := ⟨statusBody st n, h, rfl, hr⟩

theorem idle_isStatus : IsStatus (statusFrame 1 idle 0) 1 idle .none := isStatus_of 1 idle 0 .none (by decide +kernel) (by decide +kernel)

theorem polling_shape : Shape polling := shape_of_test _ (by decide +kernel)
theorem polling_running : Running polling := running_of _ (by decide +kernel)

theorem witness_valid_reply : Shape polling ∧ Running polling ∧ Addressed polling .poll 1 1 ∧ IsStatus (statusFrame 1 idle 0) 1 idle .none
    ∧ ResultFits .poll idle .none := ⟨polling_shape, polling_running, polling_addressed, idle_isStatus, rfl⟩

/-- An echoed sequence of 16, and every other field in range. -/
theorem badBody_of_echo : BadBody (statusBody { idle with echo := 16 } 0) :=
  ⟨0, 45000, 0, 6, 16, 0, 0, 0, 0, 0, by decide +kernel, by decide, by decide, by decide, by decide, by decide, by decide, by decide, by decide,
   by decide, by decide, by decide, by decide, by decide, .inr (.inr (.inr (.inr (.inr (.inr (.inr (.inl (by decide))))))))⟩

/-- Every way of a miss. -/
theorem witness_misses (s : State) (e w : Nat) (h : s.now ≤ w) : Misses s 1 e w .poll .plReplyWindowExpiry (max s.now w) .noReply
    ∧ Misses s 1 e w .poll (.plReplyGap [⟨false, 1⟩]) (max s.now e) .check
    ∧ Misses s 1 e w .poll (.plReplyGap [⟨true, 2⟩]) (max s.now e) .stray
    ∧ Misses s 1 e w .poll (.plReplyGap [⟨true, 1⟩]) (max s.now e) .check
    ∧ Misses s 1 e w .poll (.plReplyReceived (⟨false, 1⟩ :: List.replicate 20 ⟨false, 0⟩)) (max s.now e) .check
    ∧ Misses s 1 e w .poll (.plReplyReceived (⟨true, 2⟩ :: List.replicate 20 ⟨false, 0⟩)) (max s.now e) .stray
    ∧ Misses s 1 e w .poll (.plReplyReceived (⟨true, 1⟩ :: ⟨false, 0⟩ :: List.replicate 19 ⟨false, 0⟩)) (max s.now e) .check
    ∧ Misses s 1 e w .poll (.plReplyReceived (⟨true, 1⟩ :: ⟨false, 0x10⟩ :: (List.replicate 17 ⟨false, 0⟩ ++ [⟨false, 0⟩, ⟨false, 0⟩]))) (max s.now e) .check
    ∧ Misses s 1 e w .poll (.plReplyReceived (plFrame 1 0x10 (statusBody { idle with echo := 16 } 0))) (max s.now e) .check
    ∧ Misses s 1 e w .poll (.plReplyReceived (statusFrame 1 idle 1)) (max s.now e) .check := by
  refine ⟨.window, .unmarkedGap _ _ h (by decide) rfl, .strangerGap _ _ h (by decide) rfl (by decide), .cutShort _ _ h (by decide) rfl rfl,
    .unmarked _ _ h (by decide) rfl, .stranger _ _ h (by decide) rfl (by decide), .notStatus _ _ _ h (by decide) rfl rfl (by decide),
    .wrongCrc _ _ _ _ _ h (by decide) rfl rfl rfl (by decide +kernel), .badField _ h badBody_of_echo, ?_⟩
  exact .misfit _ idle .accepted h (isStatus_of 1 idle 1 .accepted (by decide +kernel) (by decide +kernel)) (by simp [ResultFits])

theorem witness_miss_in_flight :
    polling.pbc.flight = some { kind := .poll, station := 1, frameEnd := 1, windowDue := 5, frame := plFrame 1 1 [] }
      ∧ polling.now ≤ 5 := by decide +kernel

/-- Three misses stand and 3 000 ms have passed since the last good reply. -/
def fading : State := setDish 1 (fun r => { r with miss := 3 }) { polling with now := 3000 }

theorem witness_absence : (fading.dish 1).state ≠ .absent ∧ fading.dsv.nMiss ≤ min 65535 ((fading.dish 1).miss + 1)
    ∧ (∀ g, (fading.dish 1).lastGood = some g → 2000 ≤ max fading.now 5 - g) := by
  refine ⟨by decide +kernel, by decide +kernel, ?_⟩
  intro g hg
  have : (fading.dish 1).lastGood = some 0 := by decide +kernel
  rw [this] at hg; cases hg; decide +kernel

/-- The first miss of a MOVE in flight. -/
theorem witness_missed_command : moving.pbc.flight.map (fun x => (x.kind, x.station)) = some (.move 1, 1)
    ∧ (moving.slots 1).moveFlight.map (fun x => (x.attempts, x.withdrawn)) = some (1, false)
    ∧ min 65535 ((moving.dish 1).miss + 1) < moving.dsv.nMiss := by decide +kernel

/-- The same MOVE in flight for the third time, of a host member and of a wave member. -/
def thirdMove : State := moving.modSlots 1 (fun sl => { sl with moveFlight := sl.moveFlight.map (fun x => { x with attempts := 3 }) })

theorem witness_exhaustion : (thirdMove.slots 1).moveFlight.map (fun x => (x.attempts, x.withdrawn)) = some (3, false)
    ∧ (thirdMove.dish 1).state ≠ .absent ∧ (thirdMove.dish 1).claim.map (fun c => (c.ref, c.standing)) = some (.host 1, .admitted)
    ∧ (thirdMove.record 1).map (fun r => (r.complete, r.members.all (fun y => y.dish == 1 && y.state == .admitted))) = some (false, true)
    ∧ min 65535 ((thirdMove.dish 1).miss + 1) < thirdMove.dsv.nMiss ∧ thirdMove.shapeTest = true := by decide +kernel

theorem witness_drive_acceptance : Addressed moving (.move 1) 1 1
    ∧ IsStatus (statusFrame 1 { idle with echo := 1 } 1) 1 { idle with echo := 1 } .accepted
    ∧ ResultFits (.move 1) { idle with echo := 1 } .accepted ∧ (moving.dish 1).state = .ready
    ∧ (moving.dish 1).claim.map (·.standing) = some .admitted := by
  refine ⟨⟨by decide, by decide, by decide, by decide, ?_⟩, isStatus_of 1 _ 1 .accepted (by decide +kernel) (by decide +kernel),
    .inr ⟨rfl, rfl⟩, by decide +kernel, by decide +kernel⟩
  cases h : moving.pbc.flight with
  | none => exact absurd h (by decide +kernel)
  | some x =>
    have hk : moving.pbc.flight.map (fun x => (x.kind, x.station)) = some (.move 1, 1) := by decide +kernel
    have hw : moving.pbc.flight.map (fun x => decide (moving.now ≤ x.windowDue) && decide (1 = max moving.now x.frameEnd)) = some true := by
      decide +kernel
    rw [h] at hk hw
    obtain ⟨k, st, e, w, f⟩ := x
    simp only [Option.map_some, Option.some.injEq, Prod.mk.injEq, Bool.and_eq_true, decide_eq_true_eq] at hk hw
    obtain ⟨rfl, rfl⟩ := hk
    exact ⟨e, w, f, rfl, hw.1, hw.2⟩

/-- A POLL of dish 1 in each state that the statement names. -/
theorem witness_poll_states (st : DishState) : (((setDish 1 (fun r => { r with state := st }) polling)).dish 1).state = st := by
  cases st <;> decide +kernel

/-- A POLL of dish 1 SLEWING for its admitted host claim, which a reply in position ends. -/
def arriving : State :=
  setDish 1 (fun r => { r with
    state := .slewing, acceptedSeq := some 1, claim := some { ref := .host 1, standing := .admitted, running := true },
    reservation := some 12000 })
    { polling with sls.table := [{ SlewRecord.blank 1 with complete := false, members := [{ dish := 1, state := .admitted }] }] }

theorem witness_host_member_completes : (arriving.dish 1).state = .slewing ∧ (arriving.dish 1).acceptedSeq = some ({ idle with echo := 1 } : Status).echo
    ∧ (arriving.record 1).map (fun r => (r.complete, r.members.map (·.state))) = some (false, [.admitted])
    ∧ (arriving.zone 1).wave = none ∧ arriving.pbc.flight = polling.pbc.flight ∧ arriving.shapeTest = true := by decide +kernel

/-- A reply with the key of dish 1 turned, and the key turned back. -/
theorem witness_key : (polling.dish 1).last.map (·.key) = some .clear ∧ idle.key ≠ ({ idle with key := .driveOff } : Status).key
    ∧ IsStatus (statusFrame 1 { idle with key := .driveOff } 0) 1 { idle with key := .driveOff } .none
    ∧ IsStatus (statusFrame 1 { idle with moving := true, key := .allOff } 0) 1 { idle with moving := true, key := .allOff } .none
    ∧ StopActs (arriving.dish 1) ∧ covered polling (·.motion) 1 = false :=
  ⟨by decide +kernel, by decide, isStatus_of 1 _ 0 .none (by decide +kernel) (by decide +kernel),
   isStatus_of 1 _ 0 .none (by decide +kernel) (by decide +kernel), .inl (by decide +kernel), by decide +kernel⟩

/-- Replies that show LOCAL, a fault code, and no reference. -/
theorem witness_poll_replies : IsStatus (statusFrame 1 { idle with owner := .handset } 0) 1 { idle with owner := .handset } .none
    ∧ IsStatus (statusFrame 1 { idle with fault := 9 } 0) 1 { idle with fault := 9 } .none
    ∧ IsStatus (statusFrame 1 { idle with referenced := false } 0) 1 { idle with referenced := false } .none :=
  ⟨isStatus_of 1 _ 0 .none (by decide +kernel) (by decide +kernel), isStatus_of 1 _ 0 .none (by decide +kernel) (by decide +kernel),
   isStatus_of 1 _ 0 .none (by decide +kernel) (by decide +kernel)⟩

/-! ### Slews and the budget -/

theorem dish_one_waits : memberAt one 1 = { dish := 1, state := .waiting } := by decide +kernel

theorem witness_accepted_slews : ClaimsFit one ∧ TargetOk target ∧ one.sls.table.length < 32 ∧ (memberAt (one.asked (.slew 1 1 target)) 1).state = .waiting
    ∧ one.sls.groups[0]? = some 0x3F ∧ inSet 0x3F 1 = true ∧ TargetOk { az := -270000, el := 5000 } ∧ TargetOk { az := 270000, el := 90000 } := by
  refine ⟨one_fits, ?_, by decide +kernel, by decide +kernel, by decide +kernel, by decide, ?_, ?_⟩ <;> (unfold TargetOk; decide)

/-- Check by check: no dish named, the empty group 13, a full table, and dish 5, which is ABSENT. -/
def blankRecord (n : Nat) : SlewRecord := { SlewRecord.blank (n + 1) with completed := some 0 }
def fullTable : State := { one with sls.table := (List.range 32).map blankRecord }

theorem witness_slew_checks : ¬ TargetOk { az := 0, el := 4999 } ∧ (one.sls.groups[12]?).map members = some []
    ∧ fullTable.sls.table.length = 32 ∧ (memberAt one 5).state ≠ .waiting ∧ members 1 = [1] := by
  refine ⟨by (unfold TargetOk; decide), by decide +kernel, by decide +kernel, by decide +kernel, by decide +kernel⟩

/-- Entry 5 covers dish 1: its SLEW has no eligible member, and the excusal is handed as an ADMIN LOCK_BLOCK. -/
def covering : State := one.modEntry 5 (fun _ => { state := .active, kind := some .admin, scope := 1, motion := true })

theorem witness_no_eligible : (memberAt covering 1).state = .excused .locked ∧ lockEventsOf covering [memberAt covering 1] = [some 2]
    ∧ covering.shapeTest = true ∧ covering.sls.table.length < 32 := by decide +kernel

def recordOne (st : MemberState) : SlewRecord :=
  { id := 1, complete := false, mode := .single, selector := .dishes 1, targetAz := 10000, targetEl := 45000, rateAz := none, rateEl := none,
    deadline := some 5, deadlineDue := some 5000, accepted := 0, completed := none, members := [{ dish := 1, state := st }] }

/-- Record 1 holds dish 1, waiting or admitted. -/
def held (st : MemberState) (standing : Standing) : State :=
  setDish 1 (fun r => { r with claim := some { ref := .host 1, standing := standing } }) { one with sls.table := [recordOne st] }

theorem witness_cancel_and_deadline : (held .waiting .waiting).record 1 = some (recordOne .waiting)
    ∧ MembersHoldClaims (held .waiting .waiting) (recordOne .waiting)
    ∧ (held .admitted .admitted).record 1 = some (recordOne .admitted) ∧ MembersHoldClaims (held .admitted .admitted) (recordOne .admitted)
    ∧ fullTable.record 1 = some (blankRecord 0) ∧ (blankRecord 0).complete = true ∧ one.record 255 = none
    ∧ Shape (held .waiting .waiting) ∧ Running (held .waiting .waiting) := by
  refine ⟨by decide +kernel, ⟨by decide, ?_⟩, by decide +kernel, ⟨by decide, ?_⟩, by decide +kernel, by decide, by decide +kernel,
    shape_of_test _ (by decide +kernel), running_of _ (by decide +kernel)⟩
  · intro m hm
    rw [List.mem_singleton.mp hm]
    exact ⟨by decide, by decide, fun _ => ⟨{ ref := .host 1, standing := .waiting }, by decide +kernel, rfl, rfl⟩, fun h => by cases h⟩
  · intro m hm
    rw [List.mem_singleton.mp hm]
    exact ⟨by decide, by decide, fun h => (by cases h),
      fun _ => ⟨.inl (by decide +kernel), { ref := .host 1, standing := .admitted }, by decide +kernel, rfl, rfl⟩⟩

theorem witness_deadline_with_none_waiting : (held .admitted .admitted).record 1 = some (recordOne .admitted)
    ∧ (recordOne .admitted).deadlineDue = some 5000 ∧ (∀ m ∈ (recordOne .admitted).members, m.state ≠ .waiting) ∧ Running (held .admitted .admitted) :=
  ⟨by decide +kernel, rfl, by decide, running_of _ (by decide +kernel)⟩

/-- Dish 1 waits beside dish 2, which is admitted. -/
def heldTwo : State :=
  let r := { recordOne .waiting with members := [{ dish := 1, state := .waiting }, { dish := 2, state := .admitted }] }
  setDish 2 (fun r => { r with claim := some { ref := .host 1, standing := .admitted } })
    (setDish 1 (fun r => { r with claim := some { ref := .host 1 } }) { one with sls.table := [r] })

theorem witness_deadline_with_an_admitted_member : MembersHoldClaims heldTwo
      { recordOne .waiting with members := [{ dish := 1, state := .waiting }, { dish := 2, state := .admitted }] }
    ∧ (heldTwo.record 1).map (·.members.map (·.state)) = some [.waiting, .admitted] ∧ Shape heldTwo ∧ Running heldTwo := by
  refine ⟨⟨by decide, ?_⟩, by decide +kernel, shape_of_test _ (by decide +kernel), running_of _ (by decide +kernel)⟩
  intro m hm
  rcases List.mem_cons.mp hm with rfl | hm
  · exact ⟨by decide, by decide, fun _ => ⟨{ ref := .host 1 }, by decide +kernel, rfl, rfl⟩, fun h => by cases h⟩
  · rw [List.mem_singleton.mp hm]
    exact ⟨by decide, by decide, fun h => (by cases h),
      fun _ => ⟨.inl (by decide +kernel), { ref := .host 1, standing := .admitted }, by decide +kernel, rfl, rfl⟩⟩

theorem witness_slew_reports : one.sls.table.find? (fun r => r.id == 1) = none
    ∧ (held .waiting .waiting).sls.table.find? (fun r => r.id == 1) = some (recordOne .waiting) := by decide +kernel

/-- One waiting claim of each class on dish 1, with a pass due. -/
def claiming (cls : ClaimClass) : State :=
  match cls with
  | .observe => { held .waiting .waiting with fbu.passDue := true }
  | .stow => setDish 1 (fun r => { r with claim := some { ref := .task }, task := some .stow }) { one with fbu.passDue := true }
  | .home => setDish 1 (fun r => { r with state := .unreferenced, claim := some { ref := .task }, task := some .home })
      { one with fbu.passDue := true }
  | .shed => setDish 1 (fun r => { r with claim := some { ref := .task }, task := some .shed }) { one with fbu.passDue := true }

theorem witness_alone_in_the_pass (cls : ClaimClass) : AloneInThePass (claiming cls) 1 cls ∧ Shape (claiming cls) ∧ Running (claiming cls)
    ∧ Accounts (claiming cls) ∧ (claiming cls).fbu.passDue = true ∧ (claiming cls).pbc.heatOff = false
    ∧ (claiming cls).demand 1 cls + 24000 ≤ ((claiming cls).feeder ((claiming cls).dish 1).feeder).ceiling := by
  have key : ∀ x, ((claiming cls).dish 1).last = some x → x.key = .clear := by
    intro x hx
    have h := all_of (o := ((claiming cls).dish 1).last) (fun y => y.key == .clear) (by cases cls <;> decide +kernel) x hx
    simpa using h
  refine ⟨⟨by decide, by decide, ?_, ?_, ?_, ?_, key, ?_, ?_, ?_⟩, shape_of_test _ ?_, running_of _ ?_, accounts_of_test _ ?_, ?_, ?_, ?_⟩
  all_goals (cases cls <;> decide +kernel)

/-- The same with a limit of 1 000 W, which no claim fits. -/
def tight (cls : ClaimClass) : State :=
  ((claiming cls).modFeeder .a (fun r => { r with limit := 1000, reserve := 0, heatCap := 0 })).settle .a

theorem witness_pass_holds (cls : ClaimClass) : (tight cls).passUnits = [.claim 1 cls] ∧ Accounts (tight cls)
    ∧ ((tight cls).feeder .a).ceiling < (tight cls).demand 1 cls ∧ ((tight cls).dish 1).feeder = .a
    ∧ (∀ e, e ≠ 1 → ((tight cls).dish e).claim.map (·.budgetWaiting) ≠ some true) := by
  refine ⟨by cases cls <;> decide +kernel, accounts_of_test _ (by cases cls <;> decide +kernel), by cases cls <;> decide +kernel,
    by cases cls <;> decide +kernel, ?_⟩
  intro e _
  rcases tget_mem_or_default (tight cls).dsv.dishes e Dish.initial with h | h
  · have ha : (tight cls).dsv.dishes.all (fun r => r.claim.map (·.budgetWaiting) != some true) = true := by cases cls <;> decide +kernel
    have := List.all_eq_true.mp ha _ h
    simpa [State.dish] using this
  · have hd : (tight cls).dish e = Dish.initial := h
    rw [hd]; decide

/-- A pass over a GANG of dishes 1 and 2 and the SHED task of dish 3: at 30 000 W the GANG fails, and the SHED claim is held behind it. -/
def crowded : State :=
  let r := { recordOne .waiting with mode := .gang, members := [{ dish := 1, state := .waiting }, { dish := 2, state := .waiting }] }
  let s := setDish 3 (fun x => { x with state := .ready, last := some idle, claim := some { ref := .task }, task := some .shed })
    (setDish 2 (fun x => { x with claim := some { ref := .host 1 } })
      (setDish 1 (fun x => { x with claim := some { ref := .host 1 } }) { one with sls.table := [r], fbu.passDue := true }))
  (s.modFeeder .a (fun f => { f with limit := 30000 })).settle .a

/-- The same with room for all. -/
def roomy : State := (crowded.modFeeder .a (fun f => { f with limit := 100000 })).settle .a

theorem crowded_presented (s : State) (h : s = crowded ∨ s = roomy) : Shape s ∧ Running s ∧ Accounts s ∧ s.fbu.passDue = true
    ∧ s.passUnits = [.gang 1 [1, 2], .claim 3 .shed]
    ∧ ((s.passUnits.flatMap dishesOf).map (·.1)).Nodup
    ∧ (s.passUnits.flatMap dishesOf).all (fun u => (s.dish u.1).claimClass == some u.2 && (s.dish u.1).reservation == none
        && (s.dish u.1).claim.map (·.standing) == some .waiting) = true
    ∧ s.dsv.dishes.all (fun r => r.claim.map (·.budgetWaiting) != some true) = true := by
  rcases h with rfl | rfl <;>
    exact ⟨shape_of_test _ (by decide +kernel), running_of _ (by decide +kernel), accounts_of_test _ (by decide +kernel), by decide +kernel,
      by decide +kernel, by decide +kernel, by decide +kernel, by decide +kernel⟩

/-- R132, R133: the GANG's sum of 24 000 W and the stow reserve of 24 000 W do not fit 30 000 W, and dish 3 waits on the held feeder. -/
theorem test_gang_holds_the_feeder :
    ([1, 2, 3].map (fun d => ((after .admissionPass crowded).dish d).claim.map (fun c => (c.standing, c.budgetWaiting))))
      = [some (.waiting, true), some (.waiting, true), some (.waiting, true)]
    ∧ ([1, 2, 3].map (fun d => ((after .admissionPass roomy).dish d).reservation)) = [some 12000, some 12000, some 12000] := by
  decide +kernel

theorem witness_pass_keeps : HeaterStages (claiming .observe) ∧ ∃ t, exec .admissionPass (claiming .observe) = .next t :=
  ⟨heaterStages_of_test _ (by decide +kernel), _, rfl⟩

/-- R103: the host member that a pass admits. -/
theorem test_admission_in_the_record :
    ((after .admissionPass (claiming .observe)).record 1).map (fun r => r.members.map (fun m => (m.state, m.demand, m.estimate.isSome)))
      = some [(.admitted, some 12000, true)] := by decide +kernel

/-- R153, R154: dish 2 in GUARD holds a stage and dish 1 in MELT asks for three; a pass raises dish 1. -/
def heated2 : State :=
  (({ one with fbu.passDue := true }.modHeater 1 (fun h => { h with state := .melt, requested := 3, meltEntry := some 0 })).modHeater 2
    (fun h => { h with state := .guard, requested := 1, granted := 1, counted := 1 })).settle .a

/-- R155: the same with the STOW task of dish 1 for 12 000 W on a feeder of 13 000 W, which 2 500 W of heat leaves too little. -/
def sheds : State :=
  let s := setDish 1 (fun r => { r with claim := some { ref := .task }, task := some .stow }) heated2
  (s.modFeeder .a (fun f => { f with limit := 13000, reserve := 0, heatCap := 13000, ceiling := 13000 })).settle .a

theorem witness_allocation (s : State) (h : s = heated2 ∨ s = sheds) : Shape s ∧ Accounts s ∧ HeaterStages s ∧ Running s
    ∧ s.pbc.heatOff = false ∧ s.fbu.passDue = true ∧ ∃ t, exec .admissionPass s = .next t := by
  rcases h with rfl | rfl <;>
    exact ⟨shape_of_test _ (by decide +kernel), accounts_of_test _ (by decide +kernel), heaterStages_of_test _ (by decide +kernel),
      running_of _ (by decide +kernel), by decide +kernel, by decide +kernel, _, rfl⟩

theorem test_allocation_raises_and_sheds :
    ([1, 2].map (fun d => (((after .admissionPass heated2).heater d).granted, ((after .admissionPass heated2).heater d).counted)))
      = [(3, 3), (1, 1)]
    ∧ (([1, 2].map (fun d => (((after .admissionPass sheds).heater d).granted, ((after .admissionPass sheds).heater d).counted)))
      = [(0, 0), (0, 1)] ∧ ((after .admissionPass sheds).feeder .a).shedDemand = some 1500) := by decide +kernel

theorem witness_feeder_requests (c : Instr) : Accounts (one.asked c) ∧ Ready (one.asked c) c ∧ Feeder.d.code = 3 ∧ (15 : Mask).toNat < 16 :=
  ⟨accounts_of_test one (by decide +kernel), one_asked c, rfl, by decide⟩

/-- Zone 1 with mast 1 LIVE as its source, 40 dm/s three times. -/
def windy : State :=
  { one with
    wmn.masts := one.wmn.masts.map (fun (m : Mast) => { m with state := .live, window := [40, 40, 40], lastSeq := some 7 }),
    znc.zones := one.znc.zones.map (fun (z : Zone) => { z with source := some z.primary }) }

theorem witness_demand : (windy.zone (windy.dish 1).zone).source = some 1 ∧ windy.gust 1 = some 40 ∧ (one.zone (one.dish 1).zone).source = none
    ∧ (one.dish 1).profile.dmax ≤ 60000 := by decide +kernel

/-- The axis estimate in each of its cases, at the boundary v² = d × a and below it. -/
theorem witness_axis_cases : 0 < 2000 ∧ (2000 : Nat) * 2000 ≤ 8000 * 500 ∧ (7999 : Nat) * 500 < 2000 * 2000 := by decide

/-! ### Wind and zones -/

def report (q n st : Byte) : List Byte := let b := [q, n, 0, st]; 0xA5 :: b ++ le 2 (crc16 b).toNat

theorem isReport_of (q n st : Byte) : IsReport (report q n st) q.toNat n.toNat st.toNat := by
  have h : ∀ x : BitVec 16, le 2 x.toNat = [x.extractLsb' 0 8, x.extractLsb' 8 8] := by
    intro x
    simp only [le, List.cons.injEq, and_true]
    constructor
    · apply BitVec.eq_of_toNat_eq; simp [BitVec.extractLsb']
    · apply BitVec.eq_of_toNat_eq; simp [BitVec.extractLsb', Nat.shiftRight_eq_div_pow]
  refine ⟨q, n, 0, st, _, _, by simp only [report, h]; rfl, rfl, by simp, rfl, ?_⟩
  apply BitVec.eq_of_getLsbD_eq
  intro i hi
  simp only [BitVec.getLsbD_append, BitVec.getLsbD_extractLsb']
  split <;> simp_all <;> omega

theorem witness_mast_reports : IsReport (report 8 100 0) 8 100 0 ∧ IsReport (report 8 0 1) 8 0 1 ∧ IsReport (report 8 0 2) 8 0 2
    ∧ IsReport (report 7 0 0) 7 0 0 ∧ IsReport (report 8 0 3) 8 0 3 ∧ (windy.mast 1).lastSeq = some 7 ∧ (windy.mast 4).state = .live
    ∧ crc16 [1, 0, 0, 0] ≠ (0 : Byte) ++ (0 : Byte) ∧ Shape windy ∧ Running windy ∧ ClaimsFit windy :=
  ⟨isReport_of 8 100 0, isReport_of 8 0 1, isReport_of 8 0 2, isReport_of 7 0 0, isReport_of 8 0 3, by decide +kernel, by decide +kernel,
   by decide +kernel, shape_of_test _ (by decide +kernel), running_of _ (by decide +kernel), claimsFit_of_test _ (by decide +kernel)⟩

theorem witness_mast_requests (c : Instr) : Shape (windy.asked c) ∧ Ready (windy.asked c) c :=
  ⟨shape_asked _ c (shape_of_test _ (by decide +kernel)), ready_asked _ c (running_of _ (by decide +kernel)) (by decide +kernel)⟩

/-- Zone 1 with a cause set, its release timer running. -/
def caused (x : Causes) : State :=
  { windy with znc.zones := windy.znc.zones.map (fun (z : Zone) => { z with causes := x, state := .stowed, releaseDue := some 9 }) }

theorem witness_zone_stow_and_release (x : Causes) : ((caused x).zone 1).causes = x ∧ ((caused x).zone 8).releaseDue = some 9
    ∧ (windy.zone 1).causes = {} ∧ (windy.zone 8).wave = none ∧ Shape (caused x) ∧ ClaimsFit (caused x) ∧ Running (caused x) := by
  obtain ⟨a, b, c⟩ := x
  refine ⟨?_, ?_, by decide +kernel, by decide +kernel, shape_of_test _ ?_, claimsFit_of_test _ ?_, running_of _ ?_⟩ <;>
    cases a <;> cases b <;> cases c <;> decide +kernel

/-- Zone 1 without a cause while the wave of an earlier stow is open: dish 1's member was excused, dish 2's waits, dish 3 has a claim and no
member. -/
def waving : State :=
  setDish 3 (fun r => { r with state := .ready, last := some idle, claim := some { ref := .host 1 } })
    (setDish 2 (fun r => { r with claim := some { ref := .wave 1 } })
      ({ windy with sls.table := [{ SlewRecord.blank 1 with complete := false, members := [{ dish := 3, state := .waiting }] }] }.modZone 1 (fun z =>
        { z with wave := some { created := 0, moment := 0, members := [{ dish := 1, state := .excused .locked }, { dish := 2, state := .waiting }] } })))

/-- The wave member of dish 2 alone in a pass that is due. -/
def waveAlone : State := setDish 3 (fun r => { r with claim := none }) { waving with fbu.passDue := true, sls.table := [] }

theorem witness_wave_member_alone : AloneInThePass waveAlone 2 .stow ∧ Shape waveAlone ∧ Running waveAlone ∧ Accounts waveAlone
    ∧ waveAlone.pbc.heatOff = false ∧ (waveAlone.dish 2).claim.map (·.ref) = some (.wave 1) ∧ (waveAlone.zone 1).wave.isSome = true
    ∧ waveAlone.demand 2 .stow ≤ (waveAlone.feeder (waveAlone.dish 2).feeder).ceiling := by
  have key : ∀ x, (waveAlone.dish 2).last = some x → x.key = .clear := by
    intro x hx
    simpa using all_of (o := (waveAlone.dish 2).last) (fun y => y.key == .clear) (by decide +kernel) x hx
  exact ⟨⟨by decide, by decide, by decide +kernel, by decide +kernel, by decide +kernel, by decide +kernel, key, by decide +kernel,
    by decide +kernel, fun h => nomatch h⟩, shape_of_test _ (by decide +kernel), running_of _ (by decide +kernel),
    accounts_of_test _ (by decide +kernel), by decide +kernel, by decide +kernel, by decide +kernel, by decide +kernel⟩

/-- R81: what the admission leaves in the wave. -/
theorem test_admission_in_the_wave : ((after .admissionPass waveAlone).zone 1).wave.map (fun w => w.members.map (·.state))
    = some [.excused .locked, .admitted] := by decide +kernel

theorem witness_open_wave : (waving.zone 1).causes = {} ∧ ((waving.zone 1).wave.map (·.members.map (·.dish))) = some [1, 2]
    ∧ placeInWave waving 1 1 = .waiting ∧ (waving.dish 3).zone = 1 ∧ (waving.dish 3).claim.map (·.ref) = some (.host 1)
    ∧ waving.shapeTest = true ∧ ClaimsFit waving ∧ Ready (waving.asked (.zoneStow 1 1)) (.zoneStow 1 1) :=
  ⟨by decide +kernel, by decide +kernel, by decide +kernel, by decide +kernel, by decide +kernel, by decide +kernel,
   claimsFit_of_test _ (by decide +kernel), ready_asked _ _ (running_of _ (by decide +kernel)) (by decide +kernel)⟩

/-- A POLL of dish 1 SLEWING to stow for the wave of zone 1, alone or beside dish 2. -/
def stowing (ms : List WaveMember) : State :=
  setDish 1 (fun r => { r with
    state := .slewing, acceptedSeq := some 1, claim := some { ref := .wave 1, standing := .admitted, running := true },
    reservation := some 12000 })
    (polling.modZone 1 (fun z => { z with causes := { manual := true }, state := .stowing, wave := some { created := 0, moment := 0, members := ms } }))

theorem witness_wave_closes : ((stowing [{ dish := 1, state := .admitted }]).zone 1).wave.map (·.members.length) = some 1
    ∧ ((stowing [{ dish := 1, state := .admitted }, { dish := 2, state := .waiting }]).zone 1).wave.map (·.members.length) = some 2
    ∧ ((stowing []).dish 1).zone = 1 ∧ ((stowing []).dish 1).state = .slewing ∧ (stowing []).pbc.flight = polling.pbc.flight
    ∧ (stowing []).shapeTest = true ∧ ((stowing []).dish 1).claim.map (fun c => (c.ref, c.standing)) = some (.wave 1, .admitted) := by
  decide +kernel

/-- Mast 1 LIVE with four misses in a row, mast 2 LIVE: the fifth moves zone 1 to its fallback. With mast 2 STALE the zone is sourceless, with it
WARMING awaiting. -/
def failing (st : MastState) : State :=
  (windy.modMast 1 (fun m => { m with missedRun := 4 })).modMast 2 (fun m => { m with state := st, window := if st = .live then m.window else [] })

theorem witness_reselection (st : MastState) : MastEvent (failing st) 1 (.slotTimerExpiry 1) (max (failing st).now ((failing st).mast 1).slotDue)
      (missed { (failing st).mast 1 with slotDue := max (failing st).now ((failing st).mast 1).slotDue + 1000 }) false
    ∧ (missed ((failing st).mast 1)).state = .stale ∧ ((failing st).zone 1).source = some 1 ∧ ((failing st).zone 1).fallback = 2
    ∧ ((failing st).mast 2).state = st ∧ (failing st).shapeTest = true ∧ ClaimsFit (failing st) ∧ Running (failing st) := by
  refine ⟨.slot, ?_, ?_, ?_, ?_, ?_, claimsFit_of_test _ ?_, running_of _ ?_⟩ <;> (cases st <;> decide +kernel)

/-- Every report of a mast is an event of it, and a third sample makes a WARMING mast LIVE. -/
theorem witness_mast_events : MastEvent windy 1 (.mastReportFrame 1 (report 8 100 0) false) windy.now
      (sampled (reported (windy.mast 1) windy.now 8 .ok) (min 999 (0 + (100 * 256 + 128) / 256))) true
    ∧ MastEvent windy 1 (.mastReportFrame 1 (report 8 0 1) false) windy.now (missed (reported (windy.mast 1) windy.now 8 .iced)) false
    ∧ MastEvent windy 1 (.mastReportFrame 1 (report 8 0 2) false) windy.now (missed (reported (windy.mast 1) windy.now 8 .fault)) false
    ∧ (sampled { one.mast 1 with window := [5, 5] } 5).state = .live ∧ stateIn one 1 = some .warming ∧ stateIn one 0 = none := by
  have h : (windy.mast 1).lastSeq ≠ some 8 := by decide +kernel
  have e : (windy.mast 1).offset = 0 ∧ (windy.mast 1).gain = 256 := by decide +kernel
  refine ⟨?_, .iced _ 8 0 (isReport_of 8 0 1) h, .fault _ 8 0 (isReport_of 8 0 2) h, by decide +kernel, by decide +kernel, by decide +kernel⟩
  have := MastEvent.sample (s := windy) (m := 1) (report 8 100 0) 8 100 (isReport_of 8 100 0) h
  rw [e.1, e.2] at this
  exact this

/-- The three outcomes of an evaluation: at the stow level, at the release level and between. -/
theorem witness_evaluation : sustainedOf [40, 40, 40, 999] = some 280 ∧ gustOf [40, 40, 40, 0] = some 27 ∧ sustainedOf [90, 90, 90, 90] = some 90
    ∧ (windy.activeRow 1).s1 = 150 ∧ (windy.activeRow 1).s0 = 80 ∧ (windy.activeRow 1).g0 = 120 ∧ (windy.zone 2).source = some 1
    ∧ (windy.zone 3).source ≠ some 1 ∧ (windy.zone 3).source.isSome = true := by decide +kernel

/-- ZONE_SET of zone 1 to primary mast 3: LIVE, STALE without a LIVE fallback, and WARMING. -/
def choosing (st : MastState) : State :=
  (windy.modMast 3 (fun m => { m with state := st })).modMast 2 (fun m => { m with state := .stale, window := [] })

theorem witness_zone_set_selects : sourceOf (stateIn (choosing .live)) 3 2 = some 3 ∧ sourceOf (stateIn (choosing .stale)) 3 2 = none
    ∧ sourceOf (stateIn (choosing .warming)) 3 2 = none ∧ stateIn (choosing .warming) 3 = some .warming ∧ ((choosing .live).zone 1).source = some 1
    ∧ (after (.zoneSet 1 1 { primary := some 3 }) (choosing .stale)).act.conds.stowOrder = 1 := by decide +kernel

/-- Zone 1 has primary mast 1 and fallback mast 2; bank A is active. -/
theorem witness_zone_settings : (one.zone 1).primary = 1 ∧ (one.zone 1).fallback = 2 ∧ one.znc.active = .a
    ∧ (caused {}).znc.active = .a ∧ ((caused {}).zone 1).releaseDue.isSome = true := by decide +kernel

/-! ### Heating -/

theorem witness_heat_requests (c : Instr) : Shape (one.asked c) ∧ ClaimsFit (one.asked c) ∧ Ready (one.asked c) c
    ∧ (∀ d, 1 ≤ d → d ≤ 48 → HeaterGate (one.asked c) d) ∧ (15 : Mask).toNat < 16 ∧ 16 ≤ (16 : Mask).toNat :=
  ⟨one_asked_shape c, one_fits, one_asked c, one_gates, by decide, by decide⟩

/-- Dish 1 polled in a heater state. -/
def heating (st : HeaterState) (hold : SensorHold) (entry : Option Nat) : State :=
  ({ polling with now := 200000 }).modHeater 1 (fun h => { h with state := st, hold := hold, meltEntry := entry, requested := 1 })

theorem witness_heater_law (st : HeaterState) (h : st = .off ∨ st = .guard ∨ st = .melt) : Shape (heating st .absent (some 0))
    ∧ Running (heating st .absent (some 0)) ∧ ((heating st .absent (some 0)).dish 1).profile.heatEnable = true
    ∧ covered (heating st .absent (some 0)) (·.heat) 1 = false ∧ (heating st .absent (some 0)).pbc.heatOff = false
    ∧ ((heating st .absent (some 0)).heater 1).state = st
    ∧ (heating st .absent (some 0)).mlc.policy.minMelt * 1000 ≤ (heating st .absent (some 0)).now - 0
    ∧ (heating st .absent (some 0)).pbc.flight = polling.pbc.flight ∧ ((heating st .expired none).heater 1).hold ≠ .absent := by
  rcases h with rfl | rfl | rfl <;>
    exact ⟨shape_of_test _ (by decide +kernel), running_of _ (by decide +kernel), by decide +kernel, by decide +kernel, by decide +kernel,
      by decide +kernel, by decide +kernel, by decide +kernel, by decide +kernel⟩

/-- A WET report at the temperature -90 keeps the request of 1 in OFF and GUARD, and an ICE report keeps the request of its band in MELT; a
reduction waits for its confirmation. -/
theorem witness_request_stays : ((heating .guard .absent none).heater 1).requested = 1 ∧ (-90 : Int) ≤ (heating .off .absent none).mlc.policy.guardOn
    ∧ (-90 : Int) < (heating .guard .absent none).mlc.policy.guardOff
    ∧ bandStage (heating .melt .absent (some 0)).mlc.policy (-90) = 4
    ∧ (((heating .guard .absent none).modHeater 1 (fun h => { h with granted := 0, counted := 3 })).heater 1).counted = 3 := by decide +kernel

/-- A report of each surface state. -/
theorem witness_reports (x : Surface) : IsStatus (statusFrame 1 { idle with surface := x, temp := -90 } 0) 1 { idle with surface := x, temp := -90 } .none := by
  cases x <;> exact isStatus_of 1 _ 0 .none (by decide +kernel) (by decide +kernel)

theorem witness_sensor_hold : ((heating .melt (.running 900) none).heater 1).hold = .running 900
    ∧ ((heating .melt (.running 900) none).dish 1).state ≠ .absent := by decide +kernel

/-- A melt completes on dish 1 in a state: a reply of a dish LOCAL to its handset, and one whose key has turned to DRIVE_OFF. -/
theorem witness_melt_completion (st : DishState) :
    ((setDish 1 (fun r => { r with state := st }) (heating .melt .absent (some 0))).dish 1).state = st
    ∧ (∀ y, ((setDish 1 (fun r => { r with state := st }) (heating .melt .absent (some 0))).dish 1).last = some y → y.key = .clear)
    ∧ ((setDish 1 (fun r => { r with state := st }) (heating .melt .absent (some 0))).dish 1).claim = none
    ∧ ((setDish 1 (fun r => { r with state := st }) (heating .melt .absent (some 0))).zone 1).causes = {}
    ∧ IsStatus (statusFrame 1 { idle with owner := .handset } 0) 1 { idle with owner := .handset } .none
    ∧ IsStatus (statusFrame 1 { idle with key := .driveOff } 0) 1 { idle with key := .driveOff } .none
    ∧ Shape (setDish 1 (fun r => { r with state := st }) (heating .melt .absent (some 0))) := by
  refine ⟨by cases st <;> decide +kernel, fun y hy => ?_, by cases st <;> decide +kernel, by cases st <;> decide +kernel,
    witness_poll_replies.1, witness_key.2.2.1, shape_of_test _ (by cases st <;> decide +kernel)⟩
  have h := all_of (o := ((setDish 1 (fun r => { r with state := st }) (heating .melt .absent (some 0))).dish 1).last) (fun y => y.key == .clear)
    (by cases st <;> decide +kernel) y hy
  simpa using h

/-! ### Lockouts -/

def note : PlaceArgs := { kind := 1, holder := some 65534, scope := 3, motion := true, heat := true, note := none, stamp := none }

/-- Entry 1 is ACTIVE over dishes 1 and 2 with its WRITE queued. -/
def locked : State := after (.lockPlace 1 note) one

/-- The WRITE is running. -/
def writing : State := after .storeWriteStart locked

/-- Entry 1 is persisted. -/
def kept : State := after (.lockStoreComplete .success) writing

/-- Entry 1 is RELEASING with its CLEAR running. -/
def clearing : State := after .storeWriteStart (after (.lockRelease 2 1 (some 65534) none) kept)

/-- Entry 1 is SPENT. -/
def spent : State := after (.lockStoreComplete .success) clearing

theorem witness_lock_states : (locked.entry 1).state = .active ∧ (kept.entry 1).persisted = true ∧ (spent.entry 1).state = .spent
    ∧ (clearing.entry 1).state = .releasing ∧ locked.lkt.queue.length < 8 ∧ (one.entry 1).state = .empty ∧ kept.lkt.queue = []
    ∧ kept.lkt.writeBacks = [] := by decide +kernel

theorem witness_lock_requests (c : Instr) : Ready (kept.asked c) c ∧ Ready (spent.asked c) c ∧ Shape (kept.asked c) ∧ Shape (spent.asked c)
    ∧ ClaimsFit kept ∧ Ready (locked.asked c) c :=
  ⟨ready_asked _ c (running_of _ (by decide +kernel)) (by decide +kernel), ready_asked _ c (running_of _ (by decide +kernel)) (by decide +kernel),
   shape_asked _ c (shape_of_test _ (by decide +kernel)), shape_asked _ c (shape_of_test _ (by decide +kernel)),
   claimsFit_of_test _ (by decide +kernel), ready_asked _ c (running_of _ (by decide +kernel)) (by decide +kernel)⟩

/-- A placement that duplicates entry 1, one at a full table, and one at a full queue. -/
def tableFull : State := { one with lkt.entries := {} :: List.replicate 63 { state := .active, kind := some .admin, scope := 1, motion := true } }
def queueFull : State := { one with lkt.queue := List.replicate 8 { index := 60, kind := .write, owed := none } }

theorem witness_placement : hostEntries.find? (fun i => (one.entry i).state == .empty) = some 1
    ∧ hostEntries.find? (fun i => (spent.entry i).state == .spent) = some 1 ∧ queueFull.lkt.queue.length = 8
    ∧ hostEntries.all (fun i => (tableFull.entry i).state == .active) = true
    ∧ hostEntries.find? (fun i => (locked.entry i).state == .active && (locked.entry i).kind == some .maintenance
        && (locked.entry i).holder == some 65534 && (locked.entry i).scope == 3) = some 1
    ∧ note.scope ≠ 0 ∧ covered one (·.motion) 1 = false := by decide +kernel

theorem witness_amend_and_release : WrongHolder (kept.entry 1) none ∧ ¬ WrongHolder (kept.entry 1) (some 65534) ∧ (4 : DishSet) &&& ~~~(kept.entry 1).scope ≠ 0
    ∧ (1 : DishSet) &&& ~~~(kept.entry 1).scope = 0 ∧ (∃ o ∈ locked.lkt.queue, o.index = 1) := by
  refine ⟨⟨by decide +kernel, .inl rfl⟩, ?_, by decide +kernel, by decide +kernel, by decide +kernel⟩
  rintro ⟨_, h | h⟩
  · cases h
  · exact h (by decide +kernel)

/-- An entry that is not persisted and has no operation: its write failed. -/
def failed : State := after (.lockStoreComplete .failedKept) writing

theorem witness_release_at_once : (failed.entry 1).persisted = false ∧ (failed.entry 1).state = .active ∧ failed.lkt.queue = [] := by
  decide +kernel

def stopped : State := after .estopAssert one

theorem witness_stop_line : one.lkt.estopLevel = false ∧ (one.entry 0).state = .empty ∧ stopped.lkt.estopLevel = true
    ∧ ((after .estopDeassert stopped).entry 0).state ≠ .empty ∧ (after .estopDeassert stopped).lkt.estopLevel = false
    ∧ Running stopped ∧ Shape stopped :=
  ⟨by decide +kernel, by decide +kernel, by decide +kernel, by decide +kernel, by decide +kernel, running_of _ (by decide +kernel),
   shape_of_test _ (by decide +kernel)⟩

/-! ### Store, restart and power -/

theorem witness_store_completion : writing.nvs.path = .lockout 1 (withCrc ⟨.maintenance, some 65534, 3, true, true, none, none⟩)
    ∧ writing.lkt.queue.find? (fun o => o.index == 1) = some { index := 1, kind := .write, owed := some { kind := 0x1F, tag := 1 }, running := true }
    ∧ clearing.nvs.path = .lockout 1 .empty
    ∧ clearing.lkt.queue.find? (fun o => o.index == 1) = some { index := 1, kind := .clear, owed := some { kind := 0x21, tag := 2 }, running := true }
    ∧ Shape writing ∧ Running writing ∧ Shape clearing ∧ Running clearing :=
  ⟨by decide +kernel, by decide +kernel, by decide +kernel, by decide +kernel, shape_of_test _ (by decide +kernel),
   running_of _ (by decide +kernel), shape_of_test _ (by decide +kernel), running_of _ (by decide +kernel)⟩

/-- A write-back running, which owes no reply, with another listed; and the same while a RESTART drains the store. -/
def backing (phase : RestartPhase) : State :=
  { writing with nvs.phase := phase, lkt.queue := writing.lkt.queue.map (fun o => { o with owed := none }), lkt.writeBacks := [7] }

theorem witness_write_back : (backing .draining).nvs.path = writing.nvs.path ∧ (backing .draining).nvs.phase = .draining
    ∧ (backing .draining).lkt.queue.map (·.owed) = [none] ∧ (afterOperation (backing .draining) 1).queue ≠ [] ∧ (backing .idle).nvs.phase = .idle
    ∧ (backing .draining).powered = true ∧ (backing .draining).shapeTest = true := by decide +kernel

def saving : State := after (.settingsSave 3) State.reset
def savingRuns : State := after .storeWriteStart saving

theorem witness_store_arbiter : locked.nvs.path = .free ∧ (locked.lkt.queue.find? (fun o => !o.running)).map (·.index) = some 1
    ∧ writing.nvs.path ≠ .free ∧ saving.nvs.save = .pending ∧ saving.lkt.queue = [] ∧ saving.nvs.path = .free ∧ Running saving := by
  refine ⟨by decide +kernel, by decide +kernel, by decide +kernel, by decide +kernel, by decide +kernel, by decide +kernel,
    running_of _ (by decide +kernel)⟩

theorem witness_settings_save : State.reset.nvs.save = .idle ∧ (∃ x crc, savingRuns.nvs.path = .save x crc) ∧ savingRuns.nvs.saveTag = some 3
    ∧ Running savingRuns :=
  ⟨by decide +kernel, ⟨_, _, rfl⟩, by decide +kernel, running_of _ (by decide +kernel)⟩

theorem witness_restart : StoreIdle slewing ∧ ¬ StoreIdle locked ∧ StopActs (slewing.dish 1) ∧ Ready (slewing.asked (.restart 1)) (.restart 1)
    ∧ StoreIdle one := by
  refine ⟨?_, ?_, .inl (by decide +kernel), ready_asked _ _ (running_of _ (by decide +kernel)) (by decide +kernel), ?_⟩
  · exact ⟨by decide +kernel, by decide +kernel, by decide +kernel⟩
  · rintro ⟨h, _⟩; exact absurd h (by decide +kernel)
  · exact ⟨by decide +kernel, by decide +kernel, by decide +kernel⟩

/-- RESTART waits in DRAINING for the last WRITE, and for a save. -/
def drainsWrite : State := after (.restart 4) writing
def drainsSave : State := after (.restart 4) savingRuns

theorem witness_last_completion : drainsWrite.nvs.phase = .draining ∧ drainsWrite.nvs.path = writing.nvs.path ∧ drainsWrite.lkt.queue.length = 1
    ∧ drainsWrite.lkt.writeBacks = [] ∧ drainsWrite.nvs.save = .idle ∧ drainsSave.nvs.phase = .draining ∧ (drainsSave.nvs.path == .free) = false
    ∧ drainsSave.lkt.queue = [] ∧ drainsSave.shapeTest = true ∧ drainsWrite.shapeTest = true
    ∧ (after (.lockStoreComplete .failedKept) drainsWrite).nvs.phase = .quiet := by decide +kernel

/-- RESTART waits in DRAINING for the last CLEAR; for a write and a save of which neither has started; and for a save that runs before a write. -/
def drainsClear : State := after (.restart 4) clearing
def drainsBoth : State := { after (.restart 4) locked with nvs.save := .pending, nvs.saveTag := some 3 }
def drainsSaveFirst : State := { drainsSave with lkt.queue := locked.lkt.queue }

theorem witness_draining : drainsClear.nvs.path = .lockout 1 .empty ∧ drainsClear.lkt.queue.map (fun o => (o.index, o.kind)) = [(1, .clear)]
    ∧ drainsClear.lkt.writeBacks = [] ∧ drainsClear.nvs.save = .idle ∧ drainsClear.nvs.phase = .draining ∧ drainsClear.shapeTest = true
    ∧ drainsBoth.nvs.phase = .draining ∧ drainsBoth.nvs.path = .free ∧ (drainsBoth.lkt.queue.map (·.running)) = [false]
    ∧ (after .storeWriteStart drainsBoth).nvs.phase = .draining ∧ drainsSaveFirst.nvs.phase = .draining ∧ drainsSaveFirst.lkt.queue.length = 1
    ∧ drainsSaveFirst.nvs.saveTag = some 3 ∧ (drainsSaveFirst.nvs.path == .free) = false
    ∧ (after (.settingsSaveComplete .success) drainsSaveFirst).nvs.phase = .draining
    ∧ (after (.lockStoreComplete .success) drainsClear).nvs.phase = .quiet := by decide +kernel

/-- RESTART with dish 1 SLEWING waits in STOPPING; with the array at rest it is in QUIET. -/
def stoppingAll : State := after (.restart 4) slewing
def quiet : State := after (.restart 4) one

theorem witness_restart_timers : stoppingAll.nvs.phase = .stopping ∧ stoppingAll.nvs.stopDue = some 10001 ∧ quiet.nvs.phase = .quiet
    ∧ quiet.nvs.quietDue = some 2000 ∧ quiet.pbc.flight = none ∧ quiet.powered = true ∧ (after .plTransactionStart quiet).pbc.flight ≠ none
    ∧ quiet.shapeTest = true ∧ stoppingAll.shapeTest = true := by decide +kernel

/-- Dish 1, stopped by the RESTART, is the last that moves; a POLL of it is in flight. -/
def lastStop : State := after .plTransactionStart { stoppingAll with pbc.allStop := false, pbc.heatAllOff := false, pbc.slots := one.pbc.slots }

theorem witness_phase_timers : PhaseTimers State.reset ∧ PhaseTimers quiet ∧ PhaseTimers lastStop
    ∧ ∃ t, step State.reset = .next t :=
  ⟨by unfold PhaseTimers; decide +kernel, by unfold PhaseTimers; decide +kernel, by unfold PhaseTimers; decide +kernel, _, rfl⟩

theorem witness_stopping : Shape lastStop ∧ ClaimsFit lastStop ∧ PhaseTimers lastStop ∧ lastStop.powered = true
    ∧ lastStop.nvs.phase = .stopping ∧ StillMoves lastStop ∧ (lastStop.dish 1).state = .stopping
    ∧ allDishes.all (fun e => e == 1 || (lastStop.dish e).state == .ready || (lastStop.dish e).state == .absent) = true
    ∧ lastStop.pbc.flight.map (fun x => (x.kind, x.station, decide (lastStop.now ≤ x.windowDue))) = some (.poll, 1, true)
    ∧ (lastStop.dish 1).timer.map (·.kind) = some .stop
    ∧ (after (.plReplyReceived (statusFrame 1 idle 0)) lastStop).nvs.phase = .quiet :=
  ⟨shape_of_test _ (by decide +kernel), claimsFit_of_test _ (by decide +kernel), witness_phase_timers.2.2.1, by decide +kernel, by decide +kernel,
   ⟨1, by decide, by decide, .inr (.inr (by decide +kernel))⟩, by decide +kernel, by decide +kernel, by decide +kernel, by decide +kernel,
   by decide +kernel⟩

/-- In QUIET: a MOVE that started before it is in flight; a burst is in flight. -/
def quietBus : State := { quiet with pbc := moving.pbc, nvs.quietDue := none }
def bursting : State := after .plTransactionStart quiet

theorem witness_quiet : quiet.pbc.allStop = true ∧ quiet.pbc.flight = none ∧ bursting.pbc.flight.map (fun x => (x.kind, x.station)) = some (.allStop, 127)
    ∧ bursting.nvs.quietDue = none ∧ bursting.nvs.resetDue = false ∧ bursting.nvs.phase = .quiet ∧ bursting.shapeTest = true
    ∧ (after .plBroadcastEnd bursting).nvs.quietDue = some 2001 ∧ ({ bursting with nvs.resetDue := true } : State).nvs.resetDue = true
    ∧ (after .plBroadcastEnd { bursting with nvs.resetDue := true }).nvs.phase = .idle
    ∧ quietBus.pbc.flight.map (fun x => (x.kind, x.station)) = some (.move 1, 1) ∧ quietBus.nvs.phase = .quiet ∧ quietBus.shapeTest = true := by
  decide +kernel

theorem witness_power : one.powered = true ∧ off.powered = false ∧ Shape off ∧ writing.powered = true ∧ savingRuns.powered = true
    ∧ (∀ y crc, off.nvs.area = .image y crc → crc ≠ crc16 (imageBytes y) ∨ settingsOk y = false) := by
  refine ⟨by decide +kernel, by decide +kernel, shape_of_test _ (by decide +kernel), by decide +kernel, by decide +kernel, ?_⟩
  intro y crc hy
  have : off.nvs.area = .damaged := by decide +kernel
  rw [this] at hy; cases hy

/-- A part without power whose store holds a good record, one whose CRC differs, one whose contents are none, and a damaged one. -/
def stored : State :=
  let k : StoredEntry := ⟨.admin, none, 1, true, false, none, none⟩
  let bad : StoredEntry := ⟨.admin, none, 0, false, false, none, none⟩
  { off with nvs.slots := withCrc k :: .record k (crc16 (storedBytes k) ^^^ 1) :: withCrc bad :: .damaged :: List.replicate 59 .empty }

theorem witness_stored_contents : stored.shapeTest = true ∧ stored.powered = false
    ∧ storedOk ⟨.admin, none, 1, true, false, none, none⟩ = true ∧ storedOk ⟨.admin, none, 0, false, false, none, none⟩ = false
    ∧ (crc16 (storedBytes ⟨.admin, none, 1, true, false, none, none⟩) ^^^ 1) ≠ crc16 (storedBytes ⟨.admin, none, 1, true, false, none, none⟩)
    ∧ ((after (.powerUp false) stored).entry 1).scope = 1 ∧ ((after (.powerUp false) stored).entry 2).scope = allSet := by decide +kernel

/-- R203, R212: an image is taken where its CRC matches, and the defaults where it does not. -/
theorem test_image_crc : (SettingsArea.image defaultSettings (imageCrc defaultSettings)).read = (defaultSettings, false)
    ∧ (SettingsArea.image defaultSettings (imageCrc defaultSettings ^^^ 1)).read = (defaultSettings, true) := by
  have h : settingsOk defaultSettings = true := by decide +kernel
  simp [SettingsArea.read, h]

/-! ### Counters -/

/-- Counter 1 counts seconds of STALE masts with threshold 1; mast 1 is STALE. -/
def counting : State :=
  { one with
    act.counters := { cls := some .mastStale, mode := .duration, threshold := some 1 } :: List.replicate 7 {},
    act.conds.mastStale := 1 }

theorem witness_counters : conditionHolds counting (counting.act.counters.getD 0 {}) = true
    ∧ conditionHolds counting (counting.act.counters.getD 1 {}) = false ∧ Running counting ∧ Shape counting
    ∧ classFacts 8 = some (.mastStale, 4, true, true) ∧ (3 : Mask).toNat < 4 :=
  ⟨by decide +kernel, by decide +kernel, running_of _ (by decide +kernel), shape_of_test _ (by decide +kernel), rfl, by decide⟩

/-- A counter of misses of kind NO_REPLY counts one, and its threshold of 1 makes its notice pending. -/
theorem test_a_miss_is_counted :
    let s : State := { polling with act.counters := { cls := some .pedestalMiss, quals := some 1, threshold := some 1 } :: List.replicate 7 {} }
    let t := after .plReplyWindowExpiry s
    (t.act.counters.getD 0 {}).value = 1 ∧ (t.act.counters.getD 0 {}).notified = true ∧ t.oli.notices = [.counter 1] := by decide +kernel

/-- The monitor in each of its states, a record tracked and admitted at 100 ms. -/
theorem witness_monitor : ({ stow := true, state := .armed } : Monitor).state = .armed
    ∧ (({ state := .tracking, tracked := some { ref := .host 1, created := 0, admittedAt := some 100 } } : Monitor).onCompleted 1150 (.host 1)).runTotal = 10
    ∧ (({ state := .tracking, tracked := some { ref := .host 1, created := 0, admittedAt := some 100 } } : Monitor).onCompleted 1150 (.host 1)).waitTotal = 1
    := by decide

theorem witness_counter_requests (c : Instr) : Shape (counting.asked c) ∧ Ready (counting.asked c) c :=
  ⟨shape_asked _ c (shape_of_test _ (by decide +kernel)), ready_asked _ c (running_of _ (by decide +kernel)) (by decide +kernel)⟩

end Sys2Proof.Tests
end

section
-- One declaration at a time: the check bounds memory, and every thread in flight takes its stack from it.
set_option Elab.async false

/-! Frames. What an operation of the model may change, as a set of parts of the state, so that one lemma per operation says what it
leaves unchanged, and frames compose along the operations of an event. -/

namespace Sys2Proof.Machine

/-! ## Parts of the state -/

/-- The change flags of Table 8. -/
inductive FlagKind where
  | presence | owner | fault | key | surface
  deriving DecidableEq

def ChangeFlags.has (x : ChangeFlags) : FlagKind → Bool
  | .presence => x.presence
  | .owner => x.owner
  | .fault => x.fault
  | .key => x.key
  | .surface => x.surface

theorem ChangeFlags.ext_has {x y : ChangeFlags} (h : ∀ k, x.has k = y.has k) : x = y := by
  cases x; cases y
  simpa [ChangeFlags.has] using And.intro (h .presence) ⟨h .owner, h .fault, h .key, h .surface⟩

theorem has_union (x y : ChangeFlags) (k : FlagKind) : (x.union y).has k = (x.has k || y.has k) := by
  cases k <;> rfl

/-- The parts of a dish record that the rules of supervision write apart from one another. -/
inductive DishPart where
  | profile | assignment | status | good | state | supFault | flag (k : FlagKind) | reservation | claim | timer
  deriving DecidableEq

/-- The record `b` has this part as `a` has it. -/
def DishPart.Same (a b : Dish) : DishPart → Prop
  | .profile => b.profile = a.profile
  | .assignment => b.feeder = a.feeder ∧ b.zone = a.zone
  | .status => b.last = a.last ∧ b.lastGood = a.lastGood ∧ b.miss = a.miss
  | .good => b.good = a.good
  | .state => b.state = a.state
  | .supFault => b.supFault = a.supFault
  | .flag k => b.flags.has k = a.flags.has k
  | .reservation => b.reservation = a.reservation
  | .claim => b.claim = a.claim ∧ b.task = a.task ∧ b.slewTimeout = a.slewTimeout ∧ b.acceptedSeq = a.acceptedSeq
  | .timer => b.timer = a.timer

@[simp] theorem DishPart.Same.refl (a : Dish) (p : DishPart) : p.Same a a := by
  cases p <;> simp [DishPart.Same]

theorem DishPart.Same.trans {a b c : Dish} {p : DishPart} (h : p.Same a b) (h' : p.Same b c) : p.Same a c := by
  cases p <;> simp_all [DishPart.Same]

theorem Dish.eq_of_same {a b : Dish} (h : ∀ p : DishPart, p.Same a b) : b = a := by
  have hp := h .profile
  have hf : b.flags = a.flags := ChangeFlags.ext_has (fun k => h (.flag k))
  obtain ⟨ha, hz⟩ := h .assignment
  obtain ⟨hl, hg, hm⟩ := h .status
  obtain ⟨hc, ht, hs, hq⟩ := h .claim
  have hgood := h .good
  have hstate := h .state
  have hsup := h .supFault
  have hres := h .reservation
  have htimer := h .timer
  cases a; cases b
  simp_all [DishPart.Same]

/-- The parts of a dish's command slots. -/
inductive SlotPart where
  | move | stop | heat | seq | polled
  deriving DecidableEq

def SlotPart.Same (a b : Slots) : SlotPart → Prop
  | .move => b.movePending = a.movePending ∧ b.moveFlight = a.moveFlight
  | .stop => b.stopPending = a.stopPending ∧ b.stopFlight = a.stopFlight
  | .heat => b.heatPending = a.heatPending ∧ b.heatFlight = a.heatFlight
  | .seq => b.seq = a.seq
  | .polled => b.polled = a.polled

@[simp] theorem SlotPart.Same.refl (a : Slots) (p : SlotPart) : p.Same a a := by
  cases p <;> simp [SlotPart.Same]

theorem SlotPart.Same.trans {a b c : Slots} {p : SlotPart} (h : p.Same a b) (h' : p.Same b c) : p.Same a c := by
  cases p <;> simp_all [SlotPart.Same]

theorem Slots.eq_of_same {a b : Slots} (h : ∀ p : SlotPart, p.Same a b) : b = a := by
  have hm := h .move
  have hs := h .stop
  have hh := h .heat
  have hq := h .seq
  have hp := h .polled
  cases a; cases b
  simp_all [SlotPart.Same]

/-- A counter of ACT by its place from 0. -/
def State.counterAt (s : State) (i : Nat) : Counter := s.act.counters.getD i {}

/-- The parts of the state. `counters k` are the counters of class `k`; `link` is OLI but for the pending notices, which an
operation only adds to (`Changes.notices`). -/
inductive Part where
  | clock | supervision | dish (p : DishPart) (d : Nat) | slots (p : SlotPart) (d : Nat) | bus | wind | zone (z : Nat) | banks
  | table | groups | feeders | passDue | heater (d : Nat) | policy | lockouts | store | counters (k : Option EventClass) | monitor
  | conds | tick | link
  deriving DecidableEq

/-- The state `t` has this part as `s` has it. -/
def Part.Same (s t : State) : Part → Prop
  | .clock => t.powered = s.powered ∧ t.now = s.now ∧ t.moment = s.moment ∧ t.pending = s.pending
  | .supervision => t.dsv.nSettle = s.dsv.nSettle ∧ t.dsv.nMiss = s.dsv.nMiss ∧ t.dsv.homeTimeout = s.dsv.homeTimeout
  | .dish p d => p.Same (s.dish d) (t.dish d)
  | .slots p d => p.Same (s.slots d) (t.slots d)
  | .bus => t.pbc = { s.pbc with slots := t.pbc.slots }
  | .wind => t.wmn = s.wmn
  | .zone z => t.zone z = s.zone z
  | .banks => t.znc = { s.znc with zones := t.znc.zones }
  | .table => t.sls.table = s.sls.table
  | .groups => t.sls = { s.sls with table := t.sls.table }
  | .feeders => t.fbu.feeders = s.fbu.feeders
  | .passDue => t.fbu.passDue = s.fbu.passDue
  | .heater d => t.heater d = s.heater d
  | .policy => t.mlc.policy = s.mlc.policy
  | .lockouts => t.lkt = s.lkt
  | .store => t.nvs = s.nvs
  | .counters k => ∀ i, (s.counterAt i).cls = k → t.counterAt i = s.counterAt i
  | .monitor => t.act.monitor = s.act.monitor
  | .conds => t.act.conds = s.act.conds
  | .tick => t.act.tickDue = s.act.tickDue
  | .link => t.oli = { s.oli with notices := t.oli.notices }

theorem Part.Same.refl (s : State) (p : Part) : p.Same s s := by
  cases p with
  | dish p d => exact DishPart.Same.refl _ p
  | slots p d => exact SlotPart.Same.refl _ p
  | _ => simp [Part.Same]

theorem Part.Same.trans {s t u : State} {p : Part} (h : p.Same s t) (h' : p.Same t u) : p.Same s u := by
  cases p with
  | dish p d => exact DishPart.Same.trans h h'
  | slots p d => exact SlotPart.Same.trans h h'
  | counters k =>
    intro i hi
    have ht := h i hi
    rw [h' i (by rw [ht, hi]), ht]
  | bus => simp only [Part.Same] at *; rw [h', h]
  | banks => simp only [Part.Same] at *; rw [h', h]
  | groups => simp only [Part.Same] at *; rw [h', h]
  | link => simp only [Part.Same] at *; rw [h', h]
  | _ => simp_all [Part.Same]

/-! ## Frames -/

/-- The numbers of records that operations keep. -/
def State.sizes (s : State) : Nat × Nat × Nat × Nat × Nat :=
  (s.dsv.dishes.length, s.pbc.slots.length, s.mlc.heaters.length, s.znc.zones.length, s.act.counters.length)

/-- From `s` to `t` only the parts in `l` change, no record comes or goes, pending notices stay pending, and a due pass stays due. -/
structure Changes (l : Set Part) (s t : State) : Prop where
  same : ∀ p, p ∉ l → p.Same s t
  sizes : t.sizes = s.sizes
  notices : s.oli.notices ⊆ t.oli.notices
  passDue : s.fbu.passDue = true → t.fbu.passDue = true

theorem Changes.refl (l : Set Part) (s : State) : Changes l s s :=
  ⟨fun p _ => Part.Same.refl s p, rfl, fun _ h => h, id⟩

theorem Changes.trans {l : Set Part} {s t u : State} (h : Changes l s t) (h' : Changes l t u) : Changes l s u :=
  ⟨fun p hp => (h.same p hp).trans (h'.same p hp), h'.sizes.trans h.sizes, fun _ hk => h'.notices (h.notices hk),
    fun hp => h'.passDue (h.passDue hp)⟩

theorem Changes.mono {l l' : Set Part} {s t : State} (h : Changes l s t) (hl : l ⊆ l' := by simp [Set.insert_subset_iff]) : Changes l' s t :=
  ⟨fun p hp => h.same p (fun hm => hp (hl hm)), h.sizes, h.notices, h.passDue⟩

theorem Changes.andThen {l l' : Set Part} {s t u : State} (h : Changes l s t) (h' : Changes l' t u) : Changes (l ∪ l') s u :=
  (h.mono Set.subset_union_left).trans (h'.mono Set.subset_union_right)

/-- The frame of a walk is that of its steps. -/
theorem Changes.foldl {α : Type} {l : Set Part} (f : State → α → State) (xs : List α) (s : State)
    (h : ∀ t, ∀ x ∈ xs, Changes l t (f t x)) : Changes l s (xs.foldl f s) := by
  induction xs generalizing s with
  | nil => exact Changes.refl l s
  | cons x xs ih =>
    exact (h s x List.mem_cons_self).trans (ih (f s x) (fun t y hy => h t y (List.mem_cons_of_mem x hy)))

theorem Changes.ite {l : Set Part} {s t u : State} {c : Prop} [Decidable c] (ht : c → Changes l s t) (hu : ¬ c → Changes l s u) :
    Changes l s (if c then t else u) := by
  split
  · exact ht ‹_›
  · exact hu ‹_›

/-! ## What a frame says of a record -/

theorem tget_ext {α : Type} {l l' : List α} {x : α} (hl : l'.length = l.length) (h : ∀ n, tget l' n x = tget l n x) : l' = l := by
  apply List.ext_getElem hl
  intro i h1 h2
  simpa [tget, h1, h2] using h (i + 1)

section
variable {l : Set Part} {s t : State} (h : Changes l s t)
include h

theorem Changes.length_dishes : t.dsv.dishes.length = s.dsv.dishes.length := congrArg (·.1) h.sizes
theorem Changes.length_slots : t.pbc.slots.length = s.pbc.slots.length := congrArg (·.2.1) h.sizes
theorem Changes.length_heaters : t.mlc.heaters.length = s.mlc.heaters.length := congrArg (·.2.2.1) h.sizes
theorem Changes.length_zones : t.znc.zones.length = s.znc.zones.length := congrArg (·.2.2.2.1) h.sizes
theorem Changes.length_counters : t.act.counters.length = s.act.counters.length := congrArg (·.2.2.2.2) h.sizes

theorem Changes.isDish (d : Nat) : t.isDish d = s.isDish d := by
  simp [State.isDish, thas, h.length_dishes]

theorem Changes.hasSlots (d : Nat) : thas t.pbc.slots d = thas s.pbc.slots d := by
  simp [thas, h.length_slots]

theorem Changes.hasZone (z : Nat) : thas t.znc.zones z = thas s.znc.zones z := by
  simp [thas, h.length_zones]

theorem Changes.hasHeater (d : Nat) : thas t.mlc.heaters d = thas s.mlc.heaters d := by
  simp [thas, h.length_heaters]

theorem Changes.dishNumbers : t.dishNumbers = s.dishNumbers := by
  simp [State.dishNumbers, h.length_dishes]

theorem Changes.dish {d : Nat} (hd : ∀ p, Part.dish p d ∉ l := by simp) : t.dish d = s.dish d :=
  Dish.eq_of_same (fun p => h.same _ (hd p))

theorem Changes.profile {d : Nat} (hp : Part.dish .profile d ∉ l := by simp) : (t.dish d).profile = (s.dish d).profile := h.same _ hp

theorem Changes.assignment {d : Nat} (hp : Part.dish .assignment d ∉ l := by simp) :
    (t.dish d).feeder = (s.dish d).feeder ∧ (t.dish d).zone = (s.dish d).zone := h.same _ hp

theorem Changes.status {d : Nat} (hp : Part.dish .status d ∉ l := by simp) :
    (t.dish d).last = (s.dish d).last ∧ (t.dish d).lastGood = (s.dish d).lastGood ∧ (t.dish d).miss = (s.dish d).miss := h.same _ hp

theorem Changes.good {d : Nat} (hp : Part.dish .good d ∉ l := by simp) : (t.dish d).good = (s.dish d).good := h.same _ hp

theorem Changes.state {d : Nat} (hp : Part.dish .state d ∉ l := by simp) : (t.dish d).state = (s.dish d).state := h.same _ hp

theorem Changes.supFault {d : Nat} (hp : Part.dish .supFault d ∉ l := by simp) : (t.dish d).supFault = (s.dish d).supFault :=
  h.same _ hp

theorem Changes.flag {d : Nat} (k : FlagKind) (hp : Part.dish (.flag k) d ∉ l := by simp) :
    (t.dish d).flags.has k = (s.dish d).flags.has k := h.same _ hp

theorem Changes.reservation {d : Nat} (hp : Part.dish .reservation d ∉ l := by simp) :
    (t.dish d).reservation = (s.dish d).reservation := h.same _ hp

theorem Changes.claim {d : Nat} (hp : Part.dish .claim d ∉ l := by simp) : (t.dish d).claim = (s.dish d).claim := (h.same _ hp).1

theorem Changes.task {d : Nat} (hp : Part.dish .claim d ∉ l := by simp) : (t.dish d).task = (s.dish d).task := (h.same _ hp).2.1

theorem Changes.slewTimeout {d : Nat} (hp : Part.dish .claim d ∉ l := by simp) :
    (t.dish d).slewTimeout = (s.dish d).slewTimeout := (h.same _ hp).2.2.1

theorem Changes.acceptedSeq {d : Nat} (hp : Part.dish .claim d ∉ l := by simp) :
    (t.dish d).acceptedSeq = (s.dish d).acceptedSeq := (h.same _ hp).2.2.2

theorem Changes.timer {d : Nat} (hp : Part.dish .timer d ∉ l := by simp) : (t.dish d).timer = (s.dish d).timer := h.same _ hp

theorem Changes.slotMove {d : Nat} (hp : Part.slots .move d ∉ l := by simp) :
    (t.slots d).movePending = (s.slots d).movePending ∧ (t.slots d).moveFlight = (s.slots d).moveFlight := h.same _ hp

theorem Changes.slotStop {d : Nat} (hp : Part.slots .stop d ∉ l := by simp) :
    (t.slots d).stopPending = (s.slots d).stopPending ∧ (t.slots d).stopFlight = (s.slots d).stopFlight := h.same _ hp

theorem Changes.slotHeat {d : Nat} (hp : Part.slots .heat d ∉ l := by simp) :
    (t.slots d).heatPending = (s.slots d).heatPending ∧ (t.slots d).heatFlight = (s.slots d).heatFlight := h.same _ hp

theorem Changes.slots {d : Nat} (hd : ∀ p, Part.slots p d ∉ l := by simp) : t.slots d = s.slots d :=
  Slots.eq_of_same (fun p => h.same _ (hd p))

theorem Changes.zone {z : Nat} (hz : Part.zone z ∉ l := by simp) : t.zone z = s.zone z := h.same _ hz

theorem Changes.heater {d : Nat} (hd : Part.heater d ∉ l := by simp) : t.heater d = s.heater d := h.same _ hd

theorem Changes.table (hp : Part.table ∉ l := by simp) : t.sls.table = s.sls.table := h.same _ hp

theorem Changes.record (hp : Part.table ∉ l := by simp) (id : Nat) : t.record id = s.record id := by
  simp [State.record, h.table hp]

theorem Changes.feeders (hp : Part.feeders ∉ l := by simp) : t.fbu.feeders = s.fbu.feeders := h.same _ hp

theorem Changes.monitor (hp : Part.monitor ∉ l := by simp) : t.act.monitor = s.act.monitor := h.same _ hp

theorem Changes.lockouts (hp : Part.lockouts ∉ l := by simp) : t.lkt = s.lkt := h.same _ hp

theorem Changes.store (hp : Part.store ∉ l := by simp) : t.nvs = s.nvs := h.same _ hp

theorem Changes.link (hp : Part.link ∉ l := by simp) : t.oli = { s.oli with notices := t.oli.notices } := h.same _ hp

theorem Changes.bus (hp : Part.bus ∉ l := by simp) : t.pbc = { s.pbc with slots := t.pbc.slots } := h.same _ hp

theorem Changes.now (hp : Part.clock ∉ l := by simp) : t.now = s.now := (h.same _ hp).2.1

theorem Changes.moment (hp : Part.clock ∉ l := by simp) : t.moment = s.moment := (h.same _ hp).2.2.1

theorem Changes.supervision (hp : Part.supervision ∉ l := by simp) :
    t.dsv.nSettle = s.dsv.nSettle ∧ t.dsv.nMiss = s.dsv.nMiss ∧ t.dsv.homeTimeout = s.dsv.homeTimeout := h.same _ hp

theorem Changes.dsv (hd : ∀ p d, Part.dish p d ∉ l := by simp) (hp : Part.supervision ∉ l := by simp) : t.dsv = s.dsv := by
  have hds : t.dsv.dishes = s.dsv.dishes := tget_ext h.length_dishes (fun d => h.dish (fun p => hd p d))
  obtain ⟨hs, hm, ht⟩ := h.supervision hp
  cases ht' : t.dsv; cases hs' : s.dsv
  simp_all

theorem Changes.pbc (hd : ∀ p d, Part.slots p d ∉ l := by simp) (hp : Part.bus ∉ l := by simp) : t.pbc = s.pbc := by
  have hs : t.pbc.slots = s.pbc.slots := tget_ext h.length_slots (fun d => h.slots (fun p => hd p d))
  rw [h.bus hp, hs]

theorem Changes.znc (hz : ∀ z, Part.zone z ∉ l := by simp) (hp : Part.banks ∉ l := by simp) : t.znc = s.znc := by
  have hs : t.znc.zones = s.znc.zones := tget_ext h.length_zones (fun z => h.zone (hz z))
  have hb : t.znc = { s.znc with zones := t.znc.zones } := h.same _ hp
  rw [hb, hs]

theorem Changes.sls (ht : Part.table ∉ l := by simp) (hp : Part.groups ∉ l := by simp) : t.sls = s.sls := by
  have hb : t.sls = { s.sls with table := t.sls.table } := h.same _ hp
  rw [hb, h.table ht]

theorem Changes.fbu (hf : Part.feeders ∉ l := by simp) (hp : Part.passDue ∉ l := by simp) : t.fbu = s.fbu := by
  have hf' : t.fbu.feeders = s.fbu.feeders := h.same _ hf
  have hp' : t.fbu.passDue = s.fbu.passDue := h.same _ hp
  cases ht : t.fbu; cases hs : s.fbu
  simp_all

theorem Changes.mlc (hh : ∀ d, Part.heater d ∉ l := by simp) (hp : Part.policy ∉ l := by simp) : t.mlc = s.mlc := by
  have hs : t.mlc.heaters = s.mlc.heaters := tget_ext h.length_heaters (fun d => h.heater (hh d))
  have hp' : t.mlc.policy = s.mlc.policy := h.same _ hp
  cases ht : t.mlc; cases hs : s.mlc
  simp_all

theorem Changes.counterAt {i : Nat} (hp : Part.counters (s.counterAt i).cls ∉ l := by simp) : t.counterAt i = s.counterAt i := h.same _ hp i rfl

theorem Changes.counters (hk : ∀ k, Part.counters k ∉ l := by simp) : t.act.counters = s.act.counters := by
  apply List.ext_getElem h.length_counters
  intro i h1 h2
  simpa [State.counterAt, h1, h2] using h.counterAt (i := i) (hk _)

theorem Changes.act (hk : ∀ k, Part.counters k ∉ l := by simp) (hm : Part.monitor ∉ l := by simp) (hc : Part.conds ∉ l := by simp) (ht : Part.tick ∉ l := by simp) :
    t.act = s.act := by
  have h1 := h.counters hk
  have h2 := h.monitor hm
  have h3 : t.act.conds = s.act.conds := h.same _ hc
  have h4 : t.act.tickDue = s.act.tickDue := h.same _ ht
  cases ht' : t.act; cases hs' : s.act
  simp_all

end

/-! ## Blocks -/

/-- The block whose records a part belongs to. -/
def Part.block : Part → Option Block
  | .clock => none
  | .link => none
  | .supervision => some .dsv
  | .dish _ _ => some .dsv
  | .slots _ _ => some .pbc
  | .bus => some .pbc
  | .wind => some .wmn
  | .zone _ => some .znc
  | .banks => some .znc
  | .table => some .sls
  | .groups => some .sls
  | .feeders => some .fbu
  | .passDue => some .fbu
  | .heater _ => some .mlc
  | .policy => some .mlc
  | .lockouts => some .lkt
  | .store => some .nvs
  | .counters _ => some .act
  | .monitor => some .act
  | .conds => some .act
  | .tick => some .act

/-- A change of parts of the listed blocks leaves the other blocks alone. -/
theorem Changes.sameBut {l : Set Part} {s t : State} {bs : List Block} (h : Changes l s t) (hl : ∀ p ∈ l, ∀ b ∈ p.block, b ∈ bs) :
    SameBut bs s t := by
  have out (b : Block) (hb : b ∉ bs) (p : Part) (hp : p.block = some b) : p ∉ l := fun hm => hb (hl p hm b hp)
  refine ⟨?_, ?_, ?_, ?_, ?_, ?_, ?_, ?_, ?_, ?_⟩ <;> rw [or_iff_not_imp_left] <;> intro hb
  · exact h.dsv (fun _ _ => out _ hb _ rfl) (out _ hb _ rfl)
  · exact h.pbc (fun _ _ => out _ hb _ rfl) (out _ hb _ rfl)
  · exact h.same _ (out _ hb .wind rfl)
  · exact h.znc (fun _ => out _ hb _ rfl) (out _ hb _ rfl)
  · exact h.sls (out _ hb _ rfl) (out _ hb _ rfl)
  · exact h.fbu (out _ hb _ rfl) (out _ hb _ rfl)
  · exact h.mlc (fun _ => out _ hb _ rfl) (out _ hb _ rfl)
  · exact h.lockouts (out _ hb _ rfl)
  · exact h.store (out _ hb _ rfl)
  · exact h.act (fun _ => out _ hb _ rfl) (out _ hb _ rfl) (out _ hb _ rfl) (out _ hb _ rfl)

/-- An owner that changes neither the clock nor the link has an owner's frame. -/
theorem Changes.ownerFrame {l : Set Part} {s t : State} (h : Changes l s t) (hc : Part.clock ∉ l) (hl : Part.link ∉ l) :
    OwnerFrame s t := by
  obtain ⟨hp, hn, hm, hq⟩ : Part.Same s t .clock := h.same _ hc
  rw [OwnerFrame, h.link hl]
  exact ⟨hp, hn, hm, hq, rfl, rfl, rfl, rfl, rfl⟩

end Sys2Proof.Machine
end

section
-- One declaration at a time: the check bounds memory, and every thread in flight takes its stack from it.
set_option Elab.async false

/-! The frames of the operations that every block uses: record access, notices, counters, the monitor, the power account, and the
orders to the bus. -/

namespace Sys2Proof.Machine

/-! ## Families of parts -/

/-- The zone records. -/
def anyZone : Set Part := {p | ∃ z, p = .zone z}

/-- All parts of the record of dish `d`. -/
def wholeDish (d : Nat) : Set Part := {p | ∃ a, p = .dish a d}

/-- What the settling of a feeder's account may change (R126, R127, R139). -/
def accounting : Set Part := {.feeders, .passDue, .counters (some .ceilingHigh), .conds}

/-- What the Melt Controller's orders may change beside the account: heaters, HEAT commands, and the count of shed stages. -/
def heating : Set Part := accounting ∪ {.counters (some .shedStage)} ∪ {p | ∃ d, p = .heater d} ∪ {p | ∃ d, p = .slots .heat d}

@[simp] theorem mem_anyZone (p : Part) : p ∈ anyZone ↔ ∃ z, p = .zone z := Iff.rfl
@[simp] theorem mem_wholeDish (p : Part) (d : Nat) : p ∈ wholeDish d ↔ ∃ a, p = .dish a d := Iff.rfl
@[simp] theorem mem_accounting (p : Part) :
    p ∈ accounting ↔ p = .feeders ∨ p = .passDue ∨ p = .counters (some .ceilingHigh) ∨ p = .conds := Iff.rfl
@[simp] theorem mem_heating (p : Part) : p ∈ heating ↔
    (((p = .feeders ∨ p = .passDue ∨ p = .counters (some .ceilingHigh) ∨ p = .conds) ∨ p = .counters (some .shedStage))
      ∨ ∃ d, p = .heater d) ∨ ∃ d, p = .slots .heat d := Iff.rfl

/-! ## Record access -/

/-- A write to a dish record changes the parts that it gives another value. -/
theorem modDish_changes {l : Set Part} (s : State) (d : Nat) (f : Dish → Dish)
    (h : ∀ p, Part.dish p d ∉ l → p.Same (s.dish d) (f (s.dish d))) : Changes l s (s.modDish d f) := by
  refine ⟨fun p hp => ?_, by simp [State.sizes, State.modDish], fun _ hk => hk, id⟩
  cases p with
  | dish p e =>
    by_cases he : e = d
    · subst he
      by_cases hd : s.isDish e = true
      · simpa [Part.Same, modDish_dish_same s e f hd] using h p hp
      · have : s.modDish e f = s := by
          simp [State.modDish, tget_tmod_absent _ _ _ (Bool.not_eq_true _ ▸ hd : thas s.dsv.dishes e = false)]
        rw [this]; exact Part.Same.refl s _
    · simp [Part.Same, modDish_dish_other s d e f he]
  | _ => simp [Part.Same, State.slots, State.zone, State.heater, State.counterAt, State.modDish]

theorem modSlots_changes {l : Set Part} (s : State) (d : Nat) (f : Slots → Slots)
    (h : ∀ p, Part.slots p d ∉ l → p.Same (s.slots d) (f (s.slots d))) : Changes l s (s.modSlots d f) := by
  refine ⟨fun p hp => ?_, by simp [State.sizes, State.modSlots], fun _ hk => hk, id⟩
  cases p with
  | slots p e =>
    by_cases he : e = d
    · subst he
      by_cases hd : thas s.pbc.slots e = true
      · simpa [Part.Same, modSlots_slots_same s e f hd] using h p hp
      · have : s.modSlots e f = s := by
          simp [State.modSlots, tget_tmod_absent _ _ _ (Bool.not_eq_true _ ▸ hd : thas s.pbc.slots e = false)]
        rw [this]; exact Part.Same.refl s _
    · simp [Part.Same, modSlots_slots_other s d e f he]
  | _ => simp [Part.Same, State.dish, State.zone, State.heater, State.counterAt, State.modSlots]

theorem modZone_changes (s : State) (z : Nat) (f : Zone → Zone) : Changes {.zone z} s (s.modZone z f) := by
  refine ⟨fun p hp => ?_, by simp [State.sizes, State.modZone], fun _ hk => hk, id⟩
  cases p with
  | zone y => exact modZone_zone_other s z y f (by simpa using hp)
  | _ => simp [Part.Same, State.dish, State.slots, State.heater, State.counterAt, State.modZone]

theorem modHeater_changes (s : State) (d : Nat) (f : Heater → Heater) : Changes {.heater d} s (s.modHeater d f) := by
  refine ⟨fun p hp => ?_, by simp [State.sizes, State.modHeater], fun _ hk => hk, id⟩
  cases p with
  | heater e => exact modHeater_heater_other s d e f (by simpa using hp)
  | _ => simp [Part.Same, State.dish, State.slots, State.zone, State.counterAt, State.modHeater]

theorem modFeeder_changes (s : State) (f : Feeder) (g : FeederRec → FeederRec) : Changes {.feeders} s (s.modFeeder f g) := by
  refine ⟨fun p hp => ?_, rfl, fun _ hk => hk, id⟩
  cases p with
  | feeders => exact absurd rfl hp
  | _ => simp [Part.Same, State.dish, State.slots, State.zone, State.heater, State.counterAt, State.modFeeder]

theorem modRecord_changes (s : State) (id : Nat) (f : SlewRecord → SlewRecord) : Changes {.table} s (s.modRecord id f) := by
  refine ⟨fun p hp => ?_, rfl, fun _ hk => hk, fun hp => hp⟩
  cases p with
  | table => exact absurd rfl hp
  | _ => simp [Part.Same, State.dish, State.slots, State.zone, State.heater, State.counterAt, State.modRecord]

/-! ## Notices, the monitor and the condition sets -/

/-- What a notice made pending leaves: the key is pending, and nothing else has changed (R198). -/
theorem raise_cases (s : State) (k : NoticeKey) :
    (k ∈ s.oli.notices ∧ s.raise k = s) ∨ s.raise k = { s with oli.notices := s.oli.notices ++ [k] } := by
  unfold State.raise
  generalize (if s.oli.keyOnLine == some k then 1 else 0) = building
  simp only
  split
  · exact .inr rfl
  · exact .inl ⟨List.count_pos_iff.mp (by omega), rfl⟩

theorem raise_changes (s : State) (k : NoticeKey) : Changes ∅ s (s.raise k) := by
  obtain ⟨-, h⟩ | h := raise_cases s k <;> rw [h]
  · exact Changes.refl _ s
  · refine ⟨fun p _ => ?_, rfl, fun _ hk => List.mem_append_left _ hk, id⟩
    cases p with
    | _ => simp [Part.Same, State.dish, State.slots, State.zone, State.heater, State.counterAt]

/-- A raised notice is pending (R198). -/
theorem mem_raise (s : State) (k : NoticeKey) : k ∈ (s.raise k).oli.notices := by
  obtain ⟨hk, h⟩ | h := raise_cases s k <;> rw [h]
  · exact hk
  · simp

@[simp] theorem raise_dish (s : State) (k : NoticeKey) (d : Nat) : (s.raise k).dish d = s.dish d :=
  (raise_changes s k).dish (by simp)

theorem trigger_changes (s : State) : Changes {.passDue} s s.trigger := by
  refine ⟨fun p hp => ?_, rfl, fun _ hk => hk, fun _ => rfl⟩
  cases p with
  | passDue => exact absurd rfl hp
  | _ => simp [Part.Same, State.dish, State.slots, State.zone, State.heater, State.counterAt, State.trigger]

/-- A write to the monitor alone. -/
theorem withMonitor_changes (s : State) (m : Monitor) : Changes {.monitor} s { s with act.monitor := m } := by
  refine ⟨fun p hp => ?_, rfl, fun _ hk => hk, id⟩
  cases p with
  | monitor => exact absurd rfl hp
  | _ => simp [Part.Same, State.dish, State.slots, State.zone, State.heater, State.counterAt]

theorem monitorCreated_changes (s : State) (ref : TrackRef) (isStow : Bool) : Changes {.monitor} s (s.monitorCreated ref isStow) :=
  withMonitor_changes s _

theorem monitorAdmitted_changes (s : State) (ref : TrackRef) : Changes {.monitor} s (s.monitorAdmitted ref) :=
  withMonitor_changes s _

theorem monitorCompleted_changes (s : State) (ref : TrackRef) : Changes {.monitor} s (s.monitorCompleted ref) :=
  withMonitor_changes s _

/-- A write to the condition sets alone. -/
theorem withConds_changes (s : State) (c : Conditions) : Changes {.conds} s { s with act.conds := c } := by
  refine ⟨fun p hp => ?_, rfl, fun _ hk => hk, id⟩
  cases p with
  | conds => exact absurd rfl hp
  | _ => simp [Part.Same, State.dish, State.slots, State.zone, State.heater, State.counterAt]

theorem syncStowOrder_changes (s : State) : Changes {.conds} s s.syncStowOrder := withConds_changes s _

theorem syncCeiling_changes (s : State) : Changes {.conds} s s.syncCeiling := withConds_changes s _

theorem syncUnmet_changes (s : State) : Changes {.conds} s s.syncUnmet := withConds_changes s _

/-! ## Counters -/

theorem bump_cls (c : Counter) : c.bump.1.cls = c.cls := by
  unfold Counter.bump
  simp only
  split <;> split <;> (try split) <;> rfl

/-- The counters after an increment of those that `p` selects. -/
theorem counterAt_map (l : List Counter) (p : Counter → Bool) (hp : p {} = false) (i : Nat) :
    ((l.map (fun c => if p c then c.bump else (c, false))).map (·.1)).getD i {}
      = if p (l.getD i {}) then (l.getD i {}).bump.1 else l.getD i {} := by
  rw [List.map_map]
  by_cases h : i < l.length
  · simp only [List.getD_eq_getElem?_getD, List.getElem?_map, List.getElem?_eq_getElem h, Option.map_some, Option.getD_some,
      Function.comp]
    split <;> rfl
  · have hl : l.getD i {} = {} := by simp [List.getD_eq_getElem?_getD, List.getElem?_eq_none (Nat.le_of_not_lt h)]
    rw [hl, hp]
    simp [List.getD_eq_getElem?_getD, List.getElem?_eq_none (Nat.le_of_not_lt h)]

/-- The notices that an increment raises are the only thing that it does beside the counters. -/
theorem bumpWhere_raises (s : State) (p : Counter → Bool) :
    Changes ∅ { s with act.counters := (s.act.counters.map (fun c => if p c then c.bump else (c, false))).map (·.1) } (s.bumpWhere p) := by
  unfold State.bumpWhere
  exact Changes.foldl _ _ _ (fun t _ _ => raise_changes t _)

theorem bumpWhere_counterAt (s : State) (p : Counter → Bool) (hp : p {} = false) (i : Nat) :
    (s.bumpWhere p).counterAt i = if p (s.counterAt i) then (s.counterAt i).bump.1 else s.counterAt i := by
  rw [(bumpWhere_raises s p).counterAt (by simp)]
  exact counterAt_map _ p hp i

/-- A write to the counters of one class. -/
theorem withCounters_changes (s : State) (cs : List Counter) (k : Option EventClass) (hl : cs.length = s.act.counters.length)
    (h : ∀ i, (s.counterAt i).cls ≠ k → cs.getD i {} = s.counterAt i) :
    Changes {.counters k} s { s with act.counters := cs } := by
  refine ⟨fun q hq => ?_, by simp [State.sizes, hl], fun _ hk => hk, id⟩
  cases q with
  | counters k' => exact fun i hi => h i (fun hk => hq (by rw [← hk, hi]; rfl))
  | _ => simp [Part.Same, State.dish, State.slots, State.zone, State.heater]

theorem bumpWhere_changes (s : State) (p : Counter → Bool) (k : Option EventClass) (hk : ∀ c, p c = true → c.cls = k)
    (hp : p {} = false) : Changes {.counters k} s (s.bumpWhere p) := by
  refine (withCounters_changes s _ k (by simp) fun i hi => ?_).trans ((bumpWhere_raises s p).mono (Set.empty_subset _))
  rw [counterAt_map _ p hp]
  exact if_neg (fun h => hi (hk _ h))

theorem counts_cls {c : Counter} {k : EventClass} {q : Option Nat} (h : c.counts k q = true) : c.cls = some k := by
  simp only [Counter.counts, Bool.and_eq_true, beq_iff_eq] at h
  exact h.1.1

/-- R184: an event of class `k` is counted by the counters of that class. -/
theorem count_changes (s : State) (k : EventClass) (q : Option Nat) : Changes {.counters (some k)} s (s.count k q) :=
  bumpWhere_changes s _ _ (fun _ h => counts_cls h) rfl

theorem countLock_changes (s : State) (k : Option LockKind) : Changes {.counters (some .lockBlock)} s (s.countLock k) := by
  cases k with
  | none => exact Changes.refl _ s
  | some k => exact count_changes s _ _

/-! ## The power account -/

theorem settleFrom_changes (s : State) (f : Feeder) (b : Bool) : Changes accounting s (s.settleFrom f b) := by
  have account (g : FeederRec → FeederRec) (c : Prop) [Decidable c] :
      Changes accounting s (if c then (s.modFeeder f g).trigger else s.modFeeder f g) := by
    have h := (modFeeder_changes s f g).mono (l' := accounting)
    exact Changes.ite (fun _ => h.trans ((trigger_changes _).mono)) (fun _ => h)
  have notice (t : State) : Changes accounting t (t.syncCeiling.raise (.budget f)) :=
    ((syncCeiling_changes t).andThen (raise_changes _ _)).mono
  refine Changes.ite (fun _ => account _ _) (fun _ => Changes.ite (fun _ => ?_) (fun _ => (account _ _).trans (notice _)))
  exact ((account _ _).trans (notice _)).trans ((count_changes _ _ _).mono)

theorem settle_changes (s : State) (f : Feeder) : Changes accounting s (s.settle f) := settleFrom_changes s f _

theorem reserve_changes (s : State) (d w : Nat) : Changes ({.dish .reservation d} ∪ accounting) s (s.reserve d w) := by
  refine (modDish_changes s d _ (l := {.dish .reservation d}) fun p hp => ?_).andThen (settle_changes _ _)
  cases p <;> simp_all [DishPart.Same]

theorem release_changes (s : State) (d : Nat) : Changes ({.dish .reservation d} ∪ accounting) s (s.release d) := by
  unfold State.release
  split
  · exact Changes.refl _ s
  · have h : Changes {.dish .reservation d} s (s.modDish d (fun r => { r with reservation := none })) :=
      modDish_changes s d _ fun p hp => by cases p <;> simp_all [DishPart.Same]
    exact ((h.andThen (settle_changes _ _)).andThen (trigger_changes _)).mono

/-! ## Orders to the bus -/

theorem removeMove_same (sl : Slots) (p : SlotPart) (h : p ≠ .move) : p.Same sl sl.removeMove := by
  cases p <;> simp_all [SlotPart.Same, Slots.removeMove]

theorem placeMove_same (sl : Slots) (cmd : MoveCmd) (m : Nat) (p : SlotPart) (h : p ≠ .move) : p.Same sl (sl.placeMove cmd m) := by
  cases p <;> simp_all [SlotPart.Same, Slots.placeMove, Slots.removeMove]

theorem placeStop_same (sl : Slots) (m : Nat) (p : SlotPart) (h : p ≠ .stop) : p.Same sl (sl.placeStop m) := by
  unfold Slots.placeStop
  split
  · cases p <;> simp_all [SlotPart.Same]
  · exact SlotPart.Same.refl _ p

theorem removeStop_same (sl : Slots) (p : SlotPart) (h : p ≠ .stop) : p.Same sl sl.removeStop := by
  cases p <;> simp_all [SlotPart.Same, Slots.removeStop]

theorem removeHeat_same (sl : Slots) (p : SlotPart) (h : p ≠ .heat) : p.Same sl sl.removeHeat := by
  cases p <;> simp_all [SlotPart.Same, Slots.removeHeat]

theorem placeHeat_same (sl : Slots) (st m : Nat) (p : SlotPart) (h : p ≠ .heat) : p.Same sl (sl.placeHeat st m) := by
  unfold Slots.placeHeat
  split <;> cases p <;> simp_all [SlotPart.Same]

theorem orderMove_changes (s : State) (d : Nat) (cmd : MoveCmd) : Changes {.slots .move d} s (s.orderMove d cmd) :=
  Changes.ite (fun _ => Changes.refl _ s) (fun _ => modSlots_changes s d _ fun p hp => placeMove_same _ _ _ p (by simpa using hp))

theorem orderStop_changes (s : State) (d : Nat) : Changes {.slots .move d, .slots .stop d} s (s.orderStop d) :=
  modSlots_changes s d _ fun p hp => by
    have hp' : p ≠ .move ∧ p ≠ .stop := by simpa using hp
    exact (removeMove_same _ p hp'.1).trans (placeStop_same _ _ p hp'.2)

theorem orderHeat_changes (s : State) (d st : Nat) : Changes {.slots .heat d} s (s.orderHeat d st) :=
  Changes.ite (fun _ => Changes.refl _ s) (fun _ => modSlots_changes s d _ fun p hp => placeHeat_same _ _ _ p (by simpa using hp))

theorem removeMove_changes (s : State) (d : Nat) : Changes {.slots .move d} s (s.removeMove d) :=
  modSlots_changes s d _ fun p hp => removeMove_same _ p (by simpa using hp)

theorem removeMotion_changes (s : State) (d : Nat) : Changes {.slots .move d, .slots .stop d} s (s.removeMotion d) :=
  modSlots_changes s d _ fun p hp => by
    have hp' : p ≠ .move ∧ p ≠ .stop := by simpa using hp
    exact (removeMove_same _ p hp'.1).trans (removeStop_same _ p hp'.2)

theorem clearSlots_changes (s : State) (d : Nat) :
    Changes {.slots .move d, .slots .stop d, .slots .heat d} s (s.clearSlots d) :=
  modSlots_changes s d _ fun p hp => by
    have hp' : p ≠ .move ∧ p ≠ .stop ∧ p ≠ .heat := by simpa using hp
    exact ((removeMove_same _ p hp'.1).trans (removeStop_same _ p hp'.2.1)).trans (removeHeat_same _ p hp'.2.2)

/-! ## Change flags -/

theorem flag_changes (s : State) (d : Nat) (x : ChangeFlags) : Changes {p | ∃ k, x.has k = true ∧ p = .dish (.flag k) d} s (s.flag d x) := by
  unfold State.flag
  simp only
  split
  · exact Changes.refl _ s
  · refine ((modDish_changes s d _ (l := {p | ∃ k, x.has k = true ∧ p = .dish (.flag k) d}) fun p hp => ?_).andThen
      (raise_changes _ _)).mono
    cases p with
    | flag k =>
      have hk : x.has k = false := by simpa using hp
      simp [DishPart.Same, has_union, hk]
    | _ => simp [DishPart.Same]

end Sys2Proof.Machine
end

section
-- One declaration at a time: the check bounds memory, and every thread in flight takes its stack from it.
set_option Elab.async false

/-! The frames of claims and of the entries to dish states: what the closing of a claim, a stop order and the entries to READY,
UNREFERENCED and FAULTED may change. -/

namespace Sys2Proof.Machine

/-! ## Dish numbers that name no dish -/

/-- A number that names no dish reads as a record that no write reaches. -/
theorem dish_of_not_isDish (s : State) (d : Nat) (h : s.isDish d = false) : s.dish d = Dish.initial := by
  cases d with
  | zero => rfl
  | succ k =>
    have hk : s.dsv.dishes.length ≤ k := by simp [State.isDish, thas] at h; omega
    simp [State.dish, tget, List.getD_eq_getElem?_getD, List.getElem?_eq_none hk]

/-- A write to a dish record, for a number that may name no dish. -/
theorem modDish_dish_cases (s : State) (d : Nat) (f : Dish → Dish) :
    (s.isDish d = true ∧ (s.modDish d f).dish d = f (s.dish d))
      ∨ (s.isDish d = false ∧ s.dish d = Dish.initial ∧ (s.modDish d f).dish d = Dish.initial) := by
  cases h : s.isDish d with
  | true => exact .inl ⟨rfl, modDish_dish_same s d f h⟩
  | false => exact .inr ⟨rfl, dish_of_not_isDish s d h, dish_of_not_isDish _ d (by rw [modDish_isDish, h])⟩

/-! ## Members of records and waves -/

theorem completionTest_changes (s : State) (id : Nat) : Changes {.table, .monitor} s (s.completionTest id) := by
  unfold State.completionTest
  split
  · refine Changes.ite (fun _ => Changes.refl _ s) (fun _ => ?_)
    exact (((modRecord_changes s id _).andThen (raise_changes _ _)).andThen (monitorCompleted_changes _ _)).mono
  · exact Changes.refl _ s

theorem closeHost_changes (s : State) (id d : Nat) (st : MemberState) : Changes {.table, .monitor} s (s.closeHost id d st) :=
  ((modRecord_changes s id _).andThen (completionTest_changes _ _)).mono

theorem waveTest_changes (s : State) (z : Nat) : Changes {.zone z, .monitor} s (s.waveTest z) := by
  unfold State.waveTest
  split
  · refine Changes.ite (fun _ => Changes.refl _ s) (fun _ => ?_)
    exact (((modZone_changes s z _).andThen (raise_changes _ _)).andThen (monitorCompleted_changes _ _)).mono
  · exact Changes.refl _ s

theorem setWaveMember_changes (s : State) (z d : Nat) (st : WaveState) : Changes {.zone z, .monitor} s (s.setWaveMember z d st) :=
  ((modZone_changes s z _).andThen (waveTest_changes _ _)).mono

/-! ## Claims -/

/-- A write to a dish record that touches its claim alone. -/
theorem modDish_claim_changes (s : State) (d : Nat) (f : Dish → Dish)
    (h : ∀ r : Dish, f r = { r with claim := (f r).claim, task := (f r).task, slewTimeout := (f r).slewTimeout, acceptedSeq := (f r).acceptedSeq }) :
    Changes {.dish .claim d} s (s.modDish d f) :=
  modDish_changes s d f fun p hp => by
    rw [h]
    cases p <;> simp_all [DishPart.Same]

theorem openClaim_changes (s : State) (d : Nat) (ref : ClaimRef) : Changes {.dish .claim d, .passDue} s (s.openClaim d ref) :=
  ((modDish_claim_changes s d _ (fun _ => rfl)).andThen (trigger_changes _)).mono

theorem openTask_changes (s : State) (d : Nat) (k : Task) : Changes {.dish .claim d, .passDue} s (s.openTask d k) :=
  ((modDish_claim_changes s d _ (fun _ => rfl)).andThen (trigger_changes _)).mono

/-- The parts beside the dish's own claim that the closing of a claim with this reference may change. -/
def closingOf : Option ClaimRef → Set Part
  | some (.host _) => {.table, .monitor}
  | some (.wave z) => {.zone z, .monitor}
  | some .task => ∅
  | none => ∅

/-- What the closing of any claim may change beside the dish's own claim. -/
def closing : Set Part := {.table, .monitor} ∪ anyZone

@[simp] theorem mem_closing (p : Part) : p ∈ closing ↔ (p = .table ∨ p = .monitor) ∨ ∃ z, p = .zone z := Iff.rfl

theorem closingOf_subset (r : Option ClaimRef) : closingOf r ⊆ closing := by
  match r with
  | some (.host _) => simp [closingOf, Set.insert_subset_iff]
  | some (.wave _) => simp [closingOf, Set.insert_subset_iff]
  | some .task => simp [closingOf]
  | none => simp [closingOf]

/-- What the closing of an open claim does after the claim has left the dish record (R104, R105, R81, R108). -/
theorem closeClaim_tail (s : State) (d : Nat) (host : MemberState) (wave : WaveState) (c : OpenClaim) (hc : (s.dish d).claim = some c) :
    Changes ({.passDue} ∪ closingOf (some c.ref)) (s.modDish d Dish.dropClaim) (s.closeClaim d host wave) := by
  have waits (cond : Prop) [Decidable cond] : Changes {.passDue} (s.modDish d Dish.dropClaim)
      (if cond then (s.modDish d Dish.dropClaim).trigger else s.modDish d Dish.dropClaim) :=
    Changes.ite (fun _ => trigger_changes _) (fun _ => Changes.refl _ _)
  unfold State.closeClaim
  simp only [hc]
  cases c.ref with
  | host id => exact (waits _).andThen (closeHost_changes _ _ _ _)
  | wave z => exact (waits _).andThen (setWaveMember_changes _ _ _ _)
  | task => exact (waits _).mono Set.subset_union_left

theorem closeClaim_of_none (s : State) (d : Nat) (host : MemberState) (wave : WaveState) (hc : (s.dish d).claim = none) :
    s.closeClaim d host wave = s := by
  simp [State.closeClaim, hc]

/-- The closing of a claim changes the dish's own claim, its member's record or wave, and the pass trigger. -/
theorem closeClaim_changes_of_ref (s : State) (d : Nat) (host : MemberState) (wave : WaveState) :
    Changes ({.dish .claim d, .passDue} ∪ closingOf ((s.dish d).claim.map (·.ref))) s (s.closeClaim d host wave) := by
  cases hc : (s.dish d).claim with
  | none => rw [closeClaim_of_none s d host wave hc]; exact Changes.refl _ s
  | some c =>
    refine ((modDish_claim_changes s d Dish.dropClaim (fun _ => rfl)).andThen (closeClaim_tail s d host wave c hc)).mono ?_
    rw [← Set.union_assoc]
    exact Set.union_subset_union_left _ (by simp [Set.insert_subset_iff])

/-- The dish record after its claim, if it has one, is closed (Table 5). -/
theorem closeClaim_dish (s : State) (d : Nat) (host : MemberState) (wave : WaveState) :
    (s.closeClaim d host wave).dish d = if (s.dish d).claim = none then s.dish d else (s.dish d).dropClaim := by
  cases hc : (s.dish d).claim with
  | none => simp [closeClaim_of_none s d host wave hc]
  | some c =>
    have hd : s.isDish d = true := by
      by_contra h
      simp [dish_of_not_isDish s d (by simpa using h), Dish.initial] at hc
    have h := (closeClaim_tail s d host wave c hc).dish (d := d) (by rcases c.ref with _ | _ | _ <;> simp [closingOf])
    simp [h, modDish_dish_same s d _ hd]

theorem closeClaim_claim (s : State) (d : Nat) (host : MemberState) (wave : WaveState) :
    ((s.closeClaim d host wave).dish d).claim = none := by
  rw [closeClaim_dish]
  split
  · assumption
  · rfl

theorem closeClaim_changes (s : State) (d : Nat) (host : MemberState) (wave : WaveState) :
    Changes ({.dish .claim d, .passDue} ∪ closing) s (s.closeClaim d host wave) :=
  (closeClaim_changes_of_ref s d host wave).mono (Set.union_subset_union_right _ (closingOf_subset _))

theorem abortClaim_changes (s : State) (d : Nat) (why : Abort) :
    Changes ({.dish .claim d, .passDue} ∪ closing) s (s.abortClaim d why) := closeClaim_changes s d _ _

theorem excuseClaim_changes (s : State) (d : Nat) (why : Excuse) :
    Changes ({.dish .claim d, .passDue} ∪ closing) s (s.excuseClaim d why) := closeClaim_changes s d _ _

theorem autoStow_changes (s : State) (d : Nat) : Changes {.dish .claim d, .passDue} s (s.autoStow d) :=
  Changes.ite (fun _ => openTask_changes _ _ _) (fun _ => Changes.refl _ s)

theorem gain_changes (s : State) (d : Nat) : Changes {.dish .claim d, .passDue} s (s.gain d) :=
  ((autoStow_changes s d).andThen (trigger_changes _)).mono

/-! ## The end of a preemption and the entries to dish states -/

/-- R80: the end of STOPPING in another state than READY touches the wave of the dish's zone alone. -/
theorem endPreempt_changes_of_ne_ready (s : State) (d : Nat) (h : (s.dish d).state ≠ .ready) :
    Changes {.monitor, .zone (s.dish d).zone} s (s.endPreempt d) := by
  have member (z : Nat) (st : WaveState) : Changes {.monitor, .zone z} s (s.setWaveMember z d st) :=
    (setWaveMember_changes s z d st).mono
  unfold State.endPreempt
  simp only
  split
  · refine Changes.ite (fun _ => Changes.refl _ s) (fun _ => ?_)
    split
    · exact absurd ‹_› h
    · exact member _ _
    · exact member _ _
    · exact member _ _
    · exact member _ _
    · exact Changes.refl _ s
  · exact Changes.refl _ s

/-- R80: the end of STOPPING in READY may also give the dish the claim of its wave member. -/
theorem endPreempt_changes (s : State) (d : Nat) :
    Changes {.dish .claim d, .passDue, .monitor, .zone (s.dish d).zone} s (s.endPreempt d) := by
  by_cases h : (s.dish d).state = .ready
  · have opened (c : Prop) [Decidable c] (ref : ClaimRef) :
        Changes {.dish .claim d, .passDue, .monitor, .zone (s.dish d).zone} s (if c then s.openClaim d ref else s) :=
      Changes.ite (fun _ => (openClaim_changes s d ref).mono) (fun _ => Changes.refl _ s)
    unfold State.endPreempt
    simp only [h]
    split
    · exact Changes.ite (fun _ => Changes.refl _ s) (fun _ => (opened _ _).trans (setWaveMember_changes _ _ _ _).mono)
    · exact Changes.refl _ s
  · exact (endPreempt_changes_of_ne_ready s d h).mono

/-- Without a PREEMPT_WAIT member of the dish in the wave of its zone the end of STOPPING is none of R80's business. -/
theorem endPreempt_eq_self (s : State) (d : Nat)
    (h : ∀ w, (s.zone (s.dish d).zone).wave = some w → ∀ m ∈ w.members, m.dish = d → m.state ≠ .preemptWait) : s.endPreempt d = s := by
  unfold State.endPreempt
  simp only
  split
  · rename_i m hm
    obtain ⟨w, hw, hm⟩ := Option.bind_eq_some_iff.mp hm
    have hd : m.dish = d := by simpa using List.find?_some hm
    simp [h w hw m (List.mem_of_find?_eq_some hm) hd]
  · rfl

/-- A write to a dish record that touches its state alone. -/
theorem modDish_state_changes (s : State) (d : Nat) (st : DishState) :
    Changes {.dish .state d} s (s.modDish d (fun r => { r with state := st })) :=
  modDish_changes s d _ fun p hp => by cases p <;> simp_all [DishPart.Same]

theorem modDish_timer_changes (s : State) (d : Nat) (x : Option DishTimer) :
    Changes {.dish .timer d} s (s.modDish d (fun r => { r with timer := x })) :=
  modDish_changes s d _ fun p hp => by cases p <;> simp_all [DishPart.Same]

/-- What the entry to READY or UNREFERENCED may change. -/
def entering (d z : Nat) : Set Part := {.dish .state d, .dish .claim d, .passDue, .monitor, .zone z}

@[simp] theorem mem_entering (p : Part) (d z : Nat) :
    p ∈ entering d z ↔ p = .dish .state d ∨ p = .dish .claim d ∨ p = .passDue ∨ p = .monitor ∨ p = .zone z := Iff.rfl

theorem modDish_zone_of_state (s : State) (d : Nat) (st : DishState) :
    ((s.modDish d (fun r => { r with state := st })).dish d).zone = (s.dish d).zone :=
  ((modDish_state_changes s d st).same (.dish .assignment d) (by simp)).2

theorem enterReady_changes (s : State) (d : Nat) : Changes (entering d (s.dish d).zone) s (s.enterReady d) := by
  have h1 : Changes (entering d (s.dish d).zone) s
      (((s.modDish d (fun r => { r with state := .ready })).trigger).endPreempt d) := by
    refine ((((modDish_state_changes s d .ready).andThen (trigger_changes _)).andThen (endPreempt_changes _ d))).mono ?_
    rw [trigger_dish, modDish_zone_of_state]
    simp [Set.insert_subset_iff]
  unfold State.enterReady
  exact Changes.ite (fun _ => h1.trans ((gain_changes _ d).mono)) (fun _ => h1)

theorem enterUnreferenced_changes (s : State) (d : Nat) : Changes (entering d (s.dish d).zone) s (s.enterUnreferenced d) := by
  refine (((modDish_state_changes s d .unreferenced).andThen (endPreempt_changes _ d)).andThen (openTask_changes _ d .home)).mono ?_
  rw [modDish_zone_of_state]
  simp [Set.insert_subset_iff]

/-- What the entry to FAULTED may change beside the supervisor fault; the claim is none of it. -/
def faulting (d z : Nat) : Set Part :=
  {.dish .state d, .dish (.flag .fault) d, .counters (some .dishFault), .monitor, .zone z}

@[simp] theorem mem_faulting (p : Part) (d z : Nat) : p ∈ faulting d z ↔ p = .dish .state d ∨ p = .dish (.flag .fault) d
    ∨ p = .counters (some .dishFault) ∨ p = .monitor ∨ p = .zone z := Iff.rfl

/-- The record that enters FAULTED. -/
def Dish.fault (r : Dish) (sup : Option SupFault) : Dish := { r with state := .faulted, supFault := sup.getD r.supFault }

/-- The entry to FAULTED, for a supervisor fault or for a drive fault, which leaves the supervisor fault as it is. -/
theorem enterFaulted_changes {l : Set Part} (s : State) (d : Nat) (sup : Option SupFault) (hl : faulting d (s.dish d).zone ⊆ l)
    (hs : sup.isSome = true → .dish .supFault d ∈ l) : Changes l s (s.enterFaulted d sup) := by
  have h1 : Changes l s (s.modDish d (·.fault sup)) := modDish_changes s d _ fun p hp => by
    cases p with
    | state => exact absurd (hl (by simp)) hp
    | supFault =>
      cases sup with
      | none => rfl
      | some f => exact absurd (hs rfl) hp
    | _ => simp [DishPart.Same, Dish.fault]
  have h2 (t : State) (x : Option Nat) : Changes {.dish (.flag .fault) d, .counters (some .dishFault)} t
      ((t.flag d { fault := true }).count .dishFault x) := by
    refine ((flag_changes t d _).andThen (count_changes _ .dishFault x)).mono ?_
    rintro p (⟨k, hk, rfl⟩ | rfl)
    · cases k <;> simp_all [ChangeFlags.has]
    · simp
  have hz : ((s.modDish d (·.fault sup)).dish d).zone = (s.dish d).zone ∧ ((s.modDish d (·.fault sup)).dish d).state ≠ .ready := by
    obtain ⟨-, h⟩ | ⟨-, h, h'⟩ := modDish_dish_cases s d (·.fault sup)
    · rw [h]; simp [Dish.fault]
    · rw [h, h']; simp [Dish.initial]
  have hk := h2 (s.modDish d (·.fault sup)) (some (faultBit (sup.getD .clear)))
  have hz' := (hk.same (.dish .assignment d) (by simp)).2
  have hs' : DishPart.Same _ _ .state := hk.same (.dish .state d) (by simp)
  have h3 := endPreempt_changes_of_ne_ready _ d (hs' ▸ hz.2)
  rw [hz', hz.1] at h3
  exact (h1.trans (hk.mono (subset_trans (by simp [Set.insert_subset_iff]) hl))).trans
    (h3.mono (subset_trans (by simp [Set.insert_subset_iff]) hl))

/-! ## The stop order -/

/-- What a stop order may change beside the claim (R20). -/
def stopping (d : Nat) : Set Part :=
  {.dish .state d, .dish .timer d, .dish .claim d, .slots .move d, .slots .stop d, .passDue}

@[simp] theorem mem_stopping (p : Part) (d : Nat) : p ∈ stopping d ↔ p = .dish .state d ∨ p = .dish .timer d ∨ p = .dish .claim d
    ∨ p = .slots .move d ∨ p = .slots .stop d ∨ p = .passDue := Iff.rfl

/-- A stop order changes the dish and its slots, and what the closing of its claim changes (R20). -/
theorem stopOrder_changes_of_ref (s : State) (d : Nat) (o : StopOutcome) :
    Changes (stopping d ∪ closingOf ((s.dish d).claim.map (·.ref))) s (s.stopOrder d o) := by
  refine Changes.ite (fun _ => ?_) (fun _ => Changes.refl _ s)
  have hclose := (closeClaim_changes_of_ref s d o.host o.wave).mono (l' := stopping d ∪ closingOf ((s.dish d).claim.map (·.ref)))
    (Set.union_subset_union_left _ (by simp [Set.insert_subset_iff]))
  have hmod (t : State) (x : Option DishTimer) : Changes (stopping d) t (t.modDish d (fun r => { r with state := .stopping, timer := x })) :=
    modDish_changes t d _ fun p hp => by cases p <;> simp_all [DishPart.Same]
  exact (hclose.trans ((hmod _ _).mono Set.subset_union_left)).trans
    ((orderStop_changes _ d).mono (l' := stopping d) |>.mono Set.subset_union_left)

theorem stopOrder_changes (s : State) (d : Nat) (o : StopOutcome) : Changes (stopping d ∪ closing) s (s.stopOrder d o) :=
  (stopOrder_changes_of_ref s d o).mono (Set.union_subset_union_right _ (closingOf_subset _))

end Sys2Proof.Machine
end

section
-- One declaration at a time: the check bounds memory, and every thread in flight takes its stack from it.
set_option Elab.async false

/-! The frames of the Melt Controller: orders, allocation, the gate, the heater law, and what it does with a reply and an absence. -/

namespace Sys2Proof.Machine

theorem accounting_subset_heating : accounting ⊆ heating := fun p hp => by simp_all

theorem heater_mem_heating (d : Nat) : Part.heater d ∈ heating := by simp

theorem modHeater_heating (s : State) (d : Nat) (f : Heater → Heater) : Changes heating s (s.modHeater d f) :=
  (modHeater_changes s d f).mono

theorem settle_heating (s : State) (f : Feeder) : Changes heating s (s.settle f) :=
  (settle_changes s f).mono accounting_subset_heating

/-! ## Orders and allocation -/

/-- A stage order changes the heater, its HEAT command and the account of one feeder (R151). -/
theorem orderStage_changes (s : State) (d stage : Nat) :
    Changes ({.heater d, .slots .heat d} ∪ accounting) s (s.orderStage d stage) :=
  (((modHeater_changes s d _).mono (Set.subset_union_of_subset_left (by simp) _)).trans
    ((settle_changes _ _).mono Set.subset_union_right)).trans
      ((orderHeat_changes _ d stage).mono (Set.subset_union_of_subset_left (by simp) _))

theorem orderStage_heating (s : State) (d stage : Nat) : Changes heating s (s.orderStage d stage) :=
  (orderStage_changes s d stage).mono (Set.union_subset (by simp [Set.insert_subset_iff]) accounting_subset_heating)

theorem tryRaise_heating (s : State) (f : Feeder) (d fit : Nat) : Changes heating s (s.tryRaise f d fit) := by
  refine Changes.ite (fun _ => ?_) (fun _ => Changes.refl _ s)
  split
  · exact orderStage_heating s d _
  · exact Changes.refl _ s

theorem allocate_heating (s : State) (f : Feeder) : Changes heating s (s.allocate f) := by
  unfold State.allocate
  refine Changes.trans (Changes.foldl _ _ s fun t x _ => ?_) (Changes.foldl _ _ _ fun t x _ => tryRaise_heating t f _ _)
  exact Changes.ite (fun _ => orderStage_heating t _ _) (fun _ => Changes.refl _ t)

theorem cutStages_heating (f : Feeder) (demand fuel : Nat) (s : State) : Changes heating s (s.cutStages f demand fuel) := by
  induction fuel generalizing s with
  | zero => exact Changes.refl _ s
  | succ fuel ih =>
    unfold State.cutStages
    refine Changes.ite (fun _ => Changes.refl _ s) (fun _ => ?_)
    split
    · exact Changes.refl _ s
    · exact ((orderStage_heating s _ _).trans (count_changes _ _ _).mono).trans (ih _)

theorem applyDemand_heating (s : State) (f : Feeder) : Changes heating s (s.applyDemand f) := by
  unfold State.applyDemand
  split
  · exact cutStages_heating f _ _ s
  · exact Changes.refl _ s

theorem allocateOn_heating (s : State) (f : Feeder) : Changes heating s (s.allocateOn f) :=
  ((allocate_heating s f).trans (applyDemand_heating _ f)).trans (syncUnmet_changes _).mono

/-! ## The gate and the heater law -/

theorem gateHeater_changes (s : State) (d : Nat) : Changes {.heater d} s (s.gateHeater d) := modHeater_changes s d _

theorem gateAndAllocate_heating (s : State) (d : Nat) : Changes heating s (s.gateAndAllocate d) :=
  Changes.ite (fun _ => modHeater_heating s d _) (fun _ => (modHeater_heating s d _).trans (allocateOn_heating _ _))

theorem noteTemp_heating (s : State) (d : Nat) (st : Status) : Changes heating s (s.noteTemp d st) :=
  Changes.ite (fun _ => Changes.refl _ s) (fun _ => modHeater_heating s d _)

theorem confirmStage_heating (s : State) (d applied : Nat) : Changes heating s (s.confirmStage d applied) :=
  Changes.ite (fun _ => (modHeater_heating s d _).trans (settle_heating _ _)) (fun _ => Changes.refl _ s)

theorem reorderStage_heating (s : State) (d applied : Nat) : Changes heating s (s.reorderStage d applied) :=
  Changes.ite (fun _ => (orderHeat_changes s d _).mono) (fun _ => Changes.refl _ s)

theorem heaterAbsent_heating (s : State) (d : Nat) : Changes heating s (s.heaterAbsent d) :=
  ((modHeater_heating s d _).trans (settle_heating _ _)).trans (allocateOn_heating _ _)

/-- A melt completion of a dish to which no SHED task is given. -/
theorem completeMelt_heating (s : State) (d : Nat) (st : Status) (h : s.shedDecision d ≠ .created) :
    Changes heating s (s.completeMelt d st) := by
  simp only [State.completeMelt, beq_iff_eq, h, if_false]
  exact (modHeater_heating s d _).trans (modHeater_heating _ d _)

theorem completeMelt_changes (s : State) (d : Nat) (st : Status) :
    Changes (heating ∪ {.dish .claim d}) s (s.completeMelt d st) := by
  have hm (t : State) (f : Heater → Heater) : Changes (heating ∪ {.dish .claim d}) t (t.modHeater d f) :=
    (modHeater_heating t d f).mono Set.subset_union_left
  have opened (t : State) (c : Prop) [Decidable c] : Changes (heating ∪ {.dish .claim d}) t (if c then t.openTask d .shed else t) :=
    Changes.ite (fun _ => (openTask_changes t d .shed).mono) (fun _ => Changes.refl _ t)
  exact ((hm s _).trans (opened _ _)).trans (hm _ _)

/-- The dishes whose reply can bring a SHED task: READY without a claim, under no key or cover that blocks motion (R148). -/
def State.canShed (s : State) (d : Nat) : Bool :=
  (s.dish d).claim.isNone && (s.dish d).state == .ready && s.unblocked d

theorem shedDecision_ne_created (s : State) (d : Nat) (h : s.canShed d = false) : s.shedDecision d ≠ .created := by
  intro hc
  unfold State.shedDecision at hc
  simp only at hc
  repeat' split at hc
  all_goals simp_all [State.canShed]

/-- What the heater law may change where no SHED task can come of it. -/
theorem heaterLaw_frame (l : Set Part) (s : State) (d : Nat) (st : Status) (hl : heating ⊆ l)
    (hc : ∀ f, Changes l (s.modHeater d f) ((s.modHeater d f).completeMelt d st)) : Changes l s (s.heaterLaw d st) := by
  have hm (t : State) (f : Heater → Heater) : Changes l t (t.modHeater d f) := (modHeater_heating t d f).mono hl
  have ha (t : State) (f : Feeder) : Changes l t (t.allocateOn f) := (allocateOn_heating t f).mono hl
  unfold State.heaterLaw
  simp only
  refine Changes.ite (fun _ => Changes.refl _ s) (fun _ => Changes.ite (fun _ => ?_) (fun _ => Changes.ite (fun _ => ?_) (fun _ => ?_)))
  · exact Changes.ite (fun _ => (hm s _).trans (ha _ _)) (fun _ => hm s _)
  · exact ((hm s _).trans (hc _)).trans (ha _ _)
  · exact Changes.ite (fun _ => (hm s _).trans (hm _ _)) (fun _ => ((hm s _).trans (hm _ _)).trans (ha _ _))

theorem modHeater_canShed (s : State) (d : Nat) (f : Heater → Heater) : (s.modHeater d f).canShed d = s.canShed d := rfl

theorem heaterLaw_heating (s : State) (d : Nat) (st : Status) (h : s.canShed d = false) : Changes heating s (s.heaterLaw d st) :=
  heaterLaw_frame heating s d st subset_rfl fun _ =>
    completeMelt_heating _ d st (shedDecision_ne_created _ d (by rw [modHeater_canShed, h]))

theorem heaterLaw_changes (s : State) (d : Nat) (st : Status) : Changes (heating ∪ {.dish .claim d}) s (s.heaterLaw d st) :=
  heaterLaw_frame _ s d st Set.subset_union_left fun _ => completeMelt_changes _ d st

/-- The frame of a change that leaves the claim, the state, the status and the cover of a dish leaves its SHED decision open or shut. -/
theorem Changes.canShed {l : Set Part} {s t : State} (h : Changes l s t) (d : Nat) (hc : Part.dish .claim d ∉ l)
    (hs : Part.dish .state d ∉ l) (hl : Part.dish .status d ∉ l) (hk : Part.lockouts ∉ l) : t.canShed d = s.canShed d := by
  have hc' : (t.dish d).claim = (s.dish d).claim := (h.same _ hc).1
  have hs' : (t.dish d).state = (s.dish d).state := h.same _ hs
  have hl' : (t.dish d).last = (s.dish d).last := (h.same _ hl).1
  simp [State.canShed, State.unblocked, State.motionBlocked, Dish.keyNow, hc', hs', hl', h.lockouts hk]

/-- What MLC does with a reply, for a dish to which no SHED task can be given (R6 step 4, R145 to R152). -/
theorem heaterReply_heating (s : State) (d : Nat) (st : Status) (h : s.canShed d = false) : Changes heating s (s.heaterReply d st) := by
  have h1 : Changes heating s ((s.noteTemp d st).gateAndAllocate d) := (noteTemp_heating s d st).trans (gateAndAllocate_heating _ d)
  have h2 := h1.trans (heaterLaw_heating _ d st (by rw [h1.canShed d (by simp) (by simp) (by simp) (by simp), h]))
  exact (h2.trans (confirmStage_heating _ d _)).trans (reorderStage_heating _ d _)

theorem heaterReply_changes (s : State) (d : Nat) (st : Status) : Changes (heating ∪ {.dish .claim d}) s (s.heaterReply d st) := by
  have h1 : Changes heating s ((s.noteTemp d st).gateAndAllocate d) := (noteTemp_heating s d st).trans (gateAndAllocate_heating _ d)
  have h2 := (h1.mono Set.subset_union_left).trans (heaterLaw_changes _ d st)
  exact (h2.trans ((confirmStage_heating _ d _).mono Set.subset_union_left)).trans
    ((reorderStage_heating _ d _).mono Set.subset_union_left)

end Sys2Proof.Machine
end

section
-- One declaration at a time: the check bounds memory, and every thread in flight takes its stack from it.
set_option Elab.async false

/-! The frames of the Drive Supervisor: each step of a reply (R6), of a miss and of a timer expiry. -/

namespace Sys2Proof.Machine

/-- What the Drive Supervisor's rules may change at an event of dish `d`, setting change flags in `F` alone: never its profile, its
assignment or its status. -/
def supervising (d : Nat) (F : Set FlagKind) : Set Part :=
  {.dish .state d, .dish .good d, .dish .supFault d, .dish .claim d, .dish .timer d, .dish .reservation d, .slots .move d,
    .slots .stop d, .counters (some .dishFault), .counters (some .lockBlock)}
    ∪ {p | ∃ k ∈ F, p = .dish (.flag k) d} ∪ closing ∪ heating

@[simp] theorem mem_supervising (p : Part) (d : Nat) (F : Set FlagKind) : p ∈ supervising d F ↔
    (((p = .dish .state d ∨ p = .dish .good d ∨ p = .dish .supFault d ∨ p = .dish .claim d ∨ p = .dish .timer d
      ∨ p = .dish .reservation d ∨ p = .slots .move d ∨ p = .slots .stop d ∨ p = .counters (some .dishFault)
      ∨ p = .counters (some .lockBlock)) ∨ ∃ k ∈ F, p = .dish (.flag k) d) ∨ p ∈ closing) ∨ p ∈ heating := Iff.rfl

theorem supervising_mono {d : Nat} {F G : Set FlagKind} (h : F ⊆ G) : supervising d F ⊆ supervising d G :=
  Set.union_subset_union_left _ (Set.union_subset_union_left _ (Set.union_subset_union_right _
    (fun _ ⟨k, hk, hp⟩ => ⟨k, h hk, hp⟩)))

theorem heating_subset_supervising (d : Nat) (F : Set FlagKind) : heating ⊆ supervising d F := Set.subset_union_right

theorem closing_subset_supervising (d : Nat) (F : Set FlagKind) : closing ⊆ supervising d F :=
  Set.subset_union_of_subset_left Set.subset_union_right _

theorem accounting_subset_supervising (d : Nat) (F : Set FlagKind) : accounting ⊆ supervising d F :=
  accounting_subset_heating.trans (heating_subset_supervising d F)

theorem entering_subset_supervising (d z : Nat) (F : Set FlagKind) : entering d z ⊆ supervising d F := by
  simp [entering, Set.insert_subset_iff]

section
variable (s : State) (d : Nat) (F : Set FlagKind)

/-! ## The shared operations, as parts of supervision -/

theorem closeClaim_supervising (h : MemberState) (w : WaveState) : Changes (supervising d F) s (s.closeClaim d h w) :=
  (closeClaim_changes s d h w).mono (Set.union_subset (by simp [Set.insert_subset_iff]) (closing_subset_supervising d F))

theorem release_supervising : Changes (supervising d F) s (s.release d) :=
  (release_changes s d).mono (Set.union_subset (by simp) (accounting_subset_supervising d F))

theorem stopOrder_supervising (o : StopOutcome) : Changes (supervising d F) s (s.stopOrder d o) :=
  (stopOrder_changes s d o).mono (Set.union_subset (by simp [stopping, Set.insert_subset_iff]) (closing_subset_supervising d F))

theorem trigger_supervising : Changes (supervising d F) s s.trigger := (trigger_changes s).mono

theorem orderStop_supervising : Changes (supervising d F) s (s.orderStop d) := (orderStop_changes s d).mono

theorem removeMove_supervising : Changes (supervising d F) s (s.removeMove d) := (removeMove_changes s d).mono

theorem enterReady_supervising : Changes (supervising d F) s (s.enterReady d) := (enterReady_changes s d).mono (entering_subset_supervising d _ F)

theorem enterUnreferenced_supervising : Changes (supervising d F) s (s.enterUnreferenced d) :=
  (enterUnreferenced_changes s d).mono (entering_subset_supervising d _ F)

theorem enterFaulted_supervising (sup : Option SupFault) (h : .fault ∈ F) : Changes (supervising d F) s (s.enterFaulted d sup) :=
  enterFaulted_changes s d sup (by simp [faulting, Set.insert_subset_iff, h]) (by simp)

theorem endPreempt_supervising : Changes (supervising d F) s (s.endPreempt d) := (endPreempt_changes s d).mono

theorem flag_supervising (x : ChangeFlags) (h : ∀ k, x.has k = true → k ∈ F) : Changes (supervising d F) s (s.flag d x) :=
  (flag_changes s d x).mono (by rintro p ⟨k, hk, rfl⟩; simpa using h k hk)

/-- A write to the dish record that keeps its profile, its assignment, its status and its flags. -/
theorem modDish_supervising (f : Dish → Dish)
    (h : ∀ r : Dish, (f r).profile = r.profile ∧ (f r).feeder = r.feeder ∧ (f r).zone = r.zone ∧ (f r).last = r.last
      ∧ (f r).lastGood = r.lastGood ∧ (f r).miss = r.miss ∧ (f r).flags = r.flags) :
    Changes (supervising d F) s (s.modDish d f) :=
  modDish_changes s d f fun p hp => by
    obtain ⟨h1, h2, h3, h4, h5, h6, h7⟩ := h (s.dish d)
    cases p <;> simp_all [DishPart.Same]

/-! ## The steps of a reply (R6) -/

theorem enterLocal_changes (h : .owner ∈ F) : Changes (supervising d F) s (s.enterLocal d) :=
  (((((closeClaim_supervising s d F _ _).trans (modDish_supervising _ d F _ (by simp))).trans (release_supervising _ d F)).trans
    ((removeMotion_changes _ d).mono)).trans
      (flag_supervising _ d F _ (by intro k hk; cases k <;> simp_all [ChangeFlags.has]))).trans (endPreempt_supervising _ d F)

theorem leaveLocal_changes (h : .owner ∈ F) : Changes (supervising d F) s (s.leaveLocal d) :=
  (modDish_supervising _ d F _ (by simp)).trans
    (flag_supervising _ d F _ (by intro k hk; cases k <;> simp_all [ChangeFlags.has]))

theorem driveFault_changes (moving : Bool) (h : .fault ∈ F) : Changes (supervising d F) s (s.driveFault d moving) :=
  (((closeClaim_supervising s d F _ _).trans (modDish_supervising _ d F _ (by simp))).trans
    (Changes.ite (fun _ => orderStop_supervising _ d F)
      (fun _ => (removeMove_supervising _ d F).trans (release_supervising _ d F)))).trans (enterFaulted_supervising _ d F _ h)

theorem assessPresence_changes : Changes (supervising d {.presence}) s (s.assessPresence d) :=
  Changes.ite (fun _ => (modDish_supervising s d _ _ (by simp)).trans
    (flag_supervising _ d _ _ (by intro k hk; cases k <;> simp_all [ChangeFlags.has]))) (fun _ => Changes.refl _ s)

theorem assessOwner_changes (prev : Option Status) (st : Status) :
    Changes (supervising d {.owner}) s (s.assessOwner d prev st) := by
  have released : Changes (supervising d {.owner}) s (if st.owner == .handset then s.release d else s) :=
    Changes.ite (fun _ => release_supervising s d _) (fun _ => Changes.refl _ s)
  have flagged (t : State) (c : Prop) [Decidable c] : Changes (supervising d {.owner}) t (if c then t.flag d { owner := true } else t) :=
    Changes.ite (fun _ => flag_supervising t d _ _ (by intro k hk; cases k <;> simp_all [ChangeFlags.has]))
      (fun _ => Changes.refl _ t)
  unfold State.assessOwner
  split
  · exact Changes.ite (fun _ => leaveLocal_changes s d _ rfl) (fun _ => Changes.refl _ s)
  · simp only
    split
    · exact released.trans (flagged _ _)
    · exact released
  · exact Changes.ite (fun _ => enterLocal_changes s d _ rfl) (fun _ => Changes.refl _ s)

theorem assessFault_changes (prev : Option Status) (st : Status) :
    Changes (supervising d {.fault}) s (s.assessFault d prev st) := by
  unfold State.assessFault
  split
  · exact Changes.refl _ s
  · split
    · exact Changes.ite (fun _ => flag_supervising s d _ _ (by intro k hk; cases k <;> simp_all [ChangeFlags.has]))
        (fun _ => Changes.refl _ s)
    · exact Changes.refl _ s
  · exact Changes.ite (fun _ => driveFault_changes s d _ _ rfl) (fun _ => Changes.refl _ s)

theorem countLock_supervising (k : Option LockKind) : Changes (supervising d F) s (s.countLock k) := (countLock_changes s k).mono

theorem keyLeavesNone_changes : Changes (supervising d F) s (s.keyLeavesNone d) := by
  unfold State.keyLeavesNone
  simp only
  split
  · exact Changes.refl _ s
  · split
    · exact (stopOrder_supervising s d F _).trans (countLock_supervising _ d F _)
    · split
      · exact Changes.ite (fun _ => closeClaim_supervising s d F _ _) (fun _ => Changes.refl _ s)
      · exact (closeClaim_supervising s d F _ _).trans (countLock_supervising _ d F _)

theorem keyReturns_changes : Changes {.dish .claim d, .passDue} s (s.keyReturns d) :=
  Changes.ite (fun _ => gain_changes s d) (fun _ => Changes.ite (fun _ => (trigger_changes s).mono) (fun _ => Changes.refl _ s))

theorem assessKey_changes (prev : Option Status) (st : Status) : Changes (supervising d {.key}) s (s.assessKey d prev st) := by
  have flagged := flag_supervising s d {.key} { key := true } (by intro k hk; cases k <;> simp_all [ChangeFlags.has])
  unfold State.assessKey
  split
  · exact Changes.refl _ s
  · exact Changes.ite (fun _ => Changes.refl _ s) (fun _ => Changes.ite (fun _ => flagged.trans (keyLeavesNone_changes _ d _))
      (fun _ => Changes.ite (fun _ => flagged.trans (keyReturns_changes _ d).mono) (fun _ => flagged)))

theorem iceHold_changes (ice : Bool) : Changes {.table, .passDue} s (s.iceHold d ice) := by
  have marked (id : Nat) (f : SlewRecord → SlewRecord) : Changes {.table, .passDue} s (s.modRecord id f) :=
    (modRecord_changes s id f).mono
  unfold State.iceHold
  split
  · split
    · refine Changes.ite (fun _ => Changes.refl _ s) (fun _ => Changes.ite (fun _ => marked _ _) (fun _ => ?_))
      split
      · exact Changes.ite (fun _ => marked _ _) (fun _ => (marked _ _).trans (trigger_changes _).mono)
      · exact marked _ _
    · exact Changes.refl _ s
  · exact Changes.refl _ s

theorem assessSurface_changes (prev : Option Status) (st : Status) :
    Changes {.dish (.flag .surface) d, .table, .passDue} s (s.assessSurface d prev st) := by
  unfold State.assessSurface
  split
  · exact Changes.refl _ s
  · refine Changes.ite (fun _ => Changes.refl _ s) (fun _ => Changes.trans ?_ (iceHold_changes _ d _).mono)
    exact (flag_changes s d _).mono (by rintro p ⟨k, hk, rfl⟩; cases k <;> simp_all [ChangeFlags.has])

theorem settleTest_changes (st : Status) : Changes (entering d (s.dish d).zone) s (s.settleTest d st) :=
  Changes.ite (fun _ => Changes.ite (fun _ => enterReady_changes s d) (fun _ => enterUnreferenced_changes s d))
    (fun _ => Changes.refl _ s)

theorem driveRefused_changes (h : .fault ∈ F) : Changes (supervising d F) s (s.driveRefused d) :=
  ((closeClaim_supervising s d F _ _).trans (release_supervising _ d F)).trans (enterFaulted_supervising _ d F _ h)

theorem homeDone_changes : Changes (supervising d F) s (s.homeDone d) := by
  have opened (t : State) (c : Prop) [Decidable c] : Changes (supervising d F) t (if c then t.trigger else t) :=
    Changes.ite (fun _ => trigger_supervising t d F) (fun _ => Changes.refl _ t)
  exact (((((modDish_supervising s d F _ (by simp [Dish.dropClaim])).trans (modDish_supervising _ d F _ (by simp))).trans
    (removeMove_supervising _ d F)).trans (opened _ _)).trans (release_supervising _ d F)).trans (enterReady_supervising _ d F)

theorem moveAccepted_changes (seq : Nat) : Changes (supervising d F) s (s.moveAccepted d seq) := by
  have h1 := modDish_supervising s d F (fun r => { r with
    state := .slewing, acceptedSeq := some seq, claim := r.claim.map (fun c => { c with running := true }),
    timer := some { kind := .slew, due := s.now + r.slewTimeout.getD 0 * 100 } }) (by simp)
  unfold State.moveAccepted
  simp only
  split
  · exact h1.trans (modRecord_changes _ _ _).mono
  · exact h1

theorem referenceLost_changes : Changes (supervising d F) s (s.referenceLost d) :=
  (Changes.ite (fun _ => ((closeClaim_supervising s d F _ _).trans (removeMove_supervising _ d F)).trans (release_supervising _ d F))
    (fun _ => closeClaim_supervising s d F _ _)).trans (enterUnreferenced_supervising _ d F)

theorem slewDone_changes (st : Status) : Changes (supervising d F) s (s.slewDone d st) := by
  have shed (c : Prop) [Decidable c] (f : Heater → Heater) : Changes (supervising d F) s (if c then s.modHeater d f else s) :=
    Changes.ite (fun _ => (modHeater_changes s d f).mono) (fun _ => Changes.refl _ s)
  have ready (t : State) : Changes (supervising d F) t
      ((((t.closeClaim d .done .done).modDish d (fun r => { r with timer := none })).release d).enterReady d) :=
    (((closeClaim_supervising _ d F _ _).trans (modDish_supervising _ d F _ (by simp))).trans
      (release_supervising _ d F)).trans (enterReady_supervising _ d F)
  exact Changes.ite (fun _ => (shed _ _).trans (ready _)) (fun _ => ((shed _ _).trans (ready _)).trans (referenceLost_changes _ d F))

theorem stopEnds_changes (st : Status) (h : .fault ∈ F) : Changes (supervising d F) s (s.stopEnds d st) := by
  have h1 := (modDish_supervising s d F (fun r => { r with timer := none }) (by simp)).trans (release_supervising _ d F)
  exact Changes.ite (fun _ => h1.trans (enterFaulted_supervising _ d F _ h))
    (fun _ => Changes.ite (fun _ => h1.trans (enterReady_supervising _ d F)) (fun _ => h1.trans (enterUnreferenced_supervising _ d F)))

theorem assessMotion_changes (st : Status) (a : Answer) : Changes (supervising d {.fault}) s (s.assessMotion d st a) := by
  unfold State.assessMotion
  simp only
  split
  · exact (settleTest_changes s d st).mono (entering_subset_supervising d _ _)
  · split
    · exact Changes.ite (fun _ => modDish_supervising s d _ _ (by simp)) (fun _ => Changes.refl _ s)
    · exact Changes.ite (fun _ => driveRefused_changes s d _ rfl) (fun _ => Changes.refl _ s)
    · exact Changes.ite (fun _ => homeDone_changes s d _) (fun _ => Changes.refl _ s)
  · exact Changes.ite (fun _ => homeDone_changes s d _) (fun _ => Changes.refl _ s)
  · split
    · exact Changes.ite (fun _ => moveAccepted_changes s d _ _) (fun _ => Changes.refl _ s)
    · exact Changes.ite (fun _ => driveRefused_changes s d _ rfl) (fun _ => Changes.refl _ s)
    · exact Changes.ite (fun _ => Changes.refl _ s) (fun _ => referenceLost_changes s d _)
  · exact Changes.ite (fun _ => slewDone_changes s d _ st) (fun _ => Changes.refl _ s)
  · exact Changes.ite (fun _ => Changes.refl _ s) (fun _ => stopEnds_changes s d _ st rfl)
  · exact Changes.ite (fun _ => Changes.refl _ s) (fun _ => release_supervising s d _)
  · exact Changes.refl _ s
  · exact Changes.refl _ s

/-! ## Replies, misses and timers -/

/-- The dish record as a valid reply with the status `st` leaves it before the steps of R6 (R5). -/
def Dish.heard (r : Dish) (st : Status) (now : Nat) : Dish :=
  { r with last := some st, lastGood := some now, miss := 0, good := if r.state == .settling then satAdd 50 r.good 1 else r.good }

/-- The state in which the key, the surface and the motion of a reply are assessed: after steps 1 to 3 of R6. -/
def State.assessedTo3 (s : State) (d : Nat) (st : Status) : State :=
  (((s.modDish d (·.heard st s.now)).assessPresence d).assessOwner d (s.dish d).last st).assessFault d (s.dish d).last st

/-- The state in which the motion of a reply is assessed: after step 4 of R6. -/
def State.assessedTo4 (s : State) (d : Nat) (st : Status) : State :=
  (((s.assessedTo3 d st).assessKey d (s.dish d).last st).assessSurface d (s.dish d).last st).heaterReply d st

theorem takeReply_eq (st : Status) (a : Answer) : s.takeReply d st a = (s.assessedTo4 d st).assessMotion d st a := rfl

/-- Steps 1 to 5 of R6 after the reply's status has been taken. -/
theorem takeReply_changes (st : Status) (a : Answer) :
    Changes (supervising d Set.univ) (s.modDish d (·.heard st s.now)) (s.takeReply d st a) := by
  have h3 := ((assessPresence_changes (s.modDish d (·.heard st s.now)) d).mono (supervising_mono (Set.subset_univ _))).trans
    (((assessOwner_changes _ d (s.dish d).last st).mono (supervising_mono (Set.subset_univ _))).trans
      ((assessFault_changes _ d (s.dish d).last st).mono (supervising_mono (Set.subset_univ _))))
  have h4 := (h3.trans ((assessKey_changes _ d (s.dish d).last st).mono (supervising_mono (Set.subset_univ _)))).trans
    ((assessSurface_changes _ d (s.dish d).last st).mono)
  exact (h4.trans ((heaterReply_changes _ d st).mono (Set.union_subset (heating_subset_supervising d _) (by simp)))).trans
    ((assessMotion_changes _ d st a).mono (supervising_mono (Set.subset_univ _)))

theorem declareAbsent_changes (h : .presence ∈ F) :
    Changes (supervising d F) s (s.declareAbsent d) :=
  ((((((closeClaim_supervising s d F _ _).trans (modDish_supervising _ d F _ (by simp))).trans (release_supervising _ d F)).trans
    ((clearSlots_changes _ d).mono)).trans
      ((heaterAbsent_heating _ d).mono (heating_subset_supervising d F))).trans
        (flag_supervising _ d F _ (by intro k hk; cases k <;> simp_all [ChangeFlags.has]))).trans (endPreempt_supervising _ d F)

/-- The dish record after one more miss (R5). -/
def Dish.missed (r : Dish) : Dish := { r with miss := satAdd 65535 r.miss 1, good := if r.state == .settling then 0 else r.good }

/-- R8: whether a miss, once counted, makes a dish ABSENT. -/
def State.absenceDue (s : State) (d : Nat) : Bool :=
  (s.dish d).state != .absent && s.dsv.nMiss ≤ (s.dish d).miss
    && (match (s.dish d).lastGood with | some t => decide (2000 ≤ s.now - t) | none => true)

theorem takeMiss_eq : s.takeMiss d =
    if (s.modDish d Dish.missed).absenceDue d then (s.modDish d Dish.missed).declareAbsent d else s.modDish d Dish.missed := rfl

theorem takeMiss_changes : Changes (supervising d {.presence}) (s.modDish d Dish.missed) (s.takeMiss d) := by
  rw [takeMiss_eq]
  exact Changes.ite (fun _ => declareAbsent_changes _ d _ rfl) (fun _ => Changes.refl _ _)

theorem taskWaitsAgain_changes : Changes (supervising d F) s (s.taskWaitsAgain d) :=
  ((modDish_supervising s d F _ (by simp)).trans (release_supervising _ d F)).trans (trigger_supervising _ d F)

/-! ## The end of a transaction -/

/-- The slots of the addressed station after the end of its transaction (R33). -/
def State.slotsAfter (x : Transaction) (valid : Bool) : Slots :=
  { ((s.slots x.station).endOf x.kind valid s.moment).1 with
    polled := ((s.slots x.station).endOf x.kind valid s.moment).1.polled || valid }

/-- Whether a transaction that ends so exhausts its command (R42). -/
def State.exhausts (x : Transaction) (valid : Bool) : Bool := ((s.slots x.station).endOf x.kind valid s.moment).2

/-- R42: an exhausted command in the totals. -/
def State.countExhaustion : State := { s with pbc.totals.exhaustions := inc32 s.pbc.totals.exhaustions }

/-- The state in which the result of an addressed transaction is taken: steps 1 and 4 of R33, at the bus alone. -/
def State.ended (x : Transaction) (valid : Bool) : State :=
  let t := ((s.modSlots x.station (fun _ => s.slotsAfter x valid)).clearFlight).countCommand x.kind
  if s.exhausts x valid then t.countExhaustion else t

theorem endAddressed_valid (x : Transaction) (st : Status) (r : CommandResult) : s.endAddressed x (.valid st r) =
    (if (s.slots x.station).isWithdrawn x.kind && r = .accepted then
        ((s.ended x true).takeReply x.station st { kind := x.kind, result := r, withdrawn := (s.slots x.station).isWithdrawn x.kind }).withdrawalStop x.station
      else (s.ended x true).takeReply x.station st { kind := x.kind, result := r, withdrawn := (s.slots x.station).isWithdrawn x.kind }).afterTransaction := rfl

theorem endAddressed_miss (x : Transaction) (k : MissKind) : s.endAddressed x (.miss k) =
    (if s.exhausts x false && ((((s.ended x false).countMiss k).takeMiss x.station).dish x.station).state != .absent then
        (((s.ended x false).countMiss k).takeMiss x.station).exhausted x.station
      else ((s.ended x false).countMiss k).takeMiss x.station).afterTransaction := rfl

/-- A write to the bus records that keeps every dish's slots. -/
theorem withBus_changes (p : Pbc) (hp : p.slots = s.pbc.slots) : Changes {.bus} s { s with pbc := p } := by
  refine ⟨fun q hq => ?_, by simp [State.sizes, hp], fun _ hk => hk, id⟩
  cases q with
  | bus => exact absurd rfl hq
  | _ => simp [Part.Same, State.dish, State.slots, State.zone, State.heater, State.counterAt, hp]

theorem clearFlight_changes : Changes {.bus} s s.clearFlight := withBus_changes s _ rfl

theorem countCommand_changes (k : TxKind) : Changes {.bus} s (s.countCommand k) := withBus_changes s _ rfl

theorem countExhaustion_changes : Changes {.bus} s s.countExhaustion := withBus_changes s _ rfl

theorem ended_changes (x : Transaction) (valid : Bool) :
    Changes ({.bus} ∪ {p | ∃ a, p = .slots a x.station}) s (s.ended x valid) := by
  have h1 : Changes ({.bus} ∪ {p | ∃ a, p = .slots a x.station}) s (s.modSlots x.station (fun _ => s.slotsAfter x valid)) :=
    modSlots_changes s _ _ fun p hp => absurd (by simp) hp
  have h2 := (h1.trans (clearFlight_changes _).mono).trans (countCommand_changes _ x.kind).mono
  unfold State.ended
  exact Changes.ite (fun _ => h2.trans (countExhaustion_changes _).mono) (fun _ => h2)

theorem ended_dsv (x : Transaction) (valid : Bool) : (s.ended x valid).dsv = s.dsv := (ended_changes s x valid).dsv

theorem countMiss_changes (k : MissKind) : Changes {.bus, .counters (some .pedestalMiss)} s (s.countMiss k) := by
  have total (p : Pbc) (hp : p.slots = s.pbc.slots) : Changes {.bus, .counters (some .pedestalMiss)} s
      (({ s with pbc := p } : State).count .pedestalMiss (some k.bit)) :=
    ((withBus_changes s p hp).andThen (count_changes _ _ _)).mono
  cases k <;> exact total _ rfl

end

end Sys2Proof.Machine
end

section
-- One declaration at a time: the check bounds memory, and every thread in flight takes its stack from it.
set_option Elab.async false

/-! Claims fit their states: the operations on dish records and claims keep `ClaimsFit` (Safety.lean). -/

namespace Sys2Proof.Machine

/-! ## One record -/

/-- A record that holds no claim and no task, with no stop timer running: it fits whatever state it enters. -/
def Dish.Unclaimed (r : Dish) : Prop := r.claim = none ∧ r.task = none ∧ ∀ x, r.timer = some x → x.kind ≠ .stop

theorem Dish.Unclaimed.fits {r : Dish} (h : r.Unclaimed) : ClaimFits r := by
  obtain ⟨hc, ht, hx⟩ := h
  refine ⟨by simp [hc, ht], by simp [ht], by simp [hc], fun x hr hk => absurd hk (hx x hr)⟩

theorem ClaimFits.unclaimed {r : Dish} (h : ClaimFits r) (hc : r.claim = none) (hs : r.state ≠ .stopping) : r.Unclaimed := by
  obtain ⟨htask, -, -, htimer⟩ := h
  exact ⟨hc, by simpa [hc] using htask, fun x hx hk => hs (htimer x hx hk)⟩

/-- A record in a state that holds no claim is unclaimed. -/
theorem ClaimFits.claim_none {r : Dish} (h : ClaimFits r) (hr : r.state ≠ .ready) (hs : r.state ≠ .slewing)
    (hu : r.state ≠ .unreferenced) (hh : r.state ≠ .homing) : r.claim = none := by
  obtain ⟨htask, hhome, hclaim, -⟩ := h
  by_contra hc
  by_cases ht : r.task = some .home
  · exact (hhome ht).elim hu hh
  · exact (hclaim (Option.isSome_iff_ne_none.mpr hc) ht).elim hr hs

theorem ClaimFits.dropClaim {r : Dish} (h : ClaimFits r) : ClaimFits r.dropClaim := by
  obtain ⟨-, -, -, htimer⟩ := h
  exact ⟨by simp [Dish.dropClaim], by simp [Dish.dropClaim], by simp [Dish.dropClaim], htimer⟩

/-- `ClaimFits` reads four fields of a record, and of its claim no more than what it refers to. -/
theorem ClaimFits.congr {a b : Dish} (h : ClaimFits a) (hs : b.state = a.state) (hc : b.claim.map (·.ref) = a.claim.map (·.ref))
    (ht : b.task = a.task) (hx : ∀ x, b.timer = some x → x.kind = .stop → ∃ y, a.timer = some y ∧ y.kind = .stop) : ClaimFits b := by
  obtain ⟨htask, hhome, hclaim, htimer⟩ := h
  refine ⟨?_, by rw [ht, hs]; exact hhome, ?_, ?_⟩
  · rw [ht, htask]
    cases ha : a.claim <;> cases hb : b.claim <;> simp_all
  · intro hb hn
    rw [hs]
    refine hclaim ?_ (ht ▸ hn)
    cases ha : a.claim <;> cases hb' : b.claim <;> simp_all
  · intro x hr hk
    obtain ⟨y, hy, hky⟩ := hx x hr hk
    rw [hs]
    exact htimer y hy hky

/-! ## The array -/

theorem claimsFit_congr {s t : State} (h : ClaimsFit s) (hd : t.dsv.dishes = s.dsv.dishes) : ClaimsFit t := by
  intro d
  simpa [State.dish, hd] using h d

/-- A change that leaves state, claim and timer of every dish alone keeps `ClaimsFit`. -/
theorem Changes.claimsFit {l : Set Part} {s t : State} (h : Changes l s t) (hs : ClaimsFit s)
    (hl : ∀ d, Part.dish .state d ∉ l ∧ Part.dish .claim d ∉ l ∧ Part.dish .timer d ∉ l) : ClaimsFit t := by
  intro d
  obtain ⟨h1, h2, h3⟩ := hl d
  obtain ⟨hc, ht, -, -⟩ : DishPart.Same _ _ .claim := h.same _ h2
  have hst : (t.dish d).state = (s.dish d).state := h.same _ h1
  have htm : (t.dish d).timer = (s.dish d).timer := h.same _ h3
  exact (hs d).congr hst (by rw [hc]) ht (fun x hx hk => ⟨x, htm ▸ hx, hk⟩)

/-- A change that leaves state, claim and timer of every other dish alone keeps `ClaimsFit` where dish `d` fits after it. -/
theorem Changes.claimsFit_of_dish {l : Set Part} {s t : State} (h : Changes l s t) (hs : ClaimsFit s) (d : Nat)
    (hd : ClaimFits (t.dish d))
    (hl : ∀ e, e ≠ d → Part.dish .state e ∉ l ∧ Part.dish .claim e ∉ l ∧ Part.dish .timer e ∉ l) : ClaimsFit t := by
  intro e
  by_cases he : e = d
  · exact he ▸ hd
  · obtain ⟨h1, h2, h3⟩ := hl e he
    obtain ⟨hc, ht, -, -⟩ : DishPart.Same _ _ .claim := h.same _ h2
    have hst : (t.dish e).state = (s.dish e).state := h.same _ h1
    have htm : (t.dish e).timer = (s.dish e).timer := h.same _ h3
    exact (hs e).congr hst (by rw [hc]) ht (fun x hx hk => ⟨x, htm ▸ hx, hk⟩)

theorem modDish_claimsFit {s : State} (h : ClaimsFit s) (d : Nat) (f : Dish → Dish) 
    (hf : s.isDish d = true → ClaimFits (f (s.dish d))) : ClaimsFit (s.modDish d f) := by
  intro e
  by_cases he : e = d
  · subst he
    obtain ⟨hd, hr⟩ | ⟨-, h1, h2⟩ := modDish_dish_cases s e f
    · rw [hr]; exact hf hd
    · rw [h2, ← h1]; exact h e
  · rw [modDish_dish_other s d e f he]; exact h e

theorem foldl_claimsFit {α : Type} (f : State → α → State) (xs : List α) {s : State} (h : ClaimsFit s)
    (hf : ∀ t, ∀ x ∈ xs, ClaimsFit t → ClaimsFit (f t x)) : ClaimsFit (xs.foldl f s) :=
  List.foldlRecOn xs f h (fun t ht x hx => hf t x hx ht)

theorem ite_claimsFit {c : Prop} [Decidable c] {s t : State} (hs : c → ClaimsFit s) (ht : ¬ c → ClaimsFit t) :
    ClaimsFit (if c then s else t) := by
  split
  · exact hs ‹_›
  · exact ht ‹_›

/-! ## Claims -/

theorem eligible_ready {s : State} {d : Nat} (h : s.eligible d = true) : (s.dish d).state = .ready := by
  simp only [State.eligible, Bool.and_eq_true, beq_iff_eq] at h
  exact h.1

theorem Dish.Unclaimed.withState {r : Dish} (h : r.Unclaimed) (st : DishState) : ({ r with state := st } : Dish).Unclaimed := h

theorem modDish_task (s : State) (d : Nat) (f : Dish → Dish) (ht : (f (s.dish d)).task = none) : ((s.modDish d f).dish d).task = none := by
  obtain ⟨-, hr⟩ | ⟨-, -, hr⟩ := modDish_dish_cases s d f <;> rw [hr]
  · exact ht
  · rfl

section
variable {s : State} (h : ClaimsFit s) (d : Nat)
include h

theorem trigger_claimsFit : ClaimsFit s.trigger := h

theorem release_claimsFit : ClaimsFit (s.release d) := (release_changes s d).claimsFit h (by simp)

theorem flag_claimsFit (x : ChangeFlags) : ClaimsFit (s.flag d x) := (flag_changes s d x).claimsFit h (by simp)

theorem raise_claimsFit (k : NoticeKey) : ClaimsFit (s.raise k) := (raise_changes s k).claimsFit h (by simp)

theorem count_claimsFit (k : EventClass) (q : Option Nat) : ClaimsFit (s.count k q) := (count_changes s k q).claimsFit h (by simp)

theorem countLock_claimsFit (k : Option LockKind) : ClaimsFit (s.countLock k) := (countLock_changes s k).claimsFit h (by simp)

theorem closeClaim_claimsFit (host : MemberState) (wave : WaveState) : ClaimsFit (s.closeClaim d host wave) := by
  refine (closeClaim_changes s d host wave).claimsFit_of_dish h d ?_ (by simp)
  rw [closeClaim_dish]
  split
  · exact h d
  · exact (h d).dropClaim

/-- A closed claim leaves its dish unclaimed, outside STOPPING. -/
theorem closeClaim_unclaimed (host : MemberState) (wave : WaveState) (hs : (s.dish d).state ≠ .stopping) :
    ((s.closeClaim d host wave).dish d).Unclaimed := by
  refine (closeClaim_claimsFit h d host wave d).unclaimed (closeClaim_claim s d host wave) ?_
  rw [closeClaim_dish]
  split <;> exact hs

/-- An auto task other than HOME is opened on a READY dish. -/
theorem openTask_claimsFit (k : Task) (hk : k ≠ .home) (hs : (s.dish d).state = .ready) : ClaimsFit (s.openTask d k) := by
  refine trigger_claimsFit (modDish_claimsFit h d _ fun _ => ⟨by simp, by simp [hk], fun _ _ => .inl hs, fun x hx hk => ?_⟩)
  simpa [hs] using (h d).2.2.2 x hx hk

/-- A member's claim is opened on a READY dish without a task. -/
theorem openClaim_claimsFit (ref : ClaimRef) (hr : ref ≠ .task) (ht : (s.dish d).task = none) (hs : (s.dish d).state = .ready) :
    ClaimsFit (s.openClaim d ref) := by
  refine trigger_claimsFit (modDish_claimsFit h d _ fun _ => ⟨by simp [ht, hr], by simp [ht], fun _ _ => .inl hs, fun x hx hk => ?_⟩)
  simpa [hs] using (h d).2.2.2 x hx hk

theorem autoStow_claimsFit (hs : (s.dish d).state = .ready) : ClaimsFit (s.autoStow d) :=
  ite_claimsFit (fun _ => openTask_claimsFit h d .stow (by simp) hs) (fun _ => h)

theorem gain_claimsFit (hs : (s.dish d).state = .ready) : ClaimsFit (s.gain d) := trigger_claimsFit (autoStow_claimsFit h d hs)

theorem setWaveMember_claimsFit (z e : Nat) (st : WaveState) : ClaimsFit (s.setWaveMember z e st) :=
  (setWaveMember_changes s z e st).claimsFit h (by simp)

theorem endPreempt_claimsFit (ht : (s.dish d).task = none) : ClaimsFit (s.endPreempt d) := by
  unfold State.endPreempt
  simp only
  split
  · refine ite_claimsFit (fun _ => h) (fun _ => ?_)
    split
    · rename_i hr
      refine setWaveMember_claimsFit (ite_claimsFit (fun _ => ?_) (fun _ => h)) _ _ _
      exact openClaim_claimsFit h d _ (by simp) ht hr
    · exact setWaveMember_claimsFit h _ _ _
    · exact setWaveMember_claimsFit h _ _ _
    · exact setWaveMember_claimsFit h _ _ _
    · exact setWaveMember_claimsFit h _ _ _
    · exact h
  · exact h

/-! ## Entries to dish states -/

theorem enterReady_claimsFit (hu : (s.dish d).Unclaimed) : ClaimsFit (s.enterReady d) := by
  have h1 : ClaimsFit (s.modDish d (fun r => { r with state := .ready })) := modDish_claimsFit h d _ fun _ => (hu.withState _).fits
  have h2 := endPreempt_claimsFit (trigger_claimsFit h1) d (modDish_task s d _ hu.2.1)
  exact ite_claimsFit (fun he => gain_claimsFit h2 d (eligible_ready he)) (fun _ => h2)

/-- A record with a HOME task in UNREFERENCED fits. -/
theorem openHome_claimsFit (hs : s.isDish d = true → (s.dish d).state = .unreferenced) : ClaimsFit (s.openTask d .home) := by
  refine trigger_claimsFit (modDish_claimsFit h d _ fun hd => ⟨by simp, fun _ => .inl (hs hd), by simp, fun x hx hk => ?_⟩)
  simpa [hs hd] using (h d).2.2.2 x hx hk

theorem enterUnreferenced_claimsFit (hu : (s.dish d).Unclaimed) : ClaimsFit (s.enterUnreferenced d) := by
  have h1 : ClaimsFit (s.modDish d (fun r => { r with state := .unreferenced })) := modDish_claimsFit h d _ fun _ => (hu.withState _).fits
  have h2 := endPreempt_claimsFit h1 d (modDish_task s d _ hu.2.1)
  refine openHome_claimsFit h2 d fun hd => ?_
  rw [(endPreempt_changes _ d).isDish, modDish_isDish] at hd
  have hs : ((s.modDish d (fun r => { r with state := .unreferenced })).dish d).state = .unreferenced := by
    rw [modDish_dish_same s d _ hd]
  exact (endPreempt_changes _ d).state.trans hs

/-- FAULTED holds no claim. -/
theorem enterFaulted_claimsFit (sup : Option SupFault) (hu : (s.dish d).Unclaimed) : ClaimsFit (s.enterFaulted d sup) := by
  have h1 : ClaimsFit (s.modDish d (·.fault sup)) := modDish_claimsFit h d _ fun _ => Dish.Unclaimed.fits hu
  have h2 := count_claimsFit (flag_claimsFit h1 d { fault := true }) .dishFault (some (faultBit (sup.getD .clear)))
  refine endPreempt_claimsFit h2 d ?_
  exact ((flag_changes _ d _).andThen (count_changes _ _ _)).task.trans (modDish_task s d _ hu.2.1)

/-- A stop order leaves STOPPING without a claim (R20). -/
theorem stopOrder_claimsFit (o : StopOutcome) : ClaimsFit (s.stopOrder d o) := by
  refine ite_claimsFit (fun hs => ?_) (fun _ => h)
  have hns : (s.dish d).state ≠ .stopping := by
    intro hst; simp [Dish.stoppable, hst] at hs
  obtain ⟨hc, ht, -⟩ := closeClaim_unclaimed h d o.host o.wave hns
  have h1 := modDish_claimsFit (closeClaim_claimsFit h d o.host o.wave) d
    (fun r => { r with state := .stopping, timer := some { kind := .stop, due := s.now + 30000 } })
    (fun _ => ⟨by simp [hc, ht], by simp [ht], by simp [hc], fun _ _ _ => rfl⟩)
  exact (orderStop_changes _ d).claimsFit h1 (by simp)

end

end Sys2Proof.Machine
end

section
-- One declaration at a time: the check bounds memory, and every thread in flight takes its stack from it.
set_option Elab.async false

/-! Claims fit their states at the events of the Drive Supervisor: replies, misses and timer expiries. -/

namespace Sys2Proof.Machine

theorem initial_unclaimed : Dish.initial.Unclaimed := by simp [Dish.Unclaimed, Dish.initial]

theorem modDish_unclaimed (s : State) (d : Nat) (f : Dish → Dish) (h : (f (s.dish d)).Unclaimed) :
    ((s.modDish d f).dish d).Unclaimed := by
  obtain ⟨-, hr⟩ | ⟨-, -, hr⟩ := modDish_dish_cases s d f <;> rw [hr]
  · exact h
  · exact initial_unclaimed

theorem Changes.unclaimed {l : Set Part} {s t : State} (h : Changes l s t) {d : Nat} (hu : (s.dish d).Unclaimed)
    (hc : Part.dish .claim d ∉ l := by simp) (hx : Part.dish .timer d ∉ l := by simp) : (t.dish d).Unclaimed := by
  obtain ⟨h1, h2, h3⟩ := hu
  exact ⟨(h.claim hc).trans h1, (h.task hc).trans h2, by rw [h.timer hx]; exact h3⟩

theorem ClaimFits.task_none {r : Dish} (h : ClaimFits r) (hc : r.claim = none) : r.task = none := by
  simpa [hc] using h.1

theorem shedDecision_created_ready {s : State} {d : Nat} (hc : s.shedDecision d = .created) : (s.dish d).state = .ready := by
  by_contra hs
  exact shedDecision_ne_created s d (by simp [State.canShed, hs]) hc

theorem enterReady_state (s : State) (d : Nat) (hd : s.isDish d = true) : ((s.enterReady d).dish d).state = .ready := by
  have h1 : ((((s.modDish d (fun r => { r with state := .ready })).trigger).endPreempt d).dish d).state = .ready := by
    rw [(endPreempt_changes _ d).state, trigger_dish, modDish_dish_same s d _ hd]
  unfold State.enterReady
  simp only
  split
  · rw [(gain_changes _ d).state, h1]
  · exact h1

section
variable {s : State} (h : ClaimsFit s) (d : Nat)
include h

/-- A closed claim leaves its dish unclaimed once its timer is off. -/
theorem closeClaim_timerOff_unclaimed (host : MemberState) (wave : WaveState) (f : Dish → Dish)
    (hf : ∀ r : Dish, (f r).claim = r.claim ∧ (f r).task = r.task ∧ (f r).timer = none) :
    (((s.closeClaim d host wave).modDish d f).dish d).Unclaimed := by
  have hc := closeClaim_claim s d host wave
  have ht := (closeClaim_claimsFit h d host wave d).task_none hc
  obtain ⟨h1, h2, h3⟩ := hf ((s.closeClaim d host wave).dish d)
  exact modDish_unclaimed _ d f ⟨h1.trans hc, h2.trans ht, by simp [h3]⟩

/-- A write that leaves a dish unclaimed keeps every claim fitting. -/
theorem modDish_claimsFit_of_unclaimed (f : Dish → Dish) (hu : ((s.modDish d f).dish d).Unclaimed) : ClaimsFit (s.modDish d f) :=
  modDish_claimsFit h d f fun hd => by rw [← modDish_dish_same s d f hd]; exact hu.fits

/-! ## Steps 1 to 3 of R6 -/

theorem enterLocal_claimsFit : ClaimsFit (s.enterLocal d) := by
  have hu := closeClaim_timerOff_unclaimed h d (.aborted .handset) (.aborted .handset)
    (fun r => { r with state := .handset, timer := none, supFault := .clear }) (by simp)
  have h1 := modDish_claimsFit_of_unclaimed (closeClaim_claimsFit h d (.aborted .handset) (.aborted .handset)) d _ hu
  have h2 := (removeMotion_changes _ d).claimsFit (release_claimsFit h1 d) (by simp)
  refine endPreempt_claimsFit (flag_claimsFit h2 d { owner := true }) d ?_
  exact ((((release_changes _ d).andThen (removeMotion_changes _ d)).andThen (flag_changes _ d _)).unclaimed hu).2.1

theorem leaveLocal_claimsFit (hs : (s.dish d).state = .handset) : ClaimsFit (s.leaveLocal d) := by
  have hu : (s.dish d).Unclaimed := (h d).unclaimed ((h d).claim_none (by simp [hs]) (by simp [hs]) (by simp [hs]) (by simp [hs])) (by simp [hs])
  exact flag_claimsFit (modDish_claimsFit h d _ fun _ => Dish.Unclaimed.fits hu) d _

theorem driveFault_claimsFit (moving : Bool) : ClaimsFit (s.driveFault d moving) := by
  have hu := closeClaim_timerOff_unclaimed h d (.aborted .fault) (.aborted .fault) (fun r => { r with timer := none }) (by simp)
  have h1 := modDish_claimsFit_of_unclaimed (closeClaim_claimsFit h d (.aborted .fault) (.aborted .fault)) d _ hu
  cases moving with
  | true => exact enterFaulted_claimsFit ((orderStop_changes _ d).claimsFit h1 (by simp)) d none ((orderStop_changes _ d).unclaimed hu)
  | false =>
    have hc := (removeMove_changes (((s.abortClaim d .fault).modDish d (fun r => { r with timer := none }))) d).andThen
      (release_changes _ d)
    exact enterFaulted_claimsFit (hc.claimsFit h1 (by simp)) d none (hc.unclaimed hu)

theorem assessPresence_claimsFit : ClaimsFit (s.assessPresence d) := by
  refine ite_claimsFit (fun ha => ?_) (fun _ => h)
  have hs : (s.dish d).state = .absent := by simpa using ha
  have hu : (s.dish d).Unclaimed := (h d).unclaimed ((h d).claim_none (by simp [hs]) (by simp [hs]) (by simp [hs]) (by simp [hs])) (by simp [hs])
  exact flag_claimsFit (modDish_claimsFit h d _ fun _ => Dish.Unclaimed.fits hu) d _

theorem assessOwner_claimsFit (prev : Option Status) (st : Status) : ClaimsFit (s.assessOwner d prev st) := by
  have released : ClaimsFit (if st.owner == .handset then s.release d else s) :=
    ite_claimsFit (fun _ => release_claimsFit h d) (fun _ => h)
  unfold State.assessOwner
  split
  · exact ite_claimsFit (fun _ => leaveLocal_claimsFit h d ‹_›) (fun _ => h)
  · simp only
    split
    · exact ite_claimsFit (fun _ => flag_claimsFit released d _) (fun _ => released)
    · exact released
  · exact ite_claimsFit (fun _ => enterLocal_claimsFit h d) (fun _ => h)

theorem assessFault_claimsFit (prev : Option Status) (st : Status) : ClaimsFit (s.assessFault d prev st) := by
  unfold State.assessFault
  split
  · exact h
  · split
    · exact ite_claimsFit (fun _ => flag_claimsFit h d _) (fun _ => h)
    · exact h
  · exact ite_claimsFit (fun _ => driveFault_claimsFit h d _) (fun _ => h)

/-! ## Step 4: key, surface and heater -/

theorem keyLeavesNone_claimsFit : ClaimsFit (s.keyLeavesNone d) := by
  unfold State.keyLeavesNone
  simp only
  split
  · exact h
  · split
    · exact countLock_claimsFit (stopOrder_claimsFit h d _) _
    · split
      · exact ite_claimsFit (fun _ => closeClaim_claimsFit h d _ _) (fun _ => h)
      · exact countLock_claimsFit (closeClaim_claimsFit h d _ _) _

theorem keyReturns_claimsFit : ClaimsFit (s.keyReturns d) :=
  ite_claimsFit (fun he => gain_claimsFit h d (eligible_ready he)) (fun _ => ite_claimsFit (fun _ => h) (fun _ => h))

theorem assessKey_claimsFit (prev : Option Status) (st : Status) : ClaimsFit (s.assessKey d prev st) := by
  unfold State.assessKey
  split
  · exact h
  · exact ite_claimsFit (fun _ => h) (fun _ => ite_claimsFit (fun _ => keyLeavesNone_claimsFit (flag_claimsFit h d _) d)
      (fun _ => ite_claimsFit (fun _ => keyReturns_claimsFit (flag_claimsFit h d _) d) (fun _ => flag_claimsFit h d _)))

theorem modHeater_claimsFit (f : Heater → Heater) : ClaimsFit (s.modHeater d f) := h

theorem heating_claimsFit {t : State} (ht : Changes heating s t) : ClaimsFit t := ht.claimsFit h (by simp)

theorem completeMelt_claimsFit (st : Status) : ClaimsFit (s.completeMelt d st) := by
  refine modHeater_claimsFit (ite_claimsFit (fun hc => ?_) (fun _ => modHeater_claimsFit h d _)) d _
  exact openTask_claimsFit (modHeater_claimsFit h d _) d .shed (by simp) (shedDecision_created_ready (s := s) (by simpa using hc))

theorem heaterLaw_claimsFit (st : Status) : ClaimsFit (s.heaterLaw d st) := by
  unfold State.heaterLaw
  simp only
  refine ite_claimsFit (fun _ => h) (fun _ => ite_claimsFit (fun _ => ?_) (fun _ => ite_claimsFit (fun _ => ?_) (fun _ => ?_)))
  · exact ite_claimsFit (fun _ => heating_claimsFit (modHeater_claimsFit h d _) (allocateOn_heating _ _)) (fun _ => modHeater_claimsFit h d _)
  · exact heating_claimsFit (completeMelt_claimsFit (modHeater_claimsFit h d _) d st) (allocateOn_heating _ _)
  · exact ite_claimsFit (fun _ => h) (fun _ => heating_claimsFit (s := (s.modHeater d _).modHeater d _) h (allocateOn_heating _ _))

theorem heaterReply_claimsFit (st : Status) : ClaimsFit (s.heaterReply d st) :=
  have h1 := heating_claimsFit h ((noteTemp_heating s d st).trans (gateAndAllocate_heating _ d))
  heating_claimsFit (heaterLaw_claimsFit h1 d st) ((confirmStage_heating _ d _).trans (reorderStage_heating _ d _))

/-! ## Step 5: motion -/

theorem homeDone_claimsFit : ClaimsFit (s.homeDone d) := by
  have h1 := modDish_claimsFit h d Dish.dropClaim fun _ => (h d).dropClaim
  have hu : (((s.modDish d Dish.dropClaim).modDish d (fun r => { r with timer := none })).dish d).Unclaimed := by
    refine modDish_unclaimed _ d _ ?_
    obtain ⟨-, hr⟩ | ⟨-, -, hr⟩ := modDish_dish_cases s d Dish.dropClaim <;> rw [hr] <;>
      simp [Dish.Unclaimed, Dish.dropClaim, Dish.initial]
  have h2 := modDish_claimsFit_of_unclaimed h1 d _ hu
  have trig (t : State) (c : Prop) [Decidable c] : Changes {.passDue} t (if c then t.trigger else t) :=
    Changes.ite (fun _ => trigger_changes t) (fun _ => Changes.refl _ t)
  have hc := ((removeMove_changes ((s.modDish d Dish.dropClaim).modDish d (fun r => { r with timer := none })) d).andThen
    (trig _ ((s.dish d).isWaiting = true))).andThen (release_changes _ d)
  exact enterReady_claimsFit (hc.claimsFit h2 (by simp)) d (hc.unclaimed hu)

theorem driveRefused_claimsFit (hs : (s.dish d).state ≠ .stopping) : ClaimsFit (s.driveRefused d) := by
  have hu := (release_changes (s.abortClaim d .driveRefused) d).unclaimed (closeClaim_unclaimed h d (.aborted .driveRefused) (.aborted .driveRefused) hs)
  exact enterFaulted_claimsFit (release_claimsFit (closeClaim_claimsFit h d _ _) d) d _ hu

theorem homeAccepted_claimsFit (hs : (s.dish d).state = .unreferenced) : ClaimsFit (s.homeAccepted d) := by
  obtain ⟨htask, -, hclaim, -⟩ := h d
  refine modDish_claimsFit h d _ fun _ => ⟨htask, fun _ => .inr rfl, fun hc ht => ?_, by simp⟩
  simpa [hs] using hclaim hc ht

theorem modRecord_claimsFit (id : Nat) (f : SlewRecord → SlewRecord) : ClaimsFit (s.modRecord id f) := h

theorem moveAccepted_claimsFit (seq : Nat) (hs : (s.dish d).state = .ready) : ClaimsFit (s.moveAccepted d seq) := by
  have h1 : ClaimsFit (s.modDish d (fun r => { r with
      state := .slewing, acceptedSeq := some seq, claim := r.claim.map (fun c => { c with running := true }),
      timer := some { kind := .slew, due := s.now + r.slewTimeout.getD 0 * 100 } })) := by
    obtain ⟨htask, hhome, -, -⟩ := h d
    refine modDish_claimsFit h d _ fun _ => ⟨?_, fun ht => ?_, fun _ _ => .inr rfl, by simp⟩
    · simp only [htask]
      cases (s.dish d).claim <;> simp
    · simpa [hs] using hhome ht
  unfold State.moveAccepted
  simp only
  split
  · exact modRecord_claimsFit h1 _ _
  · exact h1

theorem referenceLost_claimsFit (hs : (s.dish d).state ≠ .stopping) : ClaimsFit (s.referenceLost d) := by
  have hclose (st : MemberState) (w : WaveState) : ClaimsFit (s.closeClaim d st w) ∧ ((s.closeClaim d st w).dish d).Unclaimed :=
    ⟨closeClaim_claimsFit h d st w, closeClaim_unclaimed h d st w hs⟩
  unfold State.referenceLost
  simp only
  split
  · obtain ⟨hf, hu⟩ := hclose (.aborted .fault) (.aborted .fault)
    have hc := (removeMove_changes (s.abortClaim d .fault) d).andThen (release_changes _ d)
    exact enterUnreferenced_claimsFit (hc.claimsFit hf (by simp)) d (hc.unclaimed hu)
  · obtain ⟨hf, hu⟩ := hclose (.excused (.state .unreferenced)) (.excused (.state .unreferenced))
    exact enterUnreferenced_claimsFit hf d hu

theorem slewDone_claimsFit (st : Status) : ClaimsFit (s.slewDone d st) := by
  have h0 (f : Heater → Heater) (c : Prop) [Decidable c] : ClaimsFit (if c then s.modHeater d f else s) :=
    ite_claimsFit (fun _ => h) (fun _ => h)
  have ready {t : State} (ht : ClaimsFit t) :
      ClaimsFit ((((t.closeClaim d .done .done).modDish d (fun r => { r with timer := none })).release d).enterReady d) := by
    have hu := closeClaim_timerOff_unclaimed ht d .done .done (fun r => { r with timer := none }) (by simp)
    have h1 := modDish_claimsFit_of_unclaimed (closeClaim_claimsFit ht d .done .done) d _ hu
    exact enterReady_claimsFit (release_claimsFit h1 d) d ((release_changes _ d).unclaimed hu)
  refine ite_claimsFit (fun _ => ready (h0 _ _)) (fun _ => referenceLost_claimsFit (ready (h0 _ _)) d ?_)
  generalize (State.release _ d) = t
  obtain hd | hd := (t.isDish d).eq_false_or_eq_true
  · simp [enterReady_state t d hd]
  · rw [dish_of_not_isDish _ d (by rw [(enterReady_changes t d).isDish, hd])]
    simp [Dish.initial]

theorem stopEnds_claimsFit (st : Status) (hs : (s.dish d).state = .stopping) : ClaimsFit (s.stopEnds d st) := by
  have hc := (h d).claim_none (by simp [hs]) (by simp [hs]) (by simp [hs]) (by simp [hs])
  have hu : ((s.modDish d (fun r => { r with timer := none })).dish d).Unclaimed :=
    modDish_unclaimed s d _ ⟨hc, (h d).task_none hc, by simp⟩
  have h1 := release_claimsFit (modDish_claimsFit_of_unclaimed h d _ hu) d
  have hu1 := (release_changes _ d).unclaimed hu
  exact ite_claimsFit (fun _ => enterFaulted_claimsFit h1 d _ hu1)
    (fun _ => ite_claimsFit (fun _ => enterReady_claimsFit h1 d hu1) (fun _ => enterUnreferenced_claimsFit h1 d hu1))

theorem settleTest_claimsFit (st : Status) (hs : (s.dish d).state = .settling) : ClaimsFit (s.settleTest d st) := by
  have hu : (s.dish d).Unclaimed := (h d).unclaimed ((h d).claim_none (by simp [hs]) (by simp [hs]) (by simp [hs]) (by simp [hs])) (by simp [hs])
  exact ite_claimsFit (fun _ => ite_claimsFit (fun _ => enterReady_claimsFit h d hu) (fun _ => enterUnreferenced_claimsFit h d hu))
    (fun _ => h)

theorem assessMotion_claimsFit (st : Status) (a : Answer) : ClaimsFit (s.assessMotion d st a) := by
  unfold State.assessMotion
  simp only
  split
  next hs => exact settleTest_claimsFit h d st hs
  next hs =>
    split
    · exact ite_claimsFit (fun _ => homeAccepted_claimsFit h d hs) (fun _ => h)
    · exact ite_claimsFit (fun _ => driveRefused_claimsFit h d (by simp [hs])) (fun _ => h)
    · exact ite_claimsFit (fun _ => homeDone_claimsFit h d) (fun _ => h)
  next => exact ite_claimsFit (fun _ => homeDone_claimsFit h d) (fun _ => h)
  next hs =>
    split
    · exact ite_claimsFit (fun _ => moveAccepted_claimsFit h d _ hs) (fun _ => h)
    · exact ite_claimsFit (fun _ => driveRefused_claimsFit h d (by simp [hs])) (fun _ => h)
    · exact ite_claimsFit (fun _ => h) (fun _ => referenceLost_claimsFit h d (by simp [hs]))
  next => exact ite_claimsFit (fun _ => slewDone_claimsFit h d st) (fun _ => h)
  next hs => exact ite_claimsFit (fun _ => h) (fun _ => stopEnds_claimsFit h d st hs)
  next => exact ite_claimsFit (fun _ => h) (fun _ => release_claimsFit h d)
  next => exact h
  next => exact h

/-! ## Replies, misses and timers -/

theorem takeReply_claimsFit (st : Status) (a : Answer) : ClaimsFit (s.takeReply d st a) := by
  have h0 : ClaimsFit (s.modDish d (·.heard st s.now)) := modDish_claimsFit h d _ fun _ => h d
  have h3 := assessFault_claimsFit (assessOwner_claimsFit (assessPresence_claimsFit h0 d) d (s.dish d).last st) d (s.dish d).last st
  have h4 := (assessSurface_changes _ d (s.dish d).last st).claimsFit (assessKey_claimsFit h3 d (s.dish d).last st) (by simp)
  exact assessMotion_claimsFit (heaterReply_claimsFit h4 d st) d st a

theorem declareAbsent_claimsFit : ClaimsFit (s.declareAbsent d) := by
  have hu := closeClaim_timerOff_unclaimed h d (.aborted .absent) (.aborted .absent)
    (fun r => { r with state := .absent, timer := none, supFault := .clear }) (by simp)
  have h1 := modDish_claimsFit_of_unclaimed (closeClaim_claimsFit h d (.aborted .absent) (.aborted .absent)) d _ hu
  have hc := (((release_changes ((s.abortClaim d .absent).modDish d (fun r => { r with state := .absent, timer := none, supFault := .clear }))
    d).andThen (clearSlots_changes _ d)).andThen (heaterAbsent_heating _ d)).andThen (flag_changes _ d { presence := true })
  exact endPreempt_claimsFit (hc.claimsFit h1 (by simp)) d (hc.unclaimed hu).2.1

theorem takeMiss_claimsFit : ClaimsFit (s.takeMiss d) := by
  have h1 : ClaimsFit (s.modDish d Dish.missed) := modDish_claimsFit h d _ fun _ => h d
  rw [takeMiss_eq]
  exact ite_claimsFit (fun _ => declareAbsent_claimsFit h1 d) (fun _ => h1)

theorem exhausted_claimsFit : ClaimsFit (s.exhausted d) := by
  unfold State.exhausted
  simp only
  split
  · refine trigger_claimsFit (release_claimsFit (modDish_claimsFit h d _ fun _ => ?_) d)
    exact (h d).congr rfl (by cases (s.dish d).claim <;> simp) rfl (fun x hx hk => ⟨x, hx, hk⟩)
  · exact release_claimsFit (closeClaim_claimsFit h d _ _) d
  · exact h

theorem slewTimeoutOn_claimsFit : ClaimsFit (s.slewTimeoutOn d) := by
  have hc := closeClaim_claim s d (.aborted .timeout) (.aborted .timeout)
  have h1 := closeClaim_claimsFit h d (.aborted .timeout) (.aborted .timeout)
  have ht := (h1 d).task_none hc
  refine (orderStop_changes _ d).claimsFit (modDish_claimsFit h1 d _ fun _ => ?_) (by simp)
  exact ⟨by simp [hc, ht], by simp [ht], by simp [hc], fun _ _ _ => rfl⟩

theorem homeTimeoutOn_claimsFit : ClaimsFit (s.homeTimeoutOn d) := by
  have hu := closeClaim_timerOff_unclaimed h d (.aborted .timeout) (.aborted .timeout) (fun r => { r with timer := none }) (by simp)
  have h1 := modDish_claimsFit_of_unclaimed (closeClaim_claimsFit h d (.aborted .timeout) (.aborted .timeout)) d _ hu
  exact enterFaulted_claimsFit ((orderStop_changes _ d).claimsFit h1 (by simp)) d _ ((orderStop_changes _ d).unclaimed hu)

theorem stopTimeoutOn_claimsFit (hx : ∃ x, (s.dish d).timer = some x ∧ x.kind = .stop) : ClaimsFit (s.stopTimeoutOn d) := by
  obtain ⟨x, hx, hk⟩ := hx
  have hs := (h d).2.2.2 x hx hk
  have hc := (h d).claim_none (by simp [hs]) (by simp [hs]) (by simp [hs]) (by simp [hs])
  have hu : ((s.modDish d (fun r => { r with timer := none })).dish d).Unclaimed :=
    modDish_unclaimed s d _ ⟨hc, (h d).task_none hc, by simp⟩
  exact enterFaulted_claimsFit (modDish_claimsFit_of_unclaimed h d _ hu) d _ hu

end

end Sys2Proof.Machine
end

section
-- One declaration at a time: the check bounds memory, and every thread in flight takes its stack from it.
set_option Elab.async false

/-! Claims fit their states at every other event: requests, zones, lockouts, admission passes, RESTART and power. -/

namespace Sys2Proof.Machine

/-! ## Operations that leave every dish record alone -/

@[simp] theorem raise_dsv (s : State) (k : NoticeKey) : (s.raise k).dsv = s.dsv := (raise_changes s k).dsv

@[simp] theorem count_dsv (s : State) (k : EventClass) (q : Option Nat) : (s.count k q).dsv = s.dsv := (count_changes s k q).dsv

theorem claimsFit_of_all {s : State} (h : ∀ r ∈ s.dsv.dishes, ClaimFits r) : ClaimsFit s := by
  intro d
  rcases tget_mem_or_default s.dsv.dishes d Dish.initial with hm | hm
  · exact h _ hm
  · show ClaimFits (tget _ _ _)
    rw [hm]; exact initial_unclaimed.fits

theorem claimsFit_of_dsv {s t : State} (h : ClaimsFit s) (hd : t.dsv = s.dsv) : ClaimsFit t := claimsFit_congr h (by rw [hd])

/-- What holds of the state of both branches holds of the state of a conditional owner. -/
theorem handled_ite {P : State → Prop} {c : Prop} [Decidable c] {x y : Handled} (hx : c → P x.1) (hy : ¬ c → P y.1) :
    P (if c then x else y).1 := by
  split
  · exact hx ‹_›
  · exact hy ‹_›

theorem assessMember_ready {s : State} {z d : Nat} (hw : s.assessMember z d = .waiting) : (s.dish d).state = .ready := by
  unfold State.assessMember at hw
  split at hw
  · simp at hw
  next hr => simpa using hr

section
variable {s : State} (h : ClaimsFit s)
include h

/-! ## The end of an event -/

theorem transmit_claimsFit : ClaimsFit s.transmit := by
  obtain ⟨x, fp, lf, ht, -⟩ := transmit_frame s
  rw [ht]; exact h

theorem enterStopping_claimsFit : ClaimsFit s.enterStopping := by
  have h1 : ClaimsFit s.orderAllStop.orderHeatAllOff := h
  exact foldl_claimsFit (fun t d => t.stopOrder d .stoppedByHost) s.orderAllStop.orderHeatAllOff.dishNumbers h1
    (fun t d _ ht => stopOrder_claimsFit ht d _)

theorem restartProgress_claimsFit : ClaimsFit s.restartProgress := by
  have h1 (c : Prop) [Decidable c] : ClaimsFit (if c then s.enterStopping else s) :=
    ite_claimsFit (fun _ => enterStopping_claimsFit h) (fun _ => h)
  exact ite_claimsFit (fun _ => h1 _) (fun _ => h1 _)

theorem finish_claimsFit : ClaimsFit s.finish := transmit_claimsFit (restartProgress_claimsFit h)

theorem onEvent_claimsFit (occurs : Bool) (f : State → State) (hf : ∀ t, ClaimsFit t → ClaimsFit (f t)) :
    ClaimsFit (s.onEvent occurs f) := ite_claimsFit (fun _ => finish_claimsFit (hf _ h)) (fun _ => h)

theorem onTimer_claimsFit (due : Option Nat) (f : State → State)
    (hf : ∀ x, due = some x → ClaimsFit (s.beginAt x) → ClaimsFit (f (s.beginAt x))) : ClaimsFit (s.onTimer due f) := by
  unfold State.onTimer
  split
  · exact ite_claimsFit (fun _ => finish_claimsFit (hf _ rfl h)) (fun _ => h)
  · exact h

theorem reply_claimsFit (r : Reply) : ClaimsFit (s.reply r) := h

theorem handOver_claimsFit (c : Instr) (b : Bool) (owner : State → Handled) (ho : ClaimsFit (owner s).1) :
    ClaimsFit (s.handOver c b owner) := by
  unfold State.handOver
  split
  · exact h
  · refine ite_claimsFit (fun _ => h) (fun _ => ?_)
    split
    next ht => rw [ht] at ho; exact reply_claimsFit ho _
    next ht => rw [ht] at ho; exact ho

theorem onRequest_claimsFit (c : Instr) (owner : State → Handled) (b : Bool) (ho : ∀ t, ClaimsFit t → ClaimsFit (owner t).1) :
    ClaimsFit (s.onRequest c owner b) := by
  have hq : ClaimsFit (s.queued c) := ite_claimsFit (fun _ => h) (fun _ => h)
  have hl : ClaimsFit (({ s.queued c with oli := (s.queued c).oli.leave } : State).begin) := hq
  exact ite_claimsFit (fun _ => finish_claimsFit (handOver_claimsFit hl c b owner (ho _ hl))) (fun _ => h)

/-! ## Requests about dishes -/

theorem hostStops_claimsFit (ds : List Nat) : ClaimsFit (s.hostStops ds).1 := by
  induction ds generalizing s with
  | nil => exact h
  | cons d ds ih => exact ih (stopOrder_claimsFit h d .stoppedByHost)

theorem dishStopOf_claimsFit (ds : DishSet) : ClaimsFit (s.dishStopOf ds).1 := by
  unfold State.dishStopOf
  split
  · exact h
  · exact hostStops_claimsFit h (members ds)

/-- A write that keeps state, claim, task and timer of a dish. -/
theorem modDish_claimsFit_of_fields (d : Nat) (f : Dish → Dish)
    (hf : ∀ r : Dish, (f r).state = r.state ∧ (f r).claim = r.claim ∧ (f r).task = r.task ∧ (f r).timer = r.timer) :
    ClaimsFit (s.modDish d f) := by
  obtain ⟨h1, h2, h3, h4⟩ := hf (s.dish d)
  exact modDish_claimsFit h d f fun _ => (h d).congr h1 (by rw [h2]) h3 (fun x hx hk => ⟨x, h4 ▸ hx, hk⟩)

theorem rehome_claimsFit (d : Nat) : ClaimsFit (s.rehome d).1 := by
  unfold State.rehome
  split
  · exact h
  split
  · exact h
  next hs =>
    split
    · exact h
    split
    · exact h
    have hf : (s.dish d).state = .faulted := by simpa using hs
    have hu : (s.dish d).Unclaimed :=
      (h d).unclaimed ((h d).claim_none (by simp [hf]) (by simp [hf]) (by simp [hf]) (by simp [hf])) (by simp [hf])
    exact modDish_claimsFit h d _ fun _ => Dish.Unclaimed.fits hu

theorem ackChanges_claimsFit (ds : DishSet) (m : Mask) : ClaimsFit (s.ackChanges ds m).1 := by
  unfold State.ackChanges
  split
  · exact h
  · exact foldl_claimsFit (fun (t : State) d => t.modDish d (fun r => { r with flags := r.flags.without m })) (members ds) h
      fun t d _ ht => modDish_claimsFit_of_fields ht d _ (by simp)

theorem settle_claimsFit (f : Feeder) : ClaimsFit (s.settle f) := (settle_changes s f).claimsFit h (by simp)

theorem allocateOn_claimsFit (f : Feeder) : ClaimsFit (s.allocateOn f) := heating_claimsFit h (allocateOn_heating s f)

theorem writeProfile_claimsFit (e : ProfileEdit) (d : Nat) : ClaimsFit (s.writeProfile e d) :=
  settle_claimsFit (modDish_claimsFit_of_fields h d _ (by simp)) _

theorem dropWaitingShed_claimsFit (d : Nat) : ClaimsFit (s.dropWaitingShed d) :=
  ite_claimsFit (fun _ => closeClaim_claimsFit h d _ _) (fun _ => h)

theorem writeEnablesOn_claimsFit (heat shed : Option Bool) (d : Nat) : ClaimsFit (s.writeEnablesOn heat shed d) := by
  have h1 := modDish_claimsFit_of_fields h d (fun r => { r with
    profile.heatEnable := heat.getD (s.dish d).profile.heatEnable, profile.shedEnable := shed.getD (s.dish d).profile.shedEnable }) (by simp)
  have h2 := (gateHeater_changes _ d).claimsFit h1 (by simp)
  exact ite_claimsFit (fun _ => dropWaitingShed_claimsFit h2 d) (fun _ => h2)

theorem writeEnables_claimsFit (heat shed : Option Bool) (ds : List Nat) : ClaimsFit (s.writeEnables heat shed ds).1 :=
  foldl_claimsFit _ _ (foldl_claimsFit _ ds h (fun _ d _ ht => writeEnablesOn_claimsFit ht heat shed d))
    (fun _ f _ ht => allocateOn_claimsFit ht f)

theorem setProfile_claimsFit (ds : DishSet) (pe : ProfileEdit) (se : SupervisionEdit) : ClaimsFit (s.setProfile ds pe se).1 := by
  unfold State.setProfile
  split
  · exact h
  · have h1 : ClaimsFit (s.writeSupervision (clampSupervision se).1) := claimsFit_congr h rfl
    have h2 := foldl_claimsFit (fun (t : State) d => t.writeProfile (clampProfile pe).1 d) (members ds) h1
      (fun _ d _ ht => writeProfile_claimsFit ht _ d)
    have h3 := writeEnables_claimsFit h2 (clampProfile pe).1.heatEnable (clampProfile pe).1.shedEnable (members ds)
    exact ite_claimsFit (fun _ => h3) (fun _ => h3)

theorem assignDish_claimsFit (feeder : Option Feeder) (zone : Option Nat) (d : Nat) : ClaimsFit (s.assignDish feeder zone d) := by
  have h1 := modDish_claimsFit_of_fields h d (fun r => { r with feeder := feeder.getD r.feeder, zone := zone.getD r.zone }) (by simp)
  unfold State.assignDish
  simp only
  generalize ht : (if _ = (s.dish d).feeder then _ else State.settle _ _) = t
  have h2 : ClaimsFit t := by
    rw [← ht]
    exact ite_claimsFit (fun _ => h1) (fun _ => settle_claimsFit (settle_claimsFit h1 _) _)
  refine ite_claimsFit (fun he => gain_claimsFit h2 d (eligible_ready ?_)) (fun _ => h2)
  simp only [Bool.and_eq_true] at he
  exact he.2

theorem assign_claimsFit (ds : DishSet) (feeder zone : Option Nat) : ClaimsFit (s.assign ds feeder zone).1 := by
  have moved : ClaimsFit ((members ds).foldl (fun t d => t.assignDish (feeder.bind feederOf) zone d) s) :=
    foldl_claimsFit (fun (t : State) d => t.assignDish (feeder.bind feederOf) zone d) (members ds) h
      (fun _ d _ ht => assignDish_claimsFit ht _ _ d)
  exact handled_ite (P := ClaimsFit) (fun _ => h) fun _ => handled_ite (P := ClaimsFit) (fun _ => h) fun _ =>
    handled_ite (P := ClaimsFit) (fun _ => h) fun _ => moved

theorem heatEnableOf_claimsFit (ds : DishSet) (heat shed : Option Bool) : ClaimsFit (s.heatEnableOf ds heat shed).1 := by
  unfold State.heatEnableOf
  split
  · exact h
  · exact writeEnables_claimsFit h heat shed (members ds)

theorem feederSetOf_claimsFit (b : Nat) (limit reserve heatCap : Option Nat) : ClaimsFit (s.feederSetOf b limit reserve heatCap).1 := by
  unfold State.feederSetOf
  split
  · exact h
  next f _ =>
    split
    · exact h
    · have h1 : ClaimsFit (s.modFeeder f (fun r => r.withSettings limit reserve heatCap)) := h
      exact raise_claimsFit ((settleFrom_changes _ f _).claimsFit h1 (by simp)) _

/-! ## Slews -/

/-- A dish that a slew can name as a WAITING member: READY, its task none or SHED. -/
def Dish.Claimable (r : Dish) : Prop := r.state = .ready ∧ (r.task = none ∨ r.task = some .shed)

theorem claimFor_claimsFit (id d : Nat) (hd : (s.dish d).Claimable) :
    ClaimsFit (s.claimFor id d) ∧ ∀ e, (s.dish e).Claimable → ((s.claimFor id d).dish e).Claimable := by
  obtain ⟨hs, ht⟩ := hd
  have key (t : State) (hf : ClaimsFit t) (hst : (t.dish d).state = .ready) (htn : (t.dish d).task = none)
      (he : ∀ e, (s.dish e).Claimable → (t.dish e).Claimable) :
      ClaimsFit (t.openClaim d (.host id)) ∧ ∀ e, (s.dish e).Claimable → ((t.openClaim d (.host id)).dish e).Claimable := by
    refine ⟨openClaim_claimsFit hf d _ (by simp) htn hst, fun e hc => ?_⟩
    obtain ⟨h1, h2⟩ := he e hc
    by_cases hed : e = d
    · subst hed
      refine ⟨(openClaim_changes t e _).state.trans hst, .inl ?_⟩
      exact modDish_task t e _ htn
    · have hsame := (openClaim_changes t d (.host id)).dish (d := e) (by simp [hed])
      rw [hsame]; exact ⟨h1, h2⟩
  unfold State.claimFor
  split
  · refine key _ (closeClaim_claimsFit h d _ _) ?_ ?_ fun e hc => ?_
    · rw [(closeClaim_changes s d _ _).state]; exact hs
    · exact (closeClaim_claimsFit h d _ _ d).task_none (closeClaim_claim s d _ _)
    · by_cases hed : e = d
      · subst hed
        refine ⟨(closeClaim_changes s e _ _).state.trans hs, .inl ?_⟩
        exact (closeClaim_claimsFit h e _ _ e).task_none (closeClaim_claim s e _ _)
      · rw [(closeClaim_changes s d .cancelled .stoppedByHost).dish (d := e) (by simp [hed])]; exact hc
  · rename_i hns
    refine key s h hs (ht.resolve_right (by simpa using hns)) fun e hc => hc

theorem countExcusals_claimsFit (ms : List HostMember) : ClaimsFit (s.countExcusals ms) :=
  foldl_claimsFit (fun (t : State) m => t.countExcusal m) ms h
    (fun _ _ _ ht => ite_claimsFit (fun _ => countLock_claimsFit ht _) (fun _ => ht))

theorem acceptMember_claimable (d : Nat) (hw : (s.acceptMember d).state = .waiting) : (s.dish d).Claimable := by
  unfold State.acceptMember at hw
  simp only at hw
  split at hw
  · simp at hw
  next hr =>
    split at hw
    · simp at hw
    split at hw
    · simp at hw
    split at hw
    · simp at hw
    next hb =>
      refine ⟨by simpa using hr, ?_⟩
      cases hc : (s.dish d).claim with
      | none => exact .inl ((h d).task_none hc)
      | some c => right; simp_all

theorem acceptSlew_claimsFit (mode : SlewMode) (sel : Selector) (a : SlewArgs) (ms : List HostMember)
    (hm : ∀ m ∈ ms, m.state = .waiting → (s.dish m.dish).Claimable) : ClaimsFit (s.acceptSlew mode sel a ms).1 := by
  have claim (t : State) (ht : ClaimsFit t) (ds : List Nat) (hds : ∀ d ∈ ds, (t.dish d).Claimable) (id : Nat) :
      ClaimsFit (ds.foldl (fun u d => u.claimFor id d) t) := by
    induction ds generalizing t with
    | nil => exact ht
    | cons d ds ih =>
      obtain ⟨h1, h2⟩ := claimFor_claimsFit ht id d (hds d (by simp))
      exact ih _ h1 (fun e he => h2 e (hds e (by simp [he])))
  unfold State.acceptSlew
  simp only [State.answer]
  generalize hs1 : ({ s with sls.table := _, sls.lastId := s.sls.nextId } : State) = s1
  have h1 : ClaimsFit s1 := claimsFit_of_dsv h (by rw [← hs1])
  have hdish (d : Nat) : s1.dish d = s.dish d := by rw [← hs1]; rfl
  have h2 : ClaimsFit (((ms.filter (fun m => m.state == .waiting)).map (·.dish)).foldl (fun u d => u.claimFor s.sls.nextId d) s1) := by
    refine claim s1 h1 _ (fun d hd => ?_) _
    obtain ⟨m, hmem, rfl⟩ := List.mem_map.mp hd
    obtain ⟨hm1, hm2⟩ := List.mem_filter.mp hmem
    rw [hdish]
    exact hm m hm1 (by simpa using hm2)
  exact (monitorCreated_changes _ _ _).claimsFit (countExcusals_claimsFit (trigger_claimsFit h2) ms) (by simp)

theorem requestSlew_claimsFit (mode : SlewMode) (sel : Selector) (ds : List Nat) (a : SlewArgs) :
    ClaimsFit (s.requestSlew mode sel ds a).1 := by
  unfold State.requestSlew
  split
  · exact h
  split
  · exact h
  split
  · exact h
  simp only
  split
  · exact countExcusals_claimsFit h _
  · refine acceptSlew_claimsFit h mode sel a _ fun m hm hw => ?_
    obtain ⟨d, -, rfl⟩ := List.mem_map.mp hm
    exact acceptMember_claimable h d hw

theorem slewOf_claimsFit (d : Nat) (a : SlewArgs) : ClaimsFit (s.slewOf d a).1 := by
  unfold State.slewOf
  split
  · exact h
  · exact requestSlew_claimsFit h _ _ _ _

theorem jointSlewOf_claimsFit (sel : Selector) (mode : Nat) (a : SlewArgs) : ClaimsFit (s.jointSlewOf sel mode a).1 := by
  unfold State.jointSlewOf
  split
  · exact requestSlew_claimsFit h _ _ _ _
  · exact h

theorem cancelMember_claimsFit (m : HostMember) : ClaimsFit (s.cancelMember m) := by
  unfold State.cancelMember
  split
  · exact closeClaim_claimsFit h _ _ _
  · exact stopOrder_claimsFit h _ _
  · exact h

theorem cancelOf_claimsFit (id : Nat) (ds : Option DishSet) : ClaimsFit (s.cancelOf id ds).1 := by
  unfold State.cancelOf
  split
  · exact h
  split
  · exact h
  split
  · exact h
  split
  · exact h
  · exact foldl_claimsFit (fun (t : State) m => t.cancelMember m) _ h (fun _ m _ ht => cancelMember_claimsFit ht m)

theorem expireDeadline_claimsFit (id : Nat) : ClaimsFit (s.expireDeadline id) := by
  unfold State.expireDeadline
  split
  · exact h
  · exact foldl_claimsFit (fun (t : State) (m : HostMember) => t.closeClaim m.dish .expired .stoppedByHost) _
      (modRecord_claimsFit h id _) (fun _ m _ ht => closeClaim_claimsFit ht _ _ _)

/-! ## Zones -/

theorem assessAndOpen_claimsFit (z d : Nat) (ht : (s.dish d).state = .ready → (s.dish d).task = none) :
    ClaimsFit (s.assessAndOpen z d).1 := by
  refine ite_claimsFit (fun hw => ?_) (fun _ => h)
  have hr := assessMember_ready (by simpa using hw)
  exact openClaim_claimsFit h d _ (by simp) (ht hr) hr

theorem preempt_claimsFit (d : Nat) : ClaimsFit (s.preempt d).1 := by
  unfold State.preempt
  split
  · exact stopOrder_claimsFit h d _
  · exact closeClaim_claimsFit h d _ _

theorem takeOver_claimsFit (z d : Nat) (hs : (s.dish d).task = some .stow) : ClaimsFit (s.takeOver z d).1 := by
  obtain ⟨htask, hhome, hclaim, htimer⟩ := h d
  obtain ⟨c, hc, hr⟩ := htask.mp (by simp [hs])
  have h1 : ClaimsFit (s.modDish d (fun r =>
      { r with claim := r.claim.map (fun c => { c with ref := .wave z, budgetWaiting := false }), task := none })) :=
    modDish_claimsFit h d _ fun _ => ⟨by simp [hc], by simp, fun _ _ => hclaim (by simp [hc]) (by simp [hs]), htimer⟩
  unfold State.takeOver
  simp only
  split
  · exact (monitorAdmitted_changes _ _).claimsFit (trigger_claimsFit h1) (by simp)
  · exact h1

/-- A READY dish with no preemptible claim and no STOW task holds no task. -/
theorem ready_task_none (d : Nat) (hs : (s.dish d).state = .ready) (hp : (s.dish d).preemptible = false)
    (ht : ((s.dish d).task == some .stow && (s.dish d).claim.isSome) = false) : (s.dish d).task = none := by
  obtain ⟨htask, hhome, -, -⟩ := h d
  cases hk : (s.dish d).task with
  | none => rfl
  | some k =>
    obtain ⟨c, hc, hr⟩ := htask.mp (by simp [hk])
    cases k with
    | home => simp [hs] at hhome; exact absurd hk hhome
    | stow => simp [hk, hc] at ht
    | shed => simp [Dish.preemptible, Dish.claimClass, hc, hr, hk] at hp

theorem assessDish_claimsFit (z d : Nat) : ClaimsFit (s.assessDish z d).1 := by
  unfold State.assessDish
  simp only
  split
  · have hp := preempt_claimsFit h d
    have hclosed : (s.preempt d).2 = false → ((s.preempt d).1.dish d).task = none := by
      intro hst
      refine (hp d).task_none ?_
      unfold State.preempt at hst ⊢
      split at hst
      · simp at hst
      · rename_i hn; rw [if_neg hn]; exact closeClaim_claim s d _ _
    split
    · exact hp
    · rename_i hst
      exact assessAndOpen_claimsFit hp z d (fun _ => hclosed (by simpa using hst))
  next hp =>
    split
    · rename_i hs
      simp only [Bool.and_eq_true, beq_iff_eq] at hs
      exact takeOver_claimsFit h z d hs.1
    · rename_i hs
      exact assessAndOpen_claimsFit h z d (fun hr => ready_task_none h d hr (by simpa using hp) (by simpa using hs))

theorem assessAll_claimsFit (z : Nat) (ds : List Nat) : ClaimsFit (s.assessAll z ds).1 := by
  induction ds generalizing s with
  | nil => exact h
  | cons d ds ih => exact ih (assessDish_claimsFit h z d)

theorem waveTest_claimsFit (z : Nat) : ClaimsFit (s.waveTest z) := (waveTest_changes s z).claimsFit h (by simp)

theorem modZone_claimsFit (z : Nat) (f : Zone → Zone) : ClaimsFit (s.modZone z f) := h

theorem createWave_claimsFit (z : Nat) : ClaimsFit (s.createWave z) := by
  have h1 : ClaimsFit (s.monitorCreated (.wave z) true) := h
  have h2 := assessAll_claimsFit h1 z (s.zoneDishes z)
  exact waveTest_claimsFit (trigger_claimsFit (count_claimsFit (raise_claimsFit (modZone_claimsFit h2 z _) _) .stowOrder _)) z

theorem reassessAll_claimsFit (z : Nat) (ms : List WaveMember) : ClaimsFit (s.reassessAll z ms).1 := by
  induction ms generalizing s with
  | nil => exact h
  | cons m ms ih =>
    unfold State.reassessAll
    simp only
    split
    · exact ih h
    · exact ih (assessDish_claimsFit h z m.dish)

theorem reassessWave_claimsFit (z : Nat) (w : Wave) : ClaimsFit (s.reassessWave z w) := by
  have h1 := reassessAll_claimsFit h z w.members
  have h2 : ClaimsFit ((s.reassessAll z w.members).1.preemptJoined z (w.members.map (·.dish))) :=
    foldl_claimsFit _ _ h1 (fun _ d _ ht => ite_claimsFit (fun _ => preempt_claimsFit ht d) (fun _ => ht))
  exact waveTest_claimsFit (trigger_claimsFit (modZone_claimsFit h2 z _)) z

theorem enterZoneState_claimsFit (z : Nat) (st : ZoneState) : ClaimsFit (s.enterZoneState z st) := by
  have h1 := raise_claimsFit (modZone_claimsFit h z (fun r => { r with state := st })) (.zone z)
  exact ite_claimsFit (fun _ => h) (fun _ => ite_claimsFit (fun _ => h1) (fun _ => h1))

theorem dropStowTasks_claimsFit (z : Nat) : ClaimsFit (s.dropStowTasks z) :=
  foldl_claimsFit _ _ h (fun _ _ _ ht => ite_claimsFit (fun _ => closeClaim_claimsFit ht _ _ _) (fun _ => ht))

theorem setCauses_claimsFit (z : Nat) (new : Causes) : ClaimsFit (s.setCauses z new) := by
  have h1 : ClaimsFit (((s.modZone z (fun r => { r with causes := new })).syncStowOrder).raise (.zone z)) :=
    raise_claimsFit (s := (s.modZone z (fun r => { r with causes := new })).syncStowOrder) h _
  unfold State.setCauses
  simp only
  split
  · exact h
  split
  · split
    · exact createWave_claimsFit (enterZoneState_claimsFit h1 z _) z
    · exact reassessWave_claimsFit (enterZoneState_claimsFit h1 z _) z _
  split
  · exact dropStowTasks_claimsFit (enterZoneState_claimsFit h1 z _) z
  · exact h1

theorem cancelRelease_claimsFit (z : Nat) : ClaimsFit (s.cancelRelease z) :=
  ite_claimsFit (fun _ => raise_claimsFit (modZone_claimsFit h z _) _) (fun _ => h)

theorem startRelease_claimsFit (z : Nat) : ClaimsFit (s.startRelease z) := raise_claimsFit (modZone_claimsFit h z _) _

theorem evaluateSourced_claimsFit (z v g : Nat) : ClaimsFit (s.evaluateSourced z v g) := by
  unfold State.evaluateSourced
  simp only
  generalize ht : (if rowStows (s.activeRow z) v g = true then _ else _) = t
  have h1 : ClaimsFit t := by
    rw [← ht]
    exact ite_claimsFit (fun _ => cancelRelease_claimsFit h z) (fun _ => ite_claimsFit
      (fun _ => ite_claimsFit (fun _ => ite_claimsFit (fun _ => h) (fun _ => startRelease_claimsFit h z)) (fun _ => cancelRelease_claimsFit h z))
      (fun _ => h))
  exact ite_claimsFit (fun _ => enterZoneState_claimsFit (setCauses_claimsFit h1 z _) z _) (fun _ => setCauses_claimsFit h1 z _)

theorem evaluate_claimsFit (z : Nat) : ClaimsFit (s.evaluate z) := by
  unfold State.evaluate
  split
  · split
    · exact evaluateSourced_claimsFit h z _ _
    · exact h
  · exact ite_claimsFit (fun _ => h) (fun _ => setCauses_claimsFit (cancelRelease_claimsFit h z) z _)

theorem reselect_claimsFit (z : Nat) : ClaimsFit (s.reselect z) :=
  ite_claimsFit (fun _ => h) (fun _ => raise_claimsFit (modZone_claimsFit h z _) _)

theorem zoneUpdate_claimsFit (m : Nat) (changed added awaiting : Bool) (z : Nat) : ClaimsFit (s.zoneUpdate m changed added awaiting z) := by
  unfold State.zoneUpdate
  simp only
  generalize ht : (if (changed && _) = true then s.reselect z else s) = t
  have h1 : ClaimsFit t := by
    rw [← ht]
    exact ite_claimsFit (fun _ => reselect_claimsFit h z) (fun _ => h)
  exact ite_claimsFit (fun _ => evaluate_claimsFit h1 z) (fun _ => h1)

theorem mastUpdate_claimsFit (before : State) (m : Nat) (added : Bool) : ClaimsFit (s.mastUpdate before m added) :=
  foldl_claimsFit _ _ h (fun _ z _ ht => zoneUpdate_claimsFit ht m _ added _ z)

theorem mastEvent_claimsFit (m : Nat) (added : Bool) (f : Mast → Mast) : ClaimsFit (s.mastEvent m added f) := by
  have h1 : ClaimsFit (s.modMast m f).syncStale := h
  have h2 (c : Prop) [Decidable c] (q : Option Nat) :
      ClaimsFit (if c then (s.modMast m f).syncStale.count .mastStale q else (s.modMast m f).syncStale) :=
    ite_claimsFit (fun _ => count_claimsFit h1 _ _) (fun _ => h1)
  exact ite_claimsFit (fun _ => mastUpdate_claimsFit (h2 _ _) s m added) (fun _ => h2 _ _)

theorem takeMastFrame_claimsFit (m : Nat) (bytes : List Byte) : ClaimsFit (s.takeMastFrame m bytes) := by
  have hm (f : Mast → Mast) : ClaimsFit (s.modMast m f) := h
  unfold State.takeMastFrame
  simp only
  split
  · exact hm _
  · refine ite_claimsFit (fun _ => hm _) (fun _ => ite_claimsFit (fun _ => hm _) (fun _ => ?_))
    exact ite_claimsFit (fun _ => mastEvent_claimsFit (hm _) m _ _) (fun _ => mastEvent_claimsFit (hm _) m _ _)

theorem zoneSetOf_claimsFit (z : Nat) (e : ZoneEdit) : ClaimsFit (s.zoneSetOf z e).1 := by
  unfold State.zoneSetOf
  simp only
  split
  · exact h
  · refine ite_claimsFit (fun _ => modZone_claimsFit h z _) (fun _ => ?_)
    have h1 := reselect_claimsFit (modZone_claimsFit h z (fun r => { r with
      primary := (zoneEdited e (s.zone z).settings).1.primary, fallback := (zoneEdited e (s.zone z).settings).1.fallback,
      stowEl := (zoneEdited e (s.zone z).settings).1.stowEl, stowAz := (zoneEdited e (s.zone z).settings).1.stowAz })) z
    exact ite_claimsFit (fun _ => h1) (fun _ => evaluate_claimsFit h1 z)

theorem zoneStowOf_claimsFit (z : Nat) : ClaimsFit (s.zoneStowOf z).1 := by
  unfold State.zoneStowOf
  split
  · exact h
  · exact setCauses_claimsFit h z _

theorem zoneReleaseOf_claimsFit (z : Nat) : ClaimsFit (s.zoneReleaseOf z).1 := by
  unfold State.zoneReleaseOf
  split
  · exact h
  split
  · exact h
  · exact setCauses_claimsFit h z _

theorem restartRelease_claimsFit (z : Nat) : ClaimsFit (s.restartRelease z) :=
  ite_claimsFit (fun _ => startRelease_claimsFit h z) (fun _ => h)

theorem bankWriteOf_claimsFit (b z : Nat) (r : Row) : ClaimsFit (s.bankWriteOf b z r).1 := by
  have hw (k : Bank) : ClaimsFit (s.writeRow k z r) := claimsFit_of_dsv h (by cases k <;> rfl)
  unfold State.bankWriteOf
  split
  · exact h
  split
  · exact h
  split
  · exact h
  · exact ite_claimsFit (fun _ => restartRelease_claimsFit (hw _) z) (fun _ => hw _)

theorem bankSelectOf_claimsFit (b : Nat) : ClaimsFit (s.bankSelectOf b).1 := by
  unfold State.bankSelectOf
  split
  · exact h
  next k _ =>
    split
    · exact h
    · have h1 : ClaimsFit { s with znc.active := k } := h
      exact foldl_claimsFit (fun t z => State.restartRelease t z) _ h1 (fun _ z _ ht => restartRelease_claimsFit ht z)

/-! ## Lockouts -/

theorem newMotionBlock_claimsFit (d : Nat) (kind : LockKind) : ClaimsFit (s.newMotionBlock d kind) := by
  have excused := countLock_claimsFit (closeClaim_claimsFit h d (.excused .locked) (.excused .locked)) (some kind)
  unfold State.newMotionBlock
  simp only
  split
  · exact h
  split
  · exact countLock_claimsFit (stopOrder_claimsFit h d _) _
  · split
    · exact excused
    · exact excused
    · exact ite_claimsFit (fun _ => excused) (fun _ => h)

theorem gateAndAllocate_claimsFit (d : Nat) : ClaimsFit (s.gateAndAllocate d) := heating_claimsFit h (gateAndAllocate_heating s d)

theorem coverAll_claimsFit (kind : LockKind) (motion heat : DishSet) (ds : List Nat) : ClaimsFit (s.coverAll kind motion heat ds) := by
  refine foldl_claimsFit _ ds h fun t d _ ht => ?_
  have h1 (c : Prop) [Decidable c] : ClaimsFit (if c then t.newMotionBlock d kind else t) :=
    ite_claimsFit (fun _ => newMotionBlock_claimsFit ht d kind) (fun _ => ht)
  exact ite_claimsFit (fun _ => gateAndAllocate_claimsFit (h1 _) d) (fun _ => h1 _)

theorem uncoverAll_claimsFit (motion heat scope : DishSet) : ClaimsFit (s.uncoverAll motion heat scope) := by
  refine foldl_claimsFit _ (members scope) h fun t d _ ht => ?_
  have h1 : ClaimsFit (if inSet motion d && !inSet t.motionBlocked d && t.eligible d then t.gain d else t) := by
    refine ite_claimsFit (fun he => gain_claimsFit ht d (eligible_ready ?_)) (fun _ => ht)
    simp only [Bool.and_eq_true] at he
    exact he.2
  exact ite_claimsFit (fun _ => gateAndAllocate_claimsFit h1 d) (fun _ => h1)

theorem setEntry_claimsFit (i : Nat) (f : Entry → Entry) : ClaimsFit (s.setEntry i f) :=
  raise_claimsFit (s := s.modEntry i f) h _

theorem queueOp_claimsFit (o : StoreOp) : ClaimsFit (s.queueOp o) :=
  raise_claimsFit (s := { s with lkt.queue := s.lkt.queue ++ [o] }) h _

theorem lockPlaceOf_claimsFit (tag : Nat) (a : PlaceArgs) : ClaimsFit (s.lockPlaceOf tag a).1 := by
  unfold State.lockPlaceOf
  split
  · exact h
  split
  · exact h
  split
  · exact h
  split
  · exact h
  split
  · exact h
  · have h1 (c : Prop) [Decidable c] : ClaimsFit (if c then s.count .spentLost none else s) :=
      ite_claimsFit (fun _ => count_claimsFit h _ _) (fun _ => h)
    exact coverAll_claimsFit (queueOp_claimsFit (setEntry_claimsFit (h1 _) _ _) _) _ _ _ _

theorem lockAmendOf_claimsFit (tag i : Nat) (holder : Option Nat) (ds : DishSet) : ClaimsFit (s.lockAmendOf tag i holder ds).1 := by
  have grown : ClaimsFit (s.amendAt tag i ds) := coverAll_claimsFit (queueOp_claimsFit (setEntry_claimsFit h _ _) _) _ _ _ _
  exact handled_ite (fun _ => h) fun _ => handled_ite (fun _ => h) fun _ => handled_ite (fun _ => h) fun _ =>
    handled_ite (fun _ => h) fun _ => handled_ite (fun _ => h) fun _ => handled_ite (fun _ => h) fun _ =>
      handled_ite (fun _ => h) fun _ => grown

theorem spend_claimsFit (i : Nat) (f : Entry → Entry) : ClaimsFit (s.spend i f) := uncoverAll_claimsFit (setEntry_claimsFit h _ _) _ _ _

theorem lockReleaseOf_claimsFit (tag i : Nat) (holder stamp : Option Nat) : ClaimsFit (s.lockReleaseOf tag i holder stamp).1 := by
  unfold State.lockReleaseOf
  simp only
  split
  · exact h
  split
  · exact h
  split
  · exact h
  split
  · exact h
  split
  · split
    · exact h
    · exact queueOp_claimsFit (setEntry_claimsFit h _ _) _
  · exact spend_claimsFit h i _

theorem lockRetireOf_claimsFit (i : Nat) : ClaimsFit (s.lockRetireOf i).1 := by
  unfold State.lockRetireOf
  split
  · exact h
  split
  · exact h
  · exact setEntry_claimsFit h i _

theorem estopClearOf_claimsFit : ClaimsFit s.estopClearOf.1 := by
  unfold State.estopClearOf
  split
  · exact h
  split
  · exact h
  · exact uncoverAll_claimsFit (setEntry_claimsFit h _ _) _ _ _

theorem estopAsserted_claimsFit : ClaimsFit s.estopAsserted := by
  have h1 : ClaimsFit (({ s with lkt.estopLevel := true } : State).orderAllStop) := h
  exact ite_claimsFit (fun _ => coverAll_claimsFit (setEntry_claimsFit h1 0 _) _ _ _ _) (fun _ => raise_claimsFit h1 _)

theorem estopDeasserted_claimsFit : ClaimsFit s.estopDeasserted := raise_claimsFit (s := { s with lkt.estopLevel := false }) h _

/-! ## The store -/

theorem startWrite_claimsFit : ClaimsFit s.startWrite := by
  unfold State.startWrite
  split
  next o _ =>
    exact raise_claimsFit (s := { s with
      nvs.path := .lockout o.index (match o.kind with | .write => (s.entry o.index).stored.slot | .clear => .empty),
      lkt.queue := s.lkt.queue.map (StoreOp.start o.index) }) h _
  · exact h

theorem owe_claimsFit (o : Option Owed) (r : Result) : ClaimsFit (s.owe o r) := by
  unfold State.owe
  split <;> exact h

theorem takeWriteBack_claimsFit : ClaimsFit s.takeWriteBack := by
  unfold State.takeWriteBack
  split
  next rest _ => exact ite_claimsFit (fun _ => queueOp_claimsFit (s := { s with lkt.writeBacks := rest }) h _) (fun _ => h)
  · exact h

theorem completeOp_claimsFit (o : StoreOp) (result : StoreResult) : ClaimsFit (s.completeOp o result) := by
  unfold State.completeOp
  split
  · exact owe_claimsFit (setEntry_claimsFit h _ _) _ _
  · exact owe_claimsFit (spend_claimsFit h _ _) _ _
  · exact owe_claimsFit (raise_claimsFit h _) _ _

theorem lockComplete_claimsFit (i : Nat) (c : Slot) (result : StoreResult) : ClaimsFit (s.lockComplete i c result) := by
  unfold State.lockComplete
  simp only
  split
  · refine takeWriteBack_claimsFit (completeOp_claimsFit ?_ _ _)
    exact h
  · exact h

theorem saveComplete_claimsFit (st : Settings) (crc : BitVec 16) (result : StoreResult) : ClaimsFit (s.saveComplete st crc result) := by
  unfold State.saveComplete
  exact owe_claimsFit (s := { s with nvs.path := .free, nvs.save := .idle, nvs.saveTag := none, nvs.area := s.nvs.area.after (.image st crc) result, nvs.defaulted := s.nvs.defaulted && result != StoreResult.success }) h _ _

/-! ## The bus -/

omit h in
theorem restartReset_claimsFit (s : State) : ClaimsFit s.restartReset := by
  refine claimsFit_of_all fun r hr => ?_
  obtain ⟨x, -, rfl⟩ : ∃ x ∈ s.dsv.dishes, x.restarted = r := List.mem_map.mp hr
  exact Dish.Unclaimed.fits (by simp [Dish.Unclaimed, Dish.restarted])

theorem afterTransaction_claimsFit : ClaimsFit s.afterTransaction :=
  ite_claimsFit (fun _ => ite_claimsFit (fun _ => restartReset_claimsFit s) (fun _ => ite_claimsFit (fun _ => h) (fun _ => h)))
    (fun _ => h)

theorem countRetry_claimsFit : ClaimsFit s.countRetry :=
  count_claimsFit (s := { s with pbc.totals.retries := inc32 s.pbc.totals.retries }) h _ _

theorem startPoll_claimsFit : ClaimsFit s.startPoll := by
  unfold State.startPoll State.choosePoll
  cases s.pollTarget with
  | some d => exact h
  | none =>
    dsimp only
    cases s.startRound.pollTarget <;> exact h

theorem startStop_claimsFit (d : Nat) : ClaimsFit (s.startStop d) := by
  have h1 : ClaimsFit (s.modSlots d (fun sl => { sl with stopPending := none, stopFlight := some false })) := h
  exact ite_claimsFit (c := (match (s.slots d).stopPending with | some p => p.retry | none => false) = true)
    (fun _ => countRetry_claimsFit h1) (fun _ => h1)

theorem startMove_claimsFit (d : Nat) : ClaimsFit (s.startMove d) := by
  unfold State.startMove
  split
  · exact h
  next p _ =>
    have h1 : ClaimsFit (s.modSlots d (fun sl =>
      { sl with movePending := none, moveFlight := some { cmd := p.cmd, attempts := p.attempts + 1, withdrawn := false } })) := h
    have h2 : ClaimsFit (if p.isRetry then _ else _) := ite_claimsFit (fun _ => countRetry_claimsFit h1) (fun _ => h1)
    dsimp only
    split <;> exact h2

theorem startHeat_claimsFit (d : Nat) : ClaimsFit (s.startHeat d) := by
  unfold State.startHeat
  split
  · exact h
  next p _ =>
    have h1 : ClaimsFit (s.modSlots d (fun sl =>
      { sl with heatPending := none, heatFlight := some { stage := p.stage, withdrawn := false } })) := h
    exact ite_claimsFit (c := p.retry = true) (fun _ => countRetry_claimsFit h1) (fun _ => h1)

theorem startTransaction_claimsFit : ClaimsFit s.startTransaction := by
  refine ite_claimsFit (fun _ => h) (fun _ => ite_claimsFit (fun _ => h) (fun _ => ite_claimsFit (fun _ => startPoll_claimsFit h) (fun _ => ?_)))
  split
  · exact startStop_claimsFit h _
  split
  · exact startMove_claimsFit h _
  split
  · exact startHeat_claimsFit h _
  · exact startPoll_claimsFit h

theorem withdrawalStop_claimsFit (d : Nat) : ClaimsFit (s.withdrawalStop d) := ite_claimsFit (fun _ => h) (fun _ => h)

theorem endAddressed_claimsFit (x : Transaction) (e : Ending) : ClaimsFit (s.endAddressed x e) := by
  have ended (b : Bool) : ClaimsFit (s.ended x b) := claimsFit_of_dsv h (ended_dsv s x b)
  cases e with
  | valid st r =>
    have h3 := takeReply_claimsFit (ended true) x.station st
      { kind := x.kind, result := r, withdrawn := (s.slots x.station).isWithdrawn x.kind }
    rw [endAddressed_valid]
    exact afterTransaction_claimsFit (ite_claimsFit (fun _ => withdrawalStop_claimsFit h3 _) (fun _ => h3))
  | miss k =>
    have h3 := takeMiss_claimsFit (claimsFit_of_dsv (ended false) (countMiss_changes _ k).dsv) x.station
    rw [endAddressed_miss]
    exact afterTransaction_claimsFit (ite_claimsFit (fun _ => exhausted_claimsFit h3 _) (fun _ => h3))

/-! ## The admission pass -/

theorem markWait_claimsFit (d : Nat) (cls : ClaimClass) : ClaimsFit (s.markWait d cls) := by
  refine ite_claimsFit (fun _ => h) (fun _ => count_claimsFit (modDish_claimsFit h d _ fun _ => ?_) _ _)
  exact (h d).congr rfl (by cases (s.dish d).claim <;> simp) rfl (fun x hx hk => ⟨x, hx, hk⟩)

theorem unmarkWait_claimsFit (d : Nat) : ClaimsFit (s.unmarkWait d) :=
  modDish_claimsFit h d _ fun _ => (h d).congr rfl (by cases (s.dish d).claim <;> simp) rfl (fun x hx hk => ⟨x, hx, hk⟩)

theorem recordAdmission_claimsFit (d w e : Nat) : ClaimsFit (s.recordAdmission d w e) := by
  unfold State.recordAdmission
  split
  · exact h
  · exact h
  · exact h

theorem admitted_claimsFit (d : Nat) (x : Option Nat) : ClaimsFit (s.modDish d (·.admitted x)) :=
  modDish_claimsFit h d _ fun _ => (h d).congr rfl (by simp only [Dish.admitted]; cases (s.dish d).claim <;> simp) rfl (fun x hx hk => ⟨x, hx, hk⟩)

theorem admitClaim_claimsFit (d : Nat) (cls : ClaimClass) : ClaimsFit (s.admitClaim d cls) := by
  have h1 : ClaimsFit (s.reserve d (s.demand d cls)) := (reserve_changes s d _).claimsFit h (by simp)
  have h2 (x : Option Nat) (w e : Nat) (cmd : MoveCmd) :
      ClaimsFit ((((s.reserve d (s.demand d cls)).modDish d (·.admitted x)).recordAdmission d w e).orderMove d cmd) :=
    (orderMove_changes _ d cmd).claimsFit (recordAdmission_claimsFit (admitted_claimsFit h1 d x) d w e) (by simp)
  exact ite_claimsFit (fun _ => count_claimsFit (h2 _ _ _ _) _ _) (fun _ => count_claimsFit (h2 _ _ _ _) _ _)

theorem passUnit_claimsFit (m : Marks) (u : PassUnit) : ClaimsFit (s.passUnit m u).1 := by
  unfold State.passUnit
  split
  next d cls =>
    split
    · exact unmarkWait_claimsFit h d
    split
    · unfold State.passStow
      simp only
      split
      · exact markWait_claimsFit h d _
      split
      · exact admitClaim_claimsFit h d _
      · exact markWait_claimsFit h d _
    · unfold State.passOther
      simp only
      split
      · exact markWait_claimsFit h d _
      split
      · exact admitClaim_claimsFit h d _
      · exact markWait_claimsFit h d _
  next ds =>
    split
    · exact foldl_claimsFit (fun (t : State) d => t.unmarkWait d) ds h (fun _ d _ ht => unmarkWait_claimsFit ht d)
    · unfold State.passGang
      simp only
      split
      · exact foldl_claimsFit (fun (t : State) d => t.admitClaim d .observe) ds h (fun _ d _ ht => admitClaim_claimsFit ht d _)
      · exact foldl_claimsFit (fun (t : State) d => t.markWait d .observe) ds h (fun _ d _ ht => markWait_claimsFit ht d _)

theorem passWalk_claimsFit (m : Marks) (us : List PassUnit) : ClaimsFit (s.passWalk m us).1 := by
  induction us generalizing s m with
  | nil => exact h
  | cons u us ih => exact ih (passUnit_claimsFit h m u) _

theorem closeFeeder_claimsFit (m : Marks) (f : Feeder) : ClaimsFit (s.closeFeeder m f) := by
  have h1 : ClaimsFit (s.modFeeder f (fun r => { r with waits := s.waitCounts f, shedDemand := (m.get f).demand })) := h
  exact ite_claimsFit (fun _ => raise_claimsFit h1 _) (fun _ => h1)

theorem endPass_claimsFit (m : Marks) : ClaimsFit (s.endPass m) := by
  have h1 : ClaimsFit (allFeeders.foldl (fun (t : State) f => t.closeFeeder m f) s) :=
    foldl_claimsFit _ allFeeders h (fun _ f _ ht => closeFeeder_claimsFit ht m f)
  unfold State.endPass
  exact foldl_claimsFit (fun (t : State) f => t.allocateOn f) allFeeders
    (s := { allFeeders.foldl (fun (t : State) f => t.closeFeeder m f) s with
      act.conds.budgetWait := (allFeeders.foldl (fun (t : State) f => t.closeFeeder m f) s).waitingClasses, fbu.passDue := false })
    h1 (fun _ f _ ht => allocateOn_claimsFit ht f)

theorem runPass_claimsFit : ClaimsFit s.runPass := by
  have h1 := passWalk_claimsFit h Marks.clear s.passUnits
  unfold State.runPass
  generalize s.passWalk Marks.clear s.passUnits = x at h1 ⊢
  exact endPass_claimsFit h1 x.2

end

/-! ## Power -/

theorem loaded_claimsFit (st : Settings) (nvs : Nvs) (estop : Bool) (q : List Instr) : ClaimsFit (State.loaded st nvs estop q) := by
  refine claimsFit_of_all fun r hr => ?_
  obtain ⟨x, -, rfl⟩ : ∃ x ∈ st.dishes, ({ profile := x.profile, feeder := x.feeder, zone := x.zone } : Dish) = r := List.mem_map.mp hr
  exact Dish.Unclaimed.fits (by simp [Dish.Unclaimed])

end Sys2Proof.Machine
end

section
-- One declaration at a time: the check bounds memory, and every thread in flight takes its stack from it.
set_option Elab.async false

/-! O6: claims fit their states after every step. -/

namespace Sys2Proof.Machine

/-! ## Owners and events that write no dish record -/

section
variable (s : State)

theorem counterSetOf_dsv (n : Nat) (a : CounterArgs) : (s.counterSetOf n a).1.dsv = s.dsv := by
  unfold State.counterSetOf
  split
  · rfl
  · exact handled_ite (P := fun t => t.dsv = s.dsv) (fun _ => rfl) fun _ =>
      handled_ite (P := fun t => t.dsv = s.dsv) (fun _ => rfl) fun _ => rfl

theorem counterReadOf_dsv (m : Mask) : (s.counterReadOf m).1.dsv = s.dsv := by
  unfold State.counterReadOf
  split <;> rfl

theorem counterClearOf_dsv (m : Mask) : (s.counterClearOf m).1.dsv = s.dsv := by
  unfold State.counterClearOf
  split <;> rfl

theorem timingArmOf_dsv (m : Mask) : (s.timingArmOf m).1.dsv = s.dsv := by
  unfold State.timingArmOf
  split <;> rfl

theorem secondTick_dsv : s.secondTick.dsv = s.dsv := (bumpWhere_raises s _).dsv

theorem feederStatusOf_dsv (m : Mask) : (s.feederStatusOf m).1.dsv = s.dsv :=
  handled_ite (P := fun t => t.dsv = s.dsv) (fun _ => rfl) fun _ => handled_ite (P := fun t => t.dsv = s.dsv) (fun _ => rfl) fun _ => rfl

theorem dishStatusOf_dsv (ds : DishSet) : (s.dishStatusOf ds).1.dsv = s.dsv := by
  unfold State.dishStatusOf
  split <;> rfl

theorem heatPolicyOf_dsv (e : PolicyEdit) : (s.heatPolicyOf e).1.dsv = s.dsv :=
  handled_ite (P := fun t => t.dsv = s.dsv) (fun _ => rfl) fun _ => rfl

theorem heatStatusOf_dsv (ds : DishSet) (m : Mask) : (s.heatStatusOf ds m).1.dsv = s.dsv :=
  handled_ite (P := fun t => t.dsv = s.dsv) (fun _ => rfl) fun _ => handled_ite (P := fun t => t.dsv = s.dsv) (fun _ => rfl) fun _ => rfl

theorem slewStatusOf_dsv (id : Nat) : (s.slewStatusOf id).1.dsv = s.dsv := by
  unfold State.slewStatusOf
  split
  · rfl
  · split <;> rfl

theorem groupSetOf_dsv (n : Nat) (ds : DishSet) : (s.groupSetOf n ds).1.dsv = s.dsv := by
  unfold State.groupSetOf
  split <;> rfl

theorem groupReadOf_dsv (m : BitVec 16) : (s.groupReadOf m).1.dsv = s.dsv := by
  unfold State.groupReadOf
  split <;> rfl

theorem lockFindOf_dsv (ds : Option DishSet) (kinds states : Option Mask) : (s.lockFindOf ds kinds states).1.dsv = s.dsv :=
  handled_ite (P := fun t => t.dsv = s.dsv) (fun _ => rfl) fun _ => rfl

theorem lockReadOf_dsv (m : BitVec 64) : (s.lockReadOf m).1.dsv = s.dsv := by
  unfold State.lockReadOf
  split <;> rfl

theorem settingsSaveOf_dsv (tag : Nat) : (s.settingsSaveOf tag).1.dsv = s.dsv := by
  unfold State.settingsSaveOf
  split <;> rfl

theorem zoneStatusOf_dsv (m : Mask) : (s.zoneStatusOf m).1.dsv = s.dsv := by
  unfold State.zoneStatusOf
  split <;> rfl

theorem bankReadOf_dsv (b : Nat) : (s.bankReadOf b).1.dsv = s.dsv := by
  unfold State.bankReadOf
  split <;> rfl

theorem mastSetOf_dsv (m : Nat) (gain offset : Option Nat) : (s.mastSetOf m gain offset).1.dsv = s.dsv := by
  unfold State.mastSetOf
  split <;> rfl

theorem mastStatusOf_dsv (m : Mask) (window : Bool) : (s.mastStatusOf m window).1.dsv = s.dsv := by
  refine handled_ite (P := fun t => t.dsv = s.dsv) (fun _ => rfl) fun _ => handled_ite (P := fun t => t.dsv = s.dsv) (fun _ => rfl) fun _ => ?_
  exact List.foldlRecOn (motive := fun t : State => t.dsv = s.dsv) (bitsOf m 4 1) _ rfl (fun t ht k _ => ht)

theorem dropFrame_dsv (cause : DropCause) : (s.dropFrame cause).dsv = s.dsv := by
  cases cause <;> rfl

theorem arrive_dsv (kind tag : Nat) (body : List Byte) : (s.arrive kind tag body).dsv = s.dsv := by
  have refused (t : State) (r : Reason) : (t.refuseArrival kind tag r).dsv = t.dsv := by
    unfold State.refuseArrival
    split <;> rfl
  unfold State.arrive
  simp only
  split
  · rfl
  split
  · exact refused _ _
  split
  · exact refused _ _
  split
  · exact refused _ _
  · rfl

theorem frameIn_dsv (kind tag : Byte) (body : List Byte) (crc : BitVec 16) : (s.frameIn kind tag body crc).dsv = s.dsv := by
  unfold State.frameIn
  split
  · exact dropFrame_dsv s _
  split
  · exact dropFrame_dsv s _
  · exact arrive_dsv s _ _ _

theorem sent_dsv (out : Outgoing) : (s.sent out).dsv = s.dsv := by
  have freed (t : State) (k : NoticeKey) : (t.freeRecord k).dsv = t.dsv := by
    unfold State.freeRecord
    split <;> rfl
  cases out with
  | flow _ => rfl
  | reply _ _ => rfl
  | notice k _ live => cases live with
    | true => exact freed _ k
    | false => rfl

theorem frameEnd_dsv : s.frameEnd.dsv = s.dsv := by
  unfold State.frameEnd
  split
  · rfl
  · split
    · rfl
    · exact sent_dsv _ _

/-- An armed timer of the kind asked for. -/
theorem timer_of_timerDue {d : Nat} {k : TimerKind} {x : Nat} (h : s.timerDue d k = some x) :
    ∃ y, (s.dish d).timer = some y ∧ y.kind = k ∧ y.due = x := by
  unfold State.timerDue at h
  split at h
  next y hy =>
    split at h
    next hk => exact ⟨y, hy, hk, by simpa using h⟩
    · simp at h
  · simp at h

end

section
variable {s : State} (h : ClaimsFit s)
include h

/-- A request whose owner writes no dish record. -/
theorem onRequest_claimsFit_of_dsv (c : Instr) (owner : State → Handled) (b : Bool) (ho : ∀ t, (owner t).1.dsv = t.dsv) :
    ClaimsFit (s.onRequest c owner b) := onRequest_claimsFit h c owner b fun t ht => claimsFit_of_dsv ht (ho t)

theorem onEvent_claimsFit_of_dsv (occurs : Bool) (f : State → State) (hf : ∀ t, (f t).dsv = t.dsv) : ClaimsFit (s.onEvent occurs f) :=
  onEvent_claimsFit h occurs f fun t ht => claimsFit_of_dsv ht (hf t)

theorem plReply_claimsFit (chars : List PlChar) {t : State} (ht : execPlReplyReceived chars s = .next t) : ClaimsFit t := by
  injection ht with ht
  rw [← ht]
  split
  · exact onTimer_claimsFit h _ _ fun _ _ hb => endAddressed_claimsFit hb _ _
  · exact h

theorem plWindow_claimsFit {t : State} (ht : execPlReplyWindowExpiry s = .next t) : ClaimsFit t := by
  injection ht with ht
  rw [← ht]
  split
  · exact onTimer_claimsFit h _ _ fun _ _ hb => endAddressed_claimsFit hb _ _
  · exact h

theorem plGap_claimsFit (chars : List PlChar) {t : State} (ht : execPlReplyGap chars s = .next t) : ClaimsFit t := by
  injection ht with ht
  rw [← ht]
  split
  · exact onTimer_claimsFit h _ _ fun _ _ hb => endAddressed_claimsFit hb _ _
  · exact h

theorem lockStore_claimsFit (r : StoreResult) {t : State} (ht : execLockStoreComplete r s = .next t) : ClaimsFit t := by
  injection ht with ht
  rw [← ht]
  split
  · exact onEvent_claimsFit h _ _ fun u hu => lockComplete_claimsFit hu _ _ _
  · exact h

theorem settingsStore_claimsFit (r : StoreResult) {t : State} (ht : execSettingsSaveComplete r s = .next t) : ClaimsFit t := by
  injection ht with ht
  rw [← ht]
  split
  · exact onEvent_claimsFit h _ _ fun u hu => saveComplete_claimsFit hu _ _ _
  · exact h

theorem powerUp_claimsFit (estop : Bool) : ClaimsFit (if s.powered then s else (s.powerUp estop).finish) :=
  ite_claimsFit (fun _ => h) (fun _ => finish_claimsFit (loaded_claimsFit _ _ _ _))

theorem powerFail_claimsFit (remains : WriteRemains) :
    ClaimsFit (if s.powered then State.inactive (s.nvs.abandoned remains).1 (s.nvs.abandoned remains).2 s.pending else s) :=
  ite_claimsFit (fun _ => claimsFit_of_dsv (loaded_claimsFit defaultSettings
    { area := (s.nvs.abandoned remains).1, slots := (s.nvs.abandoned remains).2 } false s.pending) rfl) (fun _ => h)

/-- The stop timer of a dish, the one timer whose owner needs what the invariant says of it. -/
theorem stopTimer_claimsFit (d : Nat) : ClaimsFit (s.onTimer (s.timerDue d .stop) (fun t => t.stopTimeoutOn d)) := by
  refine onTimer_claimsFit h _ _ fun x hx hb => stopTimeoutOn_claimsFit hb d ?_
  obtain ⟨y, hy, hk, -⟩ := timer_of_timerDue s hx
  exact ⟨y, hy, hk⟩

theorem quietExpires_claimsFit : ClaimsFit s.quietExpires := ite_claimsFit (fun _ => h) (fun _ => restartReset_claimsFit s)

theorem holdExpires_claimsFit (d : Nat) : ClaimsFit (s.holdExpires d) := allocateOn_claimsFit (modHeater_claimsFit h d _) _

theorem missedSlot_claimsFit (m : Nat) : ClaimsFit (s.missedSlot m) := mastEvent_claimsFit (s := s.modMast m _) h _ _ _

theorem releaseExpires_claimsFit (z : Nat) : ClaimsFit (s.releaseExpires z) := setCauses_claimsFit (modZone_claimsFit h z _) z _

/-! ## Every command -/

omit h in
/-- What is said of the state of an outcome is said of the state that the step goes to. -/
theorem next_claimsFit {u t : State} (ht : (Host.Outcome.next u : Step) = .next t) (hu : ClaimsFit u) : ClaimsFit t := by
  injection ht with ht
  exact ht ▸ hu

theorem exec_claimsFit (c : Instr) {t : State} (ht : exec c s = .next t) : ClaimsFit t := by
  cases c with
  | powerUp x => exact next_claimsFit ht (powerUp_claimsFit h x)
  | powerFail x => exact next_claimsFit ht (powerFail_claimsFit h x)
  | olFrameArrival x y z u => exact next_claimsFit ht (onEvent_claimsFit_of_dsv h _ _ fun t => frameIn_dsv t _ _ _ _)
  | olFrameDrop x => exact next_claimsFit ht (onEvent_claimsFit_of_dsv h _ _ fun t => dropFrame_dsv t _)
  | olRxGapTimeout => exact next_claimsFit ht (onEvent_claimsFit_of_dsv h _ _ fun _ => rfl)
  | olFrameSent => exact next_claimsFit ht (onEvent_claimsFit_of_dsv h _ _ frameEnd_dsv)
  | identify x => exact next_claimsFit ht (onRequest_claimsFit_of_dsv h _ _ _ fun _ => rfl)
  | linkStatus x => exact next_claimsFit ht (onRequest_claimsFit_of_dsv h _ _ _ fun _ => rfl)
  | noticeEnable x y => exact next_claimsFit ht (onRequest_claimsFit_of_dsv h _ _ _ fun _ => rfl)
  | dishStatus x y => exact next_claimsFit ht (onRequest_claimsFit_of_dsv h _ _ _ fun t => dishStatusOf_dsv t _)
  | dishStop x y => exact next_claimsFit ht (onRequest_claimsFit h _ _ _ fun _ hb => dishStopOf_claimsFit hb y)
  | dishRehome x y => exact next_claimsFit ht (onRequest_claimsFit h _ _ _ fun _ hb => rehome_claimsFit hb y)
  | dishAckChanges x y z => exact next_claimsFit ht (onRequest_claimsFit h _ _ _ fun _ hb => ackChanges_claimsFit hb y z)
  | dishSetProfile x y z u => exact next_claimsFit ht (onRequest_claimsFit h _ _ _ fun _ hb => setProfile_claimsFit hb y z u)
  | dishAssign x y z u => exact next_claimsFit ht (onRequest_claimsFit h _ _ _ fun _ hb => assign_claimsFit hb y z u)
  | slew x y z => exact next_claimsFit ht (onRequest_claimsFit h _ _ _ fun _ hb => slewOf_claimsFit hb y z)
  | jointSlew x y z u => exact next_claimsFit ht (onRequest_claimsFit h _ _ _ fun _ hb => jointSlewOf_claimsFit hb y z u)
  | slewCancel x y z => exact next_claimsFit ht (onRequest_claimsFit h _ _ _ fun _ hb => cancelOf_claimsFit hb y z)
  | slewStatus x y => exact next_claimsFit ht (onRequest_claimsFit_of_dsv h _ _ _ fun t => slewStatusOf_dsv t _)
  | queueStatus x => exact next_claimsFit ht (onRequest_claimsFit_of_dsv h _ _ _ fun _ => rfl)
  | groupSet x y z => exact next_claimsFit ht (onRequest_claimsFit_of_dsv h _ _ _ fun t => groupSetOf_dsv t _ _)
  | groupRead x y => exact next_claimsFit ht (onRequest_claimsFit_of_dsv h _ _ _ fun t => groupReadOf_dsv t _)
  | feederSet x y z u v => exact next_claimsFit ht (onRequest_claimsFit h _ _ _ fun _ hb => feederSetOf_claimsFit hb y z u v)
  | feederStatus x y => exact next_claimsFit ht (onRequest_claimsFit_of_dsv h _ _ _ fun t => feederStatusOf_dsv t _)
  | mastSet x y z u => exact next_claimsFit ht (onRequest_claimsFit_of_dsv h _ _ _ fun t => mastSetOf_dsv t _ _ _)
  | mastStatus x y z => exact next_claimsFit ht (onRequest_claimsFit_of_dsv h _ _ _ fun t => mastStatusOf_dsv t _ _)
  | zoneSet x y z => exact next_claimsFit ht (onRequest_claimsFit h _ _ _ fun _ hb => zoneSetOf_claimsFit hb y z)
  | zoneStatus x y => exact next_claimsFit ht (onRequest_claimsFit_of_dsv h _ _ _ fun t => zoneStatusOf_dsv t _)
  | bankWriteRow x y z u => exact next_claimsFit ht (onRequest_claimsFit h _ _ _ fun _ hb => bankWriteOf_claimsFit hb y z u)
  | bankRead x y => exact next_claimsFit ht (onRequest_claimsFit_of_dsv h _ _ _ fun t => bankReadOf_dsv t _)
  | bankSelect x y => exact next_claimsFit ht (onRequest_claimsFit h _ _ _ fun _ hb => bankSelectOf_claimsFit hb y)
  | zoneStow x y => exact next_claimsFit ht (onRequest_claimsFit h _ _ _ fun _ hb => zoneStowOf_claimsFit hb y)
  | zoneRelease x y => exact next_claimsFit ht (onRequest_claimsFit h _ _ _ fun _ hb => zoneReleaseOf_claimsFit hb y)
  | heatPolicySet x y => exact next_claimsFit ht (onRequest_claimsFit_of_dsv h _ _ _ fun t => heatPolicyOf_dsv t _)
  | heatEnable x y z u => exact next_claimsFit ht (onRequest_claimsFit h _ _ _ fun _ hb => heatEnableOf_claimsFit hb y z u)
  | heatStatus x y z => exact next_claimsFit ht (onRequest_claimsFit_of_dsv h _ _ _ fun t => heatStatusOf_dsv t _ _)
  | lockPlace x y => exact next_claimsFit ht (onRequest_claimsFit h _ _ _ fun _ hb => lockPlaceOf_claimsFit hb x y)
  | lockAmend x y z u => exact next_claimsFit ht (onRequest_claimsFit h _ _ _ fun _ hb => lockAmendOf_claimsFit hb x y z u)
  | lockRelease x y z u => exact next_claimsFit ht (onRequest_claimsFit h _ _ _ fun _ hb => lockReleaseOf_claimsFit hb x y z u)
  | lockRetire x y => exact next_claimsFit ht (onRequest_claimsFit h _ _ _ fun _ hb => lockRetireOf_claimsFit hb y)
  | lockFind x y z u => exact next_claimsFit ht (onRequest_claimsFit_of_dsv h _ _ _ fun t => lockFindOf_dsv t _ _ _)
  | lockRead x y => exact next_claimsFit ht (onRequest_claimsFit_of_dsv h _ _ _ fun t => lockReadOf_dsv t _)
  | estopClear x => exact next_claimsFit ht (onRequest_claimsFit h _ _ _ fun _ hb => estopClearOf_claimsFit hb)
  | counterSet x y z => exact next_claimsFit ht (onRequest_claimsFit_of_dsv h _ _ _ fun t => counterSetOf_dsv t _ _)
  | counterRead x y => exact next_claimsFit ht (onRequest_claimsFit_of_dsv h _ _ _ fun t => counterReadOf_dsv t _)
  | counterClear x y => exact next_claimsFit ht (onRequest_claimsFit_of_dsv h _ _ _ fun t => counterClearOf_dsv t _)
  | timingArm x y => exact next_claimsFit ht (onRequest_claimsFit_of_dsv h _ _ _ fun t => timingArmOf_dsv t _)
  | timingRead x => exact next_claimsFit ht (onRequest_claimsFit_of_dsv h _ _ _ fun _ => rfl)
  | settingsSave x => exact next_claimsFit ht (onRequest_claimsFit_of_dsv h _ _ _ fun t => settingsSaveOf_dsv t _)
  | restart x => exact next_claimsFit ht (onRequest_claimsFit_of_dsv h _ _ _ fun _ => rfl)
  | storeWriteStart => exact next_claimsFit ht (onEvent_claimsFit h _ _ fun _ hb => startWrite_claimsFit hb)
  | lockStoreComplete x => exact lockStore_claimsFit h x ht
  | settingsSaveComplete x => exact settingsStore_claimsFit h x ht
  | restartStopTimerExpiry => exact next_claimsFit ht (onTimer_claimsFit h _ _ fun _ _ hb => hb)
  | quietTimerExpiry => exact next_claimsFit ht (onTimer_claimsFit h _ _ fun _ _ hb => quietExpires_claimsFit hb)
  | estopAssert => exact next_claimsFit ht (onEvent_claimsFit h _ _ fun _ hb => estopAsserted_claimsFit hb)
  | estopDeassert => exact next_claimsFit ht (onEvent_claimsFit h _ _ fun _ hb => estopDeasserted_claimsFit hb)
  | plTransactionStart => exact next_claimsFit ht (onEvent_claimsFit h _ _ fun _ hb => startTransaction_claimsFit hb)
  | plReplyReceived x => exact plReply_claimsFit h x ht
  | plReplyWindowExpiry => exact plWindow_claimsFit h ht
  | plReplyGap x => exact plGap_claimsFit h x ht
  | plBroadcastEnd => exact next_claimsFit ht (onTimer_claimsFit h _ _ fun x _ hb => afterTransaction_claimsFit (s := (s.beginAt x).clearFlight) hb)
  | slewTimerExpiry x => exact next_claimsFit ht (onTimer_claimsFit h _ _ fun _ _ hb => slewTimeoutOn_claimsFit hb x)
  | homeTimerExpiry x => exact next_claimsFit ht (onTimer_claimsFit h _ _ fun _ _ hb => homeTimeoutOn_claimsFit hb x)
  | stopTimerExpiry x => exact next_claimsFit ht (stopTimer_claimsFit h x)
  | mastReportFrame x y z =>
    exact next_claimsFit ht (onEvent_claimsFit h _ _ fun _ hb => ite_claimsFit (fun _ => hb) (fun _ => takeMastFrame_claimsFit hb x y))
  | mastFrameGapTimeout x => exact next_claimsFit ht (onEvent_claimsFit h _ _ fun _ hb => hb)
  | slotTimerExpiry x => exact next_claimsFit ht (onTimer_claimsFit h _ _ fun _ _ hb => missedSlot_claimsFit hb x)
  | releaseTimerExpiry x => exact next_claimsFit ht (onTimer_claimsFit h _ _ fun _ _ hb => releaseExpires_claimsFit hb x)
  | admissionPass => exact next_claimsFit ht (onEvent_claimsFit h _ _ fun _ hb => runPass_claimsFit hb)
  | sensorHoldExpiry x => exact next_claimsFit ht (onTimer_claimsFit h _ _ fun _ _ hb => holdExpires_claimsFit hb x)
  | deadlineExpiry x => exact next_claimsFit ht (onTimer_claimsFit h _ _ fun _ _ hb => expireDeadline_claimsFit hb x)
  | oneSecondTick => exact next_claimsFit ht (onTimer_claimsFit h _ _ fun x _ hb => claimsFit_of_dsv hb (secondTick_dsv _))

end

end Sys2Proof.Machine

open Sys2Proof.Machine in
/-- Settles O6: `ClaimsFit` is kept by every operation on a dish record (`modDish_claimsFit`), so by every entry to a dish state, so by
every command. -/
theorem everyStepKeepsClaimsFitToTheirStates : Obligations.EveryStepKeepsClaimsFitToTheirStates := by
  unfold Obligations.EveryStepKeepsClaimsFitToTheirStates
  intro s t h ht
  unfold step at ht
  split at ht
  · injection ht with ht
    rw [← ht]
    exact ite_claimsFit (fun _ => h) (fun _ => h)
  next c rest _ => exact exec_claimsFit (s := s.withPending rest) h c ht

end

section
-- One declaration at a time: the check bounds memory, and every thread in flight takes its stack from it.
set_option Elab.async false

/-! O2, O45: the state after reset. -/

namespace Sys2Proof.Machine
open Sys2Proof.Claims

theorem reset_groups : State.reset.sls.groups.map members = [1, 2, 3, 4, 5, 6, 7, 8, 9, 10, 11, 12, 13, 14, 15, 16].map groupAtReset := by
  decide +kernel

theorem mem_allDishes (d : Nat) : d ∈ allDishes ↔ 1 ≤ d ∧ d ≤ 48 := by
  simp only [allDishes, List.mem_map, List.mem_range]
  exact ⟨fun ⟨i, hi, h⟩ => by omega, fun ⟨h1, h2⟩ => ⟨d - 1, by omega, by omega⟩⟩

/-- After reset no dish has a status, nothing covers a dish, and every heater is enabled and OFF. -/
theorem reset_heaters_open : ∀ d ∈ allDishes, (State.reset.dish d).last.isNone = true ∧ covered State.reset (·.heat) d = false
    ∧ (State.reset.dish d).profile.heatEnable = true ∧ (State.reset.heater d).state = .off := by
  decide +kernel

theorem resetHasHeatersInTheirGates : ResetHasHeatersInTheirGates := by
  intro d h1 h2
  obtain ⟨hl, hc, he, hs⟩ := reset_heaters_open d ((mem_allDishes d).mpr ⟨h1, h2⟩)
  have hl' := Option.isNone_iff_eq_none.mp hl
  simp [HeaterGate, hl', hc, he, hs]

end Sys2Proof.Machine

open Sys2Proof.Machine Sys2Proof.Claims in
/-- Settles O2, block by block: each record after reset computes to its Power-up column; the groups are compared as lists of dishes. -/
theorem resetLeavesThePowerUpValues : Obligations.ResetLeavesThePowerUpValues := by
  unfold Obligations.ResetLeavesThePowerUpValues
  exact ⟨rfl, rfl, rfl, rfl, rfl, rfl, rfl, rfl, rfl, rfl, reset_groups, rfl, rfl, rfl, rfl, rfl, rfl⟩

open Sys2Proof.Machine in
/-- Settles O45, by the tests of the invariants evaluated on the reset state. -/
theorem resetHasTheInvariants : Obligations.ResetHasTheInvariants := by
  unfold Obligations.ResetHasTheInvariants
  exact ⟨shape_of_test _ (by decide +kernel), accounts_of_test _ (by decide +kernel), claimsFit_of_test _ (by decide +kernel),
    resetHasHeatersInTheirGates⟩

end

section
-- One declaration at a time: the check bounds memory, and every thread in flight takes its stack from it.
set_option Elab.async false

/-! The completion of requests and events from the frame of their owner, the dishes of a set, and walks over dish lists. -/

namespace Sys2Proof.Machine

/-! ## Completion from a frame -/

/-- Records of the listed blocks alone: no clock, no link, no store. -/
def Part.within (bs : List Block) (p : Part) : Prop := p ≠ .clock ∧ p ≠ .link ∧ p ≠ .store ∧ ∀ b ∈ p.block, b ∈ bs

/-- A request that its owner answers, from the frame of the owner: the next state is the owner's beside what OLI does with the reply. -/
theorem answers_of_changes {s : State} {c : Instr} {owner : State → Handled} {kind tag : Nat} {x : Contents} {bs : List Block}
    {p : State → Prop} (l : Set Part) (v : State) (h : Ready s c) (hc : requestOf c = some (kind, tag))
    (he : exec c s = .next (s.onRequest c owner)) (ho : owner s.taken = v.answer x) (hv : Changes l s.taken v)
    (hl : ∀ q ∈ l, q.within bs) (hp : ∀ o : Oli, o.notices = v.oli.notices → p { v with oli := o }) :
    Answers c s kind tag (.ok x) bs p := by
  have hlink : Part.link ∉ l := fun hm => (hl _ hm).2.1 rfl
  have hclock : Part.clock ∉ l := fun hm => (hl _ hm).1 rfl
  have hstore : Part.store ∉ l := fun hm => (hl _ hm).2.2.1 rfl
  have hn : v.nvs = s.nvs := hv.store hstore
  refine answers_of s c owner false kind tag v _ bs p h hc he ho ?_ (hv.ownerFrame hclock hlink) ?_ ?_ ?_
  · rw [hn]; exact h.2.1
  · have hol := hv.link hlink
    rw [hol]
    simp [taken_oli]
  · have hb : SameBut bs s.taken v := hv.sameBut fun q hq => (hl q hq).2.2.2
    simpa [SameBut] using hb
  · rintro t ⟨y, fp, lf, rfl, -⟩
    exact hp _ rfl

/-- A timer expiry of a running part, from the frame of its owner. -/
theorem happens_of_timer {s : State} {c : Instr} {due : Nat} {f : State → State} {bs : List Block} {p : State → Prop} (l : Set Part)
    (h : Running s) (he : exec c s = .next (s.onTimer (some due) f)) (hv : Changes l (s.beginAt due) (f (s.beginAt due)))
    (hl : ∀ q ∈ l, q.within bs)
    (hp : ∀ o : Oli, o.notices = (f (s.beginAt due)).oli.notices → KeepsLink s { f (s.beginAt due) with oli := o }
      → p { f (s.beginAt due) with oli := o }) : Happens c s (max s.now due) bs p := by
  have hlink : Part.link ∉ l := fun hm => (hl _ hm).2.1 rfl
  have hclock : Part.clock ∉ l := fun hm => (hl _ hm).1 rfl
  have hstore : Part.store ∉ l := fun hm => (hl _ hm).2.2.1 rfl
  have hn : (f (s.beginAt due)).nvs = s.nvs := hv.store hstore
  have hf := hv.ownerFrame hclock hlink
  obtain ⟨hpow, hnow, hmom, hpend, hin, hflow, hrep, hcnt, hsend⟩ := hf
  refine happens_of c s (f (s.beginAt due)) _ bs p ⟨_, he, timer_of s due f h (by rw [hn]; exact h.2)⟩
    ⟨hpow.trans h.1, hnow, hmom, hpend⟩ ?_ ?_
  · have hb : SameBut bs (s.beginAt due) (f (s.beginAt due)) := hv.sameBut fun q hq => (hl q hq).2.2.2
    exact hb
  · rintro t ⟨y, fp, lf, rfl, hy⟩
    refine hp _ rfl ⟨hin, hflow, hrep, hcnt, ?_, fun hso => ?_⟩
    · rw [hv.link hlink]; rfl
    · have : (f (s.beginAt due)).oli.sending = s.oli.sending := hsend
      rw [← this] at hso ⊢
      exact hy hso

/-! ## The dishes of a set -/

theorem mem_members (ds : DishSet) (d : Nat) : d ∈ members ds ↔ inSet ds d = true := by
  have bound : inSet ds d = true → 1 ≤ d ∧ d ≤ 48 := by
    cases d with
    | zero => simp [inSet]
    | succ k =>
      intro hk
      have := BitVec.lt_of_getLsbD hk
      omega
  simp only [members, List.mem_filter, mem_allDishes]
  exact ⟨fun h => h.2, fun h => ⟨bound h, h⟩⟩

theorem not_mem_members {ds : DishSet} {d : Nat} (h : inSet ds d = false) : d ∉ members ds := by
  simp [mem_members, h]

theorem nodup_members (ds : DishSet) : (members ds).Nodup :=
  (List.nodup_range.map (add_left_injective 1)).filter _

theorem Shape.isDish {s : State} (h : Shape s) (d : Nat) : s.isDish d = true ↔ 1 ≤ d ∧ d ≤ 48 := by
  simp [State.isDish, thas, h.1]

theorem Shape.isDish_of_mem {s : State} (h : Shape s) {ds : DishSet} {d : Nat} (hd : inSet ds d = true) : s.isDish d = true := by
  have := (mem_members ds d).mpr hd
  simp only [members, List.mem_filter, mem_allDishes] at this
  exact (h.isDish d).mpr this.1

theorem Shape.taken {s : State} (h : Shape s) : Shape s.taken := by
  obtain ⟨h1, h2, h3, h4, h5, h6, h7, h8, h9, h10, h11, h12, h13⟩ := h
  refine ⟨h1, h2, h3, h4, h5, h6, h7, h8, h9, h10, h11, ?_, h13⟩
  simp only [taken_oli, leave_inbound, List.length_tail]
  omega

theorem Shape.hasSlots {s : State} (h : Shape s) (d : Nat) : thas s.pbc.slots d = true ↔ 1 ≤ d ∧ d ≤ 48 := by
  simp [thas, h.2.1]

theorem Shape.hasSlots_of_isDish {s : State} (h : Shape s) {d : Nat} (hd : s.isDish d = true) : thas s.pbc.slots d = true :=
  (h.hasSlots d).mpr ((h.isDish d).mp hd)

theorem Shape.dishNumbers {s : State} (h : Shape s) : s.dishNumbers = allDishes := by
  simp [State.dishNumbers, allDishes, h.1]

/-! ## Walks over dishes -/

/-- The parts that a walk changes at other dishes than `d`. -/
def besides (l : Nat → Set Part) (d : Nat) : Set Part := {p | ∃ x, d ≠ x ∧ p ∈ l x}

@[simp] theorem mem_besides (l : Nat → Set Part) (d : Nat) (p : Part) : p ∈ besides l d ↔ ∃ x, d ≠ x ∧ p ∈ l x := Iff.rfl

/-- A walk over different dishes meets each of them once: before and after, only the frames of the others. -/
theorem foldl_meets {l : Nat → Set Part} (g : State → Nat → State) (xs : List Nat) (hn : xs.Nodup) (s : State)
    (h : ∀ t x, Changes (l x) t (g t x)) {d : Nat} (hd : d ∈ xs) :
    ∃ t, Changes (besides l d) s t ∧ Changes (besides l d) (g t d) (xs.foldl g s) := by
  obtain ⟨pre, post, rfl⟩ := List.append_of_mem hd
  have hpre : d ∉ pre := fun hm => (List.nodup_append.mp hn).2.2 d hm d (by simp) rfl
  have hpost : d ∉ post := (List.nodup_cons.mp (List.nodup_append.mp hn).2.1).1
  have walk (ys : List Nat) (hy : d ∉ ys) (t : State) : Changes (besides l d) t (ys.foldl g t) :=
    Changes.foldl g ys t fun u x hx => (h u x).mono fun p hp => ⟨x, fun he => hy (he ▸ hx), hp⟩
  refine ⟨pre.foldl g s, walk pre hpre s, ?_⟩
  rw [List.foldl_append, List.foldl_cons]
  exact walk post hpost _

end Sys2Proof.Machine
end

section
-- One declaration at a time: the check bounds memory, and every thread in flight takes its stack from it.
set_option Elab.async false

/-! O12, O13, O14, O16: the requests DISH_STATUS, DISH_ACK_CHANGES, DISH_STOP, DISH_REHOME and DISH_ASSIGN. -/

namespace Sys2Proof.Machine
open Sys2Proof.Claims

/-! ## Status and change flags (R26, R27) -/

theorem dishStatusReportsEachDishInOrder : DishStatusReportsEachDishInOrder := by
  intro s tag ds h
  refine ⟨fun h0 => ?_, fun h0 => ?_⟩
  · exact refuse_answered s _ (fun s => s.dishStatusOf ds) 0x04 tag _ h rfl rfl (by simp [State.dishStatusOf, h0])
  · refine read_answered s _ (fun s => s.dishStatusOf ds) false 0x04 tag _ h rfl rfl ?_
    have claims (r : Dish) (d : Nat) : r.claimReport d = (match r.claim with
        | none => none
        | some { ref := .host id, standing := st, .. } => some (.host id d st)
        | some { ref := .wave z, standing := st, .. } => some (.wave z st)
        | some { ref := .task, standing := st, .. } => r.task.map (fun k => .task k st)) := by
      unfold Dish.claimReport
      rcases r.claim with _ | ⟨_ | _ | _, _, _, _⟩ <;> rfl
    simp only [State.dishStatusOf, if_neg h0]
    refine congrArg (fun l => s.taken.answer (.dishes l)) (List.map_congr_left fun d _ => ?_)
    simp only [State.dishReport, taken_dish, claims]
    rfl

theorem modDish_flags_changes (s : State) (d : Nat) (f : ChangeFlags → ChangeFlags) :
    Changes {p | ∃ k, p = .dish (.flag k) d} s (s.modDish d (fun r => { r with flags := f r.flags })) :=
  modDish_changes s d _ fun p hp => by
    cases p with
    | flag k => exact absurd ⟨k, rfl⟩ hp
    | _ => simp [DishPart.Same]

/-- The walk of DISH_ACK_CHANGES over the dishes of the set. -/
def State.acked (s : State) (ds : DishSet) (m : Mask) : State :=
  (members ds).foldl (fun t d => t.modDish d (fun r => { r with flags := r.flags.without m })) s

theorem acked_changes (s : State) (ds : DishSet) (m : Mask) : Changes {p | ∃ d ∈ members ds, ∃ k, p = .dish (.flag k) d} s (s.acked ds m) :=
  Changes.foldl _ _ s fun t d hd => (modDish_flags_changes t d (·.without m)).mono fun _ ⟨k, hk⟩ => ⟨d, hd, k, hk⟩

theorem acked_notices (s : State) (ds : DishSet) (m : Mask) : (s.acked ds m).oli = s.oli :=
  List.foldlRecOn (motive := fun t : State => t.oli = s.oli) (members ds) _ rfl fun _ ht _ _ => ht

theorem acked_dish {s : State} (hs : Shape s) (ds : DishSet) (m : Mask) (d : Nat) : (s.acked ds m).dish d =
    if inSet ds d then { s.dish d with flags := (s.dish d).flags.without m } else s.dish d := by
  split
  next hd =>
    obtain ⟨t, hst, htu⟩ := foldl_meets (fun t d => t.modDish d (fun r => { r with flags := r.flags.without m })) (members ds)
      (nodup_members ds) s (fun t x => modDish_flags_changes t x (·.without m)) ((mem_members ds d).mpr hd)
    have hi : t.isDish d = true := (hst.isDish d).trans (hs.isDish_of_mem hd)
    have ht : t.dish d = s.dish d := hst.dish
    have hu := htu.dish (d := d)
    exact hu.trans (by rw [modDish_dish_same t d _ hi, ht])
  next hd => exact (acked_changes s ds m).dish (by simp [mem_members, hd])

theorem dishAckChangesClearsTheNamedFlags : DishAckChangesClearsTheNamedFlags := by
  intro s tag ds m hs h
  refine ⟨fun hm => ?_, fun hm => ?_⟩
  · exact refuse_answered s _ (fun s => s.ackChanges ds m) 0x07 tag _ h rfl rfl (by simp [State.ackChanges, within, Nat.not_lt.mpr hm])
  · have hs' := hs.taken
    have hdish (d : Nat) := acked_dish hs' ds m d
    have hleft (d : Nat) : (s.taken.acked ds m).dish d = { s.dish d with flags := if inSet ds d then (s.dish d).flags.without m else (s.dish d).flags } := by
      rw [hdish]; split <;> rfl
    have hl := acked_changes s.taken ds m
    refine answers_of_changes (owner := fun s => s.ackChanges ds m) _ (s.taken.acked ds m) h rfl rfl ?_ hl ?_ ?_
    · have hw : within m 5 = true := by simpa [within] using hm
      have hnum : (s.taken.acked ds m).dishNumbers = allDishes := hl.dishNumbers.trans hs'.dishNumbers
      unfold State.ackChanges
      simp only [hw, Bool.not_true, Bool.false_eq_true, if_false]
      show (s.taken.acked ds m).answer (.flags ((s.taken.acked ds m).flagged (s.taken.acked ds m).dishNumbers)) = _
      rw [hnum]
      refine congrArg (fun l => (s.taken.acked ds m).answer (.flags l)) ?_
      simp only [State.flagged, hleft, ChangeFlags.isEmpty]
      rfl
    · rintro q ⟨d, -, k, rfl⟩
      simp [Part.within, Part.block]
    · intro o ho
      obtain ⟨h1, h2, h3⟩ := hl.supervision
      refine ⟨hleft, ⟨fun d hd => ?_, h1, h2, h3⟩, ?_⟩
      · have : inSet ds d = false := by simpa [mem_members] using hd
        exact (hleft d).trans (by simp [this])
      · exact ho.trans (by rw [acked_notices, taken_oli, leave_notices])

end Sys2Proof.Machine

open Sys2Proof.Machine in
/-- Settles O12: DISH_STATUS reads, and DISH_ACK_CHANGES is a walk that meets each dish of the set once. -/
theorem dishStatusAndAckChanges : Obligations.DishStatusAndAckChanges := by
  unfold Obligations.DishStatusAndAckChanges
  exact ⟨dishStatusReportsEachDishInOrder, dishAckChangesClearsTheNamedFlags⟩

end

section
-- One declaration at a time: the check bounds memory, and every thread in flight takes its stack from it.
set_option Elab.async false

/-! O13, O14, O16: the requests DISH_STOP, DISH_REHOME and DISH_ASSIGN. -/

namespace Sys2Proof.Machine
open Sys2Proof.Claims

/-! ## The blocks of the families of parts -/

theorem within_stopping {bs : List Block} {d : Nat} {q : Part} (hq : q ∈ stopping d) (h1 : .dsv ∈ bs := by simp)
    (h2 : .pbc ∈ bs := by simp) (h3 : .fbu ∈ bs := by simp) : q.within bs := by
  rcases hq with rfl | rfl | rfl | rfl | rfl | rfl <;> simp [Part.within, Part.block, h1, h2, h3]

theorem within_closing {bs : List Block} {q : Part} (hq : q ∈ closing) (h1 : .sls ∈ bs := by simp) (h2 : .act ∈ bs := by simp)
    (h3 : .znc ∈ bs := by simp) : q.within bs := by
  rcases hq with (rfl | rfl) | ⟨z, rfl⟩ <;> simp [Part.within, Part.block, h1, h2, h3]

theorem within_accounting {bs : List Block} {q : Part} (hq : q ∈ accounting) (h1 : .fbu ∈ bs := by simp) (h2 : .act ∈ bs := by simp) :
    q.within bs := by
  rcases hq with rfl | rfl | rfl | rfl <;> simp [Part.within, Part.block, h1, h2]

/-! ## The stop order on one dish (R20) -/

/-- The record that a stop order leaves (R20). -/
def Dish.stopped (r : Dish) (now : Nat) : Dish :=
  { r with state := .stopping, timer := some { kind := .stop, due := now + 30000 }, claim := none,
           task := if r.claim = none then r.task else none, slewTimeout := if r.claim = none then r.slewTimeout else none,
           acceptedSeq := if r.claim = none then r.acceptedSeq else none }

theorem stoppable_iff (r : Dish) : r.stoppable = true ↔ StopActs r := by
  have admitted : r.isAdmitted = true ↔ r.claim.map (·.standing) = some .admitted := by
    unfold Dish.isAdmitted
    cases r.claim with
    | none => simp
    | some c => simp
  cases hs : r.state <;> simp [Dish.stoppable, StopActs, hs, admitted]

theorem not_stopActs_of_stopping {r : Dish} (h : r.state = .stopping) : ¬ StopActs r := by
  simp [StopActs, h]

theorem isDish_of_state {s : State} {d : Nat} (h : (s.dish d).state ≠ .absent) : s.isDish d = true := by
  by_contra hd
  exact h (by rw [dish_of_not_isDish s d (by simpa using hd)]; rfl)

theorem stopActs_isDish {s : State} {d : Nat} (h : StopActs (s.dish d)) : s.isDish d = true := by
  apply isDish_of_state
  rintro ha
  simp [StopActs, ha] at h

theorem stopOrder_of_not {s : State} {d : Nat} (o : StopOutcome) (h : ¬ StopActs (s.dish d)) : s.stopOrder d o = s := by
  unfold State.stopOrder
  rw [if_neg (by rwa [stoppable_iff])]

theorem stopOrder_dish {s : State} {d : Nat} (o : StopOutcome) (h : StopActs (s.dish d)) :
    (s.stopOrder d o).dish d = (s.dish d).stopped s.now := by
  have hd : (s.closeClaim d o.host o.wave).isDish d = true := ((closeClaim_changes s d o.host o.wave).isDish d).trans (stopActs_isDish h)
  unfold State.stopOrder
  rw [if_pos ((stoppable_iff _).mpr h)]
  simp only
  rw [(orderStop_changes _ d).dish, modDish_dish_same _ d _ hd, closeClaim_dish]
  split
  next hc => simp [Dish.stopped, hc]
  next hc => simp [Dish.stopped, Dish.dropClaim, hc]

theorem orderStop_slots (s : State) (d : Nat) (hs : thas s.pbc.slots d = true) :
    (s.orderStop d).slots d = (s.slots d).removeMove.placeStop s.moment := modSlots_slots_same s d _ hs

theorem stopOrder_slots {s : State} {d : Nat} (o : StopOutcome) (h : StopActs (s.dish d)) (hs : thas s.pbc.slots d = true) :
    (s.stopOrder d o).slots d = (s.slots d).removeMove.placeStop s.moment := by
  have hc := closeClaim_changes s d o.host o.wave
  unfold State.stopOrder
  rw [if_pos ((stoppable_iff _).mpr h)]
  refine (orderStop_slots _ d ((hc.hasSlots d).trans hs :)).trans ?_
  show ((s.closeClaim d o.host o.wave).slots d).removeMove.placeStop (s.closeClaim d o.host o.wave).moment = _
  rw [hc.slots, hc.moment]

theorem placeStop_ordered (sl : Slots) (m : Nat) :
    (sl.placeStop m).stopPending.isSome = true ∨ (sl.placeStop m).stopFlight.isSome = true := by
  unfold Slots.placeStop
  split
  · exact .inl rfl
  next h =>
    cases hp : sl.stopPending with
    | some x => simp
    | none => cases hf : sl.stopFlight with
      | some y => simp
      | none => simp [hp, hf] at h

/-- What a STOP ordered in place of the motion command leaves of the slots. -/
theorem stopped_slots (sl : Slots) (m : Nat) : (sl.removeMove.placeStop m).movePending = none
    ∧ ((sl.removeMove.placeStop m).stopPending.isSome = true ∨ (sl.removeMove.placeStop m).stopFlight.isSome = true)
    ∧ (sl.removeMove.placeStop m).heatPending = sl.heatPending := by
  obtain ⟨hm, -⟩ : SlotPart.Same _ _ .move := placeStop_same sl.removeMove m .move (by simp)
  obtain ⟨hh, -⟩ : SlotPart.Same _ _ .heat := placeStop_same sl.removeMove m .heat (by simp)
  exact ⟨hm, placeStop_ordered _ m, hh⟩

/-! ## DISH_STOP (R22) -/

/-- The result that R22 reports for a dish. -/
def Dish.stopResult (r : Dish) : StopResult :=
  if r.state == .stopping then .alreadyStopping else if r.stoppable then .stopOrdered else .notMoving

theorem hostStop_result (s : State) (d : Nat) : (s.hostStop d).2 = (s.dish d).stopResult := by
  unfold State.hostStop Dish.stopResult
  simp only
  by_cases h : StopActs (s.dish d)
  · simp [stopOrder_dish .stoppedByHost h, (stoppable_iff _).mpr h, Dish.stopped]
  · have hn : (s.dish d).stoppable = false := by simpa [← stoppable_iff] using h
    by_cases hs : (s.dish d).state = .stopping <;> simp [stopOrder_of_not .stoppedByHost h, hn, hs]

theorem hostStops_eq (s : State) (ds : List Nat) : (s.hostStops ds).1 = ds.foldl (fun t d => t.stopOrder d .stoppedByHost) s := by
  induction ds generalizing s with
  | nil => rfl
  | cons d ds ih => exact ih _

theorem hostStops_dishes (s : State) (ds : List Nat) : (s.hostStops ds).2.map (·.1) = ds := by
  induction ds generalizing s with
  | nil => rfl
  | cons d ds ih => exact congrArg (d :: ·) (ih _)

theorem hostStops_results (s : State) (ds : List Nat) (hn : ds.Nodup) {d : Nat} {r : StopResult} (h : (d, r) ∈ (s.hostStops ds).2) :
    r = (s.dish d).stopResult := by
  induction ds generalizing s with
  | nil => simp [State.hostStops] at h
  | cons e ds ih =>
    obtain ⟨he, hds⟩ := List.nodup_cons.mp hn
    rcases List.mem_cons.mp (show (d, r) ∈ (e, (s.hostStop e).2) :: ((s.hostStop e).1.hostStops ds).2 from h) with heq | hm
    · obtain ⟨rfl, rfl⟩ := Prod.mk.inj heq
      exact hostStop_result s d
    · have hd : d ∈ ds := by
        have := List.mem_map_of_mem (f := (·.1)) hm
        rwa [hostStops_dishes] at this
      have hne : d ≠ e := fun h' => he (h' ▸ hd)
      rw [ih _ hds hm, show (s.hostStop e).1 = s.stopOrder e .stoppedByHost from rfl,
        (stopOrder_changes s e .stoppedByHost).dish (d := d) (by simp [hne])]

theorem stopResult_iff (r : Dish) :
    (r.stopResult = .alreadyStopping ↔ r.state = .stopping) ∧ (r.stopResult = .stopOrdered ↔ StopActs r) := by
  unfold Dish.stopResult
  by_cases h : r.state = .stopping
  · simp [h, not_stopActs_of_stopping h]
  · by_cases ha : StopActs r
    · simp [h, ha, (stoppable_iff r).mpr ha]
    · have hn : r.stoppable = false := by simpa [← stoppable_iff] using ha
      simp [h, ha, hn]

/-- The walk of DISH_STOP. -/
def State.stoppedAll (s : State) (ds : List Nat) : State := ds.foldl (fun t d => t.stopOrder d .stoppedByHost) s

theorem stoppedAll_changes (s : State) (ds : List Nat) :
    Changes {p | ∃ d ∈ ds, p ∈ stopping d ∪ closing} s (s.stoppedAll ds) :=
  Changes.foldl _ ds s fun t d hd => (stopOrder_changes t d _).mono fun _ hp => ⟨d, hd, hp⟩

/-- A dish of the walk meets its stop order as it stood at the start. -/
theorem stoppedAll_of_mem {s : State} (hs : Shape s) {ds : List Nat} (hn : ds.Nodup) {d : Nat} (hd : d ∈ ds) :
    (StopActs (s.dish d) → (s.stoppedAll ds).dish d = (s.dish d).stopped s.now
      ∧ (s.stoppedAll ds).slots d = (s.slots d).removeMove.placeStop s.moment)
    ∧ (¬ StopActs (s.dish d) → (s.stoppedAll ds).dish d = s.dish d ∧ (s.stoppedAll ds).slots d = s.slots d) := by
  obtain ⟨t, hst, htu⟩ := foldl_meets (fun t d => t.stopOrder d .stoppedByHost) ds hn s
    (fun t x => stopOrder_changes t x .stoppedByHost) hd
  have ht : t.dish d = s.dish d := hst.dish (by simp +contextual)
  have htl : t.slots d = s.slots d := hst.slots (by simp +contextual)
  have hu : (s.stoppedAll ds).dish d = (t.stopOrder d .stoppedByHost).dish d := htu.dish (by simp +contextual)
  have hul : (s.stoppedAll ds).slots d = (t.stopOrder d .stoppedByHost).slots d := htu.slots (by simp +contextual)
  rw [hu, hul]
  refine ⟨fun h => ?_, fun h => ?_⟩
  · have h' : StopActs (t.dish d) := ht ▸ h
    have hsl : thas t.pbc.slots d = true := (hst.hasSlots d).trans (hs.hasSlots_of_isDish (stopActs_isDish h))
    rw [stopOrder_dish _ h', stopOrder_slots _ h' hsl, ht, htl, hst.now, hst.moment]
    exact ⟨rfl, rfl⟩
  · rw [stopOrder_of_not _ (ht ▸ h), ht, htl]
    exact ⟨rfl, rfl⟩

/-! ## DISH_REHOME (R13) -/

theorem driveFaulted_iff (r : Dish) : r.driveFaulted = true ↔ ∃ st, r.last = some st ∧ st.fault ≠ 0 := by
  unfold Dish.driveFaulted
  split <;> simp_all

/-! ## DISH_ASSIGN (R3) -/

/-- What the assignment of one dish may change. -/
def assigning (d : Nat) : Set Part := {.dish .assignment d, .dish .claim d, .passDue} ∪ accounting

/-- The record with its new assignment, before the accounts and the stow task follow it. -/
def State.reassigned (s : State) (feeder : Option Feeder) (zone : Option Nat) (d : Nat) : State :=
  s.modDish d (fun r => { r with feeder := feeder.getD r.feeder, zone := zone.getD r.zone })

theorem reassigned_changes (s : State) (feeder : Option Feeder) (zone : Option Nat) (d : Nat) :
    Changes {.dish .assignment d} s (s.reassigned feeder zone d) :=
  modDish_changes s d _ fun p hp => by cases p <;> simp_all [DishPart.Same]

theorem assignDish_tail (s : State) (feeder : Option Feeder) (zone : Option Nat) (d : Nat) :
    Changes ({.dish .claim d, .passDue} ∪ accounting) (s.reassigned feeder zone d) (s.assignDish feeder zone d) := by
  let t := s.reassigned feeder zone d
  have settled : Changes ({.dish .claim d, .passDue} ∪ accounting) t
      (if (t.dish d).feeder = (s.dish d).feeder then t else (t.settle (s.dish d).feeder).settle (t.dish d).feeder) :=
    Changes.ite (fun _ => Changes.refl _ t) (fun _ => ((settle_changes t _).trans (settle_changes _ _)).mono Set.subset_union_right)
  unfold State.assignDish
  exact Changes.ite (fun _ => settled.trans ((gain_changes _ d).mono Set.subset_union_left)) (fun _ => settled)

theorem assignDish_changes (s : State) (feeder : Option Feeder) (zone : Option Nat) (d : Nat) :
    Changes (assigning d) s (s.assignDish feeder zone d) :=
  ((reassigned_changes s feeder zone d).andThen (assignDish_tail s feeder zone d)).mono fun p hp => by
    simp [assigning] at hp ⊢
    tauto

theorem assignDish_assignment (s : State) (feeder : Option Feeder) (zone : Option Nat) (d : Nat) (hd : s.isDish d = true) :
    ((s.assignDish feeder zone d).dish d).feeder = feeder.getD (s.dish d).feeder
      ∧ ((s.assignDish feeder zone d).dish d).zone = zone.getD (s.dish d).zone := by
  obtain ⟨hf, hz⟩ := (assignDish_tail s feeder zone d).assignment (d := d)
  rw [hf, hz, State.reassigned, modDish_dish_same s d _ hd]
  exact ⟨rfl, rfl⟩

theorem feederOf_isNone (b : Nat) : (feederOf b).isNone = true ↔ 3 < b := by
  match b with
  | 0 | 1 | 2 | 3 => simp [feederOf]
  | b + 4 => simp [feederOf]

theorem feederOf_code {b : Nat} {f : Feeder} (h : feederOf b = some f) : f.code = b := by
  match b with
  | 0 | 1 | 2 | 3 => simp [feederOf] at h; subst h; rfl
  | b + 4 => simp [feederOf] at h

/-- The feeder and the zone of a DISH_ASSIGN lie in their ranges. -/
def AssignFits (f z : Option Nat) : Prop := (∀ b, f = some b → b ≤ 3) ∧ (∀ n, z = some n → 1 ≤ n ∧ n ≤ 8)

theorem assign_of_not_fits (s : State) {ds : DishSet} (h0 : ds ≠ 0) {f z : Option Nat} (hf : ¬ AssignFits f z) :
    s.assign ds f z = s.refuse .outOfRange := by
  have hb (b : Nat) : (feederOf b).isNone = decide (3 < b) := by
    rw [Bool.eq_iff_iff, feederOf_isNone]; simp
  unfold State.assign
  rw [if_neg h0, if_pos]
  cases f <;> cases z <;> simp_all [AssignFits, inRange] <;> omega

theorem assign_of_fits (s : State) {ds : DishSet} (h0 : ds ≠ 0) {f z : Option Nat} (hf : AssignFits f z) :
    s.assign ds f z = if (members ds).any (fun d => (s.dish d).isBusy) then s.refuse .busy
      else ((members ds).foldl (fun t d => t.assignDish (f.bind feederOf) z d) s).trigger.answer .accepted := by
  have hb (b : Nat) : (feederOf b).isNone = decide (3 < b) := by
    rw [Bool.eq_iff_iff, feederOf_isNone]; simp
  unfold State.assign
  rw [if_neg h0, if_neg]
  cases f <;> cases z <;> simp_all [AssignFits, inRange]

/-- The walk of DISH_ASSIGN. -/
def State.assignedAll (s : State) (feeder : Option Feeder) (zone : Option Nat) (ds : DishSet) : State :=
  (members ds).foldl (fun t d => t.assignDish feeder zone d) s

theorem assignedAll_changes (s : State) (feeder : Option Feeder) (zone : Option Nat) (ds : DishSet) :
    Changes {p | ∃ d ∈ members ds, p ∈ assigning d} s (s.assignedAll feeder zone ds) :=
  Changes.foldl _ _ s fun t d hd => (assignDish_changes t feeder zone d).mono fun _ hp => ⟨d, hd, hp⟩

theorem assignedAll_assignment {s : State} (hs : Shape s) (feeder : Option Feeder) (zone : Option Nat) (ds : DishSet) {d : Nat}
    (hd : inSet ds d = true) : ((s.assignedAll feeder zone ds).dish d).feeder = feeder.getD (s.dish d).feeder
      ∧ ((s.assignedAll feeder zone ds).dish d).zone = zone.getD (s.dish d).zone := by
  obtain ⟨t, hst, htu⟩ := foldl_meets (fun t d => t.assignDish feeder zone d) (members ds) (nodup_members ds) s
    (fun t x => assignDish_changes t feeder zone x) ((mem_members ds d).mpr hd)
  have ht : t.dish d = s.dish d := hst.dish (by simp +contextual [assigning])
  have hi : t.isDish d = true := (hst.isDish d).trans (hs.isDish_of_mem hd)
  obtain ⟨hf, hz⟩ := assignDish_assignment t feeder zone d hi
  obtain ⟨hf', hz'⟩ := htu.assignment (d := d) (by simp +contextual [assigning])
  exact ⟨hf'.trans (hf.trans (by rw [ht])), hz'.trans (hz.trans (by rw [ht]))⟩

end Sys2Proof.Machine

open Sys2Proof.Machine Sys2Proof.Claims in
/-- Settles O13: the stop orders are a walk that meets each dish of the set once (`stoppedAll_of_mem`). -/
theorem dishStopStopsTheMovingDishesOfTheSet : Obligations.DishStopStopsTheMovingDishesOfTheSet := by
  unfold Obligations.DishStopStopsTheMovingDishesOfTheSet
  intro s tag ds hs h
  refine ⟨fun h0 => ?_, fun h0 => ⟨(s.taken.hostStops (members ds)).2, hostStops_dishes _ _, fun d r hr => ?_, ?_⟩⟩
  · exact refuse_answered s _ (fun s => s.dishStopOf ds) 0x05 tag _ h rfl rfl (by simp [State.dishStopOf, h0])
  · rw [hostStops_results s.taken _ (nodup_members ds) hr]
    exact stopResult_iff _
  · have hl := stoppedAll_changes s.taken (members ds)
    have hfb : (s.taken.stoppedAll (members ds)).fbu.feeders = s.fbu.feeders := hl.feeders
    refine answers_of_changes (owner := fun s => s.dishStopOf ds) _ (s.taken.stoppedAll (members ds)) h rfl rfl ?_ hl ?_ ?_
    · simp only [State.dishStopOf, if_neg h0, hostStops_eq]
      rfl
    · rintro q ⟨d, -, hq | hq⟩
      · exact within_stopping hq
      · exact within_closing hq
    · intro o _
      refine ⟨hfb, ⟨fun d hd => hl.dish fun p hp => ?_, hl.supervision⟩, hl.bus, fun d hd => hl.slots fun p hp => ?_, fun d hd => ?_⟩
      · obtain ⟨e, he, hp⟩ := hp
        have : d = e := by cases p <;> simp_all
        exact hd (this ▸ he)
      · obtain ⟨e, he, hp⟩ := hp
        have : d = e := by cases p <;> simp_all
        exact not_mem_members hd (this ▸ he)
      · obtain ⟨ha, hna⟩ := stoppedAll_of_mem hs.taken (nodup_members ds) ((mem_members ds d).mpr hd)
        refine ⟨fun hact => ?_, hna⟩
        obtain ⟨hdish, hslots⟩ := ha hact
        refine ⟨hdish, ?_⟩
        show (State.slots _ d).movePending = none ∧ _
        have := stopped_slots (s.slots d) s.taken.moment
        rw [← show s.taken.slots d = s.slots d from rfl, ← hslots] at this
        exact this

open Sys2Proof.Machine in
/-- Settles O14: the checks of R13 in their order, and the write of the one record. -/
theorem dishRehomeSettlesAFaultedDish : Obligations.DishRehomeSettlesAFaultedDish := by
  unfold Obligations.DishRehomeSettlesAFaultedDish
  intro s tag d hs h
  have hdish : s.taken.isDish d = true ↔ 1 ≤ d ∧ d ≤ 48 := hs.taken.isDish d
  have refused (why : Reason) (ho : s.taken.rehome d = s.taken.refuse why) :=
    refuse_answered s _ (fun s => s.rehome d) 0x06 tag why h rfl rfl ho
  refine ⟨fun hk => refused _ ?_, fun hk hf => refused _ ?_, fun hk hf hc => refused _ ?_, fun hk hf hc hr => refused _ ?_,
    fun hk hf hc hr => ?_⟩
  · simp [State.rehome, show s.taken.isDish d = false by simpa [← hdish] using hk]
  · simp [State.rehome, hdish.mpr hk, hf]
  · simp [State.rehome, hdish.mpr hk, hf, (driveFaulted_iff _).mpr hc]
  · have hc' : (s.dish d).driveFaulted = false := by simpa [← driveFaulted_iff] using hc
    simp [State.rehome, hdish.mpr hk, hf, hc', hr]
  · have hc' : (s.dish d).driveFaulted = false := by simpa [← driveFaulted_iff] using hc
    have hl : Changes {.dish .supFault d, .dish .state d, .dish .good d} s.taken
        (s.taken.modDish d (fun r => { r with supFault := .clear, state := .settling, good := 0 })) :=
      modDish_changes _ d _ fun p hp => by cases p <;> simp_all [DishPart.Same]
    refine answers_of_changes (owner := fun s => s.rehome d) _ _ h rfl rfl ?_ hl (by simp [Part.within, Part.block]) fun o ho => ?_
    · simp [State.rehome, hdish.mpr hk, hf, hc', hr]
    · refine ⟨modDish_dish_same _ d _ (hdish.mpr hk), ⟨fun e he => modDish_dish_other _ d e _ (by simpa using he), rfl, rfl, rfl⟩, ?_⟩
      exact ho.trans (leave_notices _)

open Sys2Proof.Machine in
/-- Settles O16: the checks of R3 in their order, and the walk over the set (`assignedAll_assignment`). -/
theorem dishAssignMovesTheWholeSetOrNone : Obligations.DishAssignMovesTheWholeSetOrNone := by
  unfold Obligations.DishAssignMovesTheWholeSetOrNone
  intro s tag ds f z hs h
  have refused (why : Reason) (ho : s.taken.assign ds f z = s.taken.refuse why) :=
    refuse_answered s _ (fun s => s.assign ds f z) 0x09 tag why h rfl rfl ho
  have hany : ((members ds).any fun d => (s.dish d).isBusy) = true ↔
      ∃ d, inSet ds d = true ∧ ((s.dish d).reservation.isSome = true ∨ (s.dish d).claim.isSome = true) := by
    simp [List.any_eq_true, mem_members, Dish.isBusy]
  refine ⟨fun h0 => refused _ ?_, fun h0 hf => refused _ ?_, fun h0 hf hb => refused _ ?_, fun h0 hf hb => ?_⟩
  · simp [State.assign, h0]
  · exact assign_of_not_fits _ h0 hf
  · exact (assign_of_fits _ h0 hf).trans (if_pos (hany.mpr hb))
  · have hl := (assignedAll_changes s.taken (f.bind feederOf) z ds).andThen (trigger_changes _)
    refine answers_of_changes (owner := fun s => s.assign ds f z) _ _ h rfl rfl ?_ hl ?_ fun o _ => ?_
    · exact (assign_of_fits _ h0 hf).trans (if_neg (hany.not.mpr hb))
    · rintro q (⟨d, -, hq | hq⟩ | rfl)
      · rcases hq with rfl | rfl | rfl <;> simp [Part.within, Part.block]
      · exact within_accounting hq
      · simp [Part.within, Part.block]
    · refine ⟨rfl, fun d hd => hl.dish fun p hp => ?_, fun d hd => ?_⟩
      · obtain ⟨e, he, hp⟩ := hp.resolve_right (by simp)
        have : d = e := by cases p <;> simp_all [assigning]
        exact not_mem_members hd (this ▸ he)
      · obtain ⟨hfd, hz⟩ := assignedAll_assignment hs.taken (f.bind feederOf) z ds hd
        refine ⟨fun b hfb => ?_, fun hfn => ?_, hz, hl.state (by simp [assigning]), hl.profile (by simp [assigning]), ?_⟩
        · obtain ⟨g, hg⟩ := Option.ne_none_iff_exists'.mp (by
            have := (feederOf_isNone b).not.mpr (by have := hf.1 b hfb; omega)
            simpa using this : feederOf b ≠ none)
          have : (State.dish _ d).feeder = g := hfd.trans (by simp [hfb, hg])
          exact (congrArg Feeder.code this).trans (feederOf_code hg)
        · exact hfd.trans (by simp [hfn])
        · have hr : (s.dish d).reservation = none := by
            by_contra hr
            exact hb ⟨d, hd, .inl (Option.isSome_iff_ne_none.mpr hr)⟩
          exact (hl.reservation (d := d) (by simp [assigning])).trans hr

end

section
-- One declaration at a time: the check bounds memory, and every thread in flight takes its stack from it.
set_option Elab.async false

/-! O15: the request DISH_SET_PROFILE. -/

namespace Sys2Proof.Machine
open Sys2Proof.Claims

/-! ## Clamped fields (R1, R2) -/

theorem mem_clampField (name y : ClampField) (lo hi : Nat) (x : Option Nat) :
    y ∈ (clampField name lo hi x).2 ↔ y = name ∧ ∃ v, x = some v ∧ (v < lo ∨ hi < v) := by
  cases x with
  | none => simp [clampField]
  | some v =>
    by_cases h : lo ≤ v ∧ v ≤ hi
    · have h' : ¬ (v < lo ∨ hi < v) := by omega
      simp [clampField, inRange, h, h']
    · have h' : v < lo ∨ hi < v := by omega
      have hr : inRange lo hi v = false := by
        simp only [inRange, Bool.and_eq_false_iff, decide_eq_false_iff_not]
        omega
      simp [clampField, hr, h']

theorem clampField_getD (name : ClampField) (lo hi : Nat) (x : Option Nat) (old : Nat) :
    (clampField name lo hi x).1.getD old = written lo hi x old := by
  cases x <;> rfl

theorem clampField_isSome (name : ClampField) (lo hi : Nat) (x : Option Nat) : (clampField name lo hi x).1.isSome = x.isSome := by
  cases x <;> rfl

theorem mem_clampedShed (y : ClampField) (x : Option Int) :
    y ∈ (clampProfile { shedEl := x }).2 ↔ y = .shedEl ∧ ∃ v, x = some v ∧ (v < 5000 ∨ 90000 < v) := by
  cases x with
  | none => simp [clampProfile, clampField]
  | some v =>
    by_cases h : 5000 ≤ v ∧ v ≤ 90000
    · have h' : ¬ (v < 5000 ∨ 90000 < v) := by omega
      simp [clampProfile, clampField, elOk, h, h']
    · have h' : v < 5000 ∨ 90000 < v := by omega
      have hr : elOk v = false := by
        simp only [elOk, Bool.and_eq_false_iff, decide_eq_false_iff_not]
        omega
      simp [clampProfile, clampField, hr, h']

theorem clampProfile_fields (e : ProfileEdit) : (clampProfile e).2 =
    (clampField .bSlew 0 30000 e.bSlew).2 ++ (clampField .bHome 0 30000 e.bHome).2 ++ (clampField .c 0 255 e.c).2
      ++ (clampField .dmax 1000 60000 e.dmax).2 ++ (clampField .h 0 6000 e.h).2 ++ (clampField .vmaxAz 1 10000 e.vmaxAz).2
      ++ (clampField .vmaxEl 1 10000 e.vmaxEl).2 ++ (clampField .aAz 1 5000 e.aAz).2 ++ (clampField .aEl 1 5000 e.aEl).2
      ++ (clampProfile { shedEl := e.shedEl }).2 := rfl

/-- The list of clamped fields holds exactly those outside their ranges. -/
theorem mem_clamped (p : ProfileEdit) (v : SupervisionEdit) (x : ClampField) :
    x ∈ (clampProfile p).2 ++ (clampSupervision v).2 ↔ OutsideRange p v x := by
  rw [clampProfile_fields]
  simp only [clampSupervision, List.mem_append, mem_clampField, mem_clampedShed]
  cases x <;> simp [OutsideRange]

theorem pricesProfile_clamped (p : ProfileEdit) : pricesProfile (clampProfile p).1 = pricesProfile p := by
  simp [pricesProfile, clampProfile, clampField_isSome]

/-! ## The walks -/

/-- The fields that a profile edit writes beside the two enables. -/
theorem writeProfile_changes (s : State) (e : ProfileEdit) (d : Nat) :
    Changes ({.dish .profile d} ∪ accounting) s (s.writeProfile e d) := by
  have h : Changes {.dish .profile d} s (s.modDish d (fun r => { r with profile := applyProfile e r.profile })) :=
    modDish_changes s d _ fun p hp => by cases p <;> simp_all [DishPart.Same]
  exact h.andThen (settle_changes _ _)

theorem writeProfile_profile (s : State) (e : ProfileEdit) (d : Nat) (hd : s.isDish d = true) :
    ((s.writeProfile e d).dish d).profile = applyProfile e (s.dish d).profile := by
  unfold State.writeProfile
  rw [(settle_changes _ _).profile, modDish_dish_same s d _ hd]

/-- A profile with the carried enables. -/
def Profile.withEnables (p : Profile) (heat shed : Option Bool) : Profile :=
  { p with heatEnable := heat.getD p.heatEnable, shedEnable := shed.getD p.shedEnable }

/-- What a write of the enables of one dish changes beside its profile. -/
def enabling (d : Nat) : Set Part := {.dish .claim d, .heater d, .passDue} ∪ closing

theorem writeEnablesOn_tail (s : State) (heat shed : Option Bool) (d : Nat) :
    Changes (enabling d) (s.modDish d (fun r => { r with
      profile.heatEnable := heat.getD (s.dish d).profile.heatEnable, profile.shedEnable := shed.getD (s.dish d).profile.shedEnable }))
      (s.writeEnablesOn heat shed d) := by
  have gated (t : State) : Changes (enabling d) t (t.gateHeater d) := (gateHeater_changes t d).mono (by simp [enabling])
  have dropped (t : State) : Changes (enabling d) t (t.dropWaitingShed d) :=
    Changes.ite (fun _ => (closeClaim_changes t d _ _).mono (Set.union_subset_union_left _ (by simp [Set.insert_subset_iff])))
      (fun _ => Changes.refl _ t)
  exact Changes.ite (fun _ => (gated _).trans (dropped _)) (fun _ => gated _)

theorem writeEnablesOn_changes (s : State) (heat shed : Option Bool) (d : Nat) :
    Changes ({.dish .profile d} ∪ enabling d) s (s.writeEnablesOn heat shed d) := by
  refine Changes.andThen (modDish_changes s d _ fun p hp => ?_) (writeEnablesOn_tail s heat shed d)
  cases p <;> simp_all [DishPart.Same]

theorem writeEnablesOn_profile (s : State) (heat shed : Option Bool) (d : Nat) (hd : s.isDish d = true) :
    ((s.writeEnablesOn heat shed d).dish d).profile = (s.dish d).profile.withEnables heat shed := by
  rw [(writeEnablesOn_tail s heat shed d).profile (by simp [enabling]), modDish_dish_same s d _ hd]
  rfl

/-- The state after the walks of DISH_SET_PROFILE over the set. -/
def State.profiled (s : State) (ds : DishSet) (p : ProfileEdit) (v : SupervisionEdit) : State :=
  (((members ds).foldl (fun t d => t.writeProfile p d) (s.writeSupervision v)).writeEnables p.heatEnable p.shedEnable (members ds)).1

/-- What the walks change: profiles and claims of the dishes of the set, heaters, accounts, and what a dropped SHED task touches. -/
def profiling (ds : DishSet) : Set Part :=
  {p | ∃ d ∈ members ds, p = .dish .profile d ∨ p = .dish .claim d} ∪ closing ∪ heating

theorem writeEnables_changes (s : State) (heat shed : Option Bool) (ds : DishSet) :
    Changes (profiling ds) s (s.writeEnables heat shed (members ds)).1 := by
  refine Changes.trans (Changes.foldl _ _ s fun t d hd => (writeEnablesOn_changes t heat shed d).mono ?_)
    (Changes.foldl _ _ _ fun t f _ => (allocateOn_heating t f).mono Set.subset_union_right)
  rintro p (rfl | ((rfl | rfl | rfl) | hp))
  · exact .inl (.inl ⟨d, hd, .inl rfl⟩)
  · exact .inl (.inl ⟨d, hd, .inr rfl⟩)
  · exact .inr (heater_mem_heating d)
  · exact .inr (accounting_subset_heating (by simp))
  · exact .inl (.inr hp)

theorem profiled_changes (s : State) (ds : DishSet) (p : ProfileEdit) (v : SupervisionEdit) :
    Changes (profiling ds) (s.writeSupervision v) (s.profiled ds p v) := by
  refine Changes.trans (Changes.foldl _ _ _ fun t d hd => (writeProfile_changes t p d).mono ?_) (writeEnables_changes _ _ _ ds)
  rintro q (rfl | hq)
  · exact .inl (.inl ⟨d, hd, .inl rfl⟩)
  · exact .inr (accounting_subset_heating hq)

/-- The supervision settings are a part of their own, and the reply window is of the bus. -/
theorem writeSupervision_changes (s : State) (v : SupervisionEdit) : Changes {.supervision, .bus} s (s.writeSupervision v) := by
  refine ⟨fun p hp => ?_, rfl, fun _ hk => hk, id⟩
  cases p with
  | supervision => exact absurd (by simp) hp
  | bus => exact absurd (by simp) hp
  | dish p d => exact DishPart.Same.refl _ p
  | slots p d => exact SlotPart.Same.refl _ p
  | _ => simp [Part.Same, State.zone, State.heater, State.counterAt, State.writeSupervision]

theorem profiled_profile {s : State} (hs : Shape s) (ds : DishSet) (p : ProfileEdit) (v : SupervisionEdit) {d : Nat}
    (hd : inSet ds d = true) : ((s.profiled ds p v).dish d).profile
      = (applyProfile p (s.dish d).profile).withEnables p.heatEnable p.shedEnable := by
  have hm := (mem_members ds d).mpr hd
  have hi : s.isDish d = true := hs.isDish_of_mem hd
  let u := (members ds).foldl (fun t d => t.writeProfile p d) (s.writeSupervision v)
  let w := (members ds).foldl (fun t d => t.writeEnablesOn p.heatEnable p.shedEnable d) u
  have hsu : Changes ({.supervision, .bus} ∪ profiling ds) s u :=
    (writeSupervision_changes s v).andThen (Changes.foldl _ _ _ fun t e he => (writeProfile_changes t p e).mono (by
      rintro q (rfl | hq)
      · exact .inl (.inl ⟨e, he, .inl rfl⟩)
      · exact .inr (accounting_subset_heating hq)))
  have hu : (u.dish d).profile = applyProfile p (s.dish d).profile := by
    obtain ⟨t, hst, htu⟩ := foldl_meets (fun t d => t.writeProfile p d) (members ds) (nodup_members ds) (s.writeSupervision v)
      (fun t x => writeProfile_changes t p x) hm
    have ht : (t.dish d).profile = (s.dish d).profile := hst.profile (by simp +contextual)
    have hut : (u.dish d).profile = ((t.writeProfile p d).dish d).profile := htu.profile (by simp +contextual)
    rw [hut, writeProfile_profile t p d ((hst.isDish d).trans hi), ht]
  have hw : (w.dish d).profile = (u.dish d).profile.withEnables p.heatEnable p.shedEnable := by
    obtain ⟨t, hst, htu⟩ := foldl_meets (fun t d => t.writeEnablesOn p.heatEnable p.shedEnable d) (members ds) (nodup_members ds) u
      (fun t x => writeEnablesOn_changes t p.heatEnable p.shedEnable x) hm
    have ht : (t.dish d).profile = (u.dish d).profile := hst.profile (by simp +contextual [enabling])
    have hwt : (w.dish d).profile = ((t.writeEnablesOn p.heatEnable p.shedEnable d).dish d).profile :=
      htu.profile (by simp +contextual [enabling])
    rw [hwt, writeEnablesOn_profile t _ _ d ((hst.isDish d).trans ((hsu.isDish d).trans hi)), ht]
  have hall : Changes heating w (s.profiled ds p v) := Changes.foldl _ _ _ fun t f _ => allocateOn_heating t f
  exact hall.profile.trans (hw.trans (by rw [hu]))

theorem setProfile_eq {s : State} {ds : DishSet} {p : ProfileEdit} {v : SupervisionEdit} (h : ds ≠ 0 ∨ (p = {} ∧ v ≠ {})) :
    s.setProfile ds p v = (if pricesProfile p && ds != 0 then (s.profiled ds (clampProfile p).1 (clampSupervision v).1).trigger
      else s.profiled ds (clampProfile p).1 (clampSupervision v).1).answer (.clamped ((clampProfile p).2 ++ (clampSupervision v).2)) := by
  have hn : ¬ (ds = 0 && (p != {} || v == {})) = true := by
    rcases h with h | ⟨h1, h2⟩
    · rw [decide_eq_false h]; simp
    · simp [h1, h2]
  unfold State.setProfile
  rw [if_neg hn, ← pricesProfile_clamped p]
  rfl

theorem setProfile_refused {s : State} {ds : DishSet} {p : ProfileEdit} {v : SupervisionEdit} (h0 : ds = 0) (h : p ≠ {} ∨ v = {}) :
    s.setProfile ds p v = s.refuse .emptySet := by
  unfold State.setProfile
  rw [if_pos]
  simpa [h0] using h

/-- The supervision settings and the reply window as they are written (R2). -/
theorem writeSupervision_written (s : State) (v : SupervisionEdit) :
    (s.writeSupervision (clampSupervision v).1).dsv.nSettle = written 2 50 v.nSettle s.dsv.nSettle
      ∧ (s.writeSupervision (clampSupervision v).1).dsv.nMiss = written 2 16 v.nMiss s.dsv.nMiss
      ∧ (s.writeSupervision (clampSupervision v).1).dsv.homeTimeout = written 30 600 v.homeTimeout s.dsv.homeTimeout
      ∧ (s.writeSupervision (clampSupervision v).1).pbc.replyWindow = written 1 20 v.replyWindow s.pbc.replyWindow :=
  ⟨clampField_getD _ _ _ _ _, clampField_getD _ _ _ _ _, clampField_getD _ _ _ _ _, clampField_getD _ _ _ _ _⟩

/-- The frame of DISH_SET_PROFILE with its pass trigger. -/
theorem setProfile_changes (s : State) (ds : DishSet) (p : ProfileEdit) (v : SupervisionEdit) (c : Prop) [Decidable c] :
    Changes (profiling ds) (s.writeSupervision v) (if c then (s.profiled ds p v).trigger else s.profiled ds p v) :=
  Changes.ite (fun _ => (profiled_changes s ds p v).trans ((trigger_changes _).mono (by simp [profiling])))
    (fun _ => profiled_changes s ds p v)

/-- The written profile of a dish of the set (Table 3). -/
theorem applyProfile_clamped (p : ProfileEdit) (x : Profile) :
    (applyProfile (clampProfile p).1 x).withEnables (clampProfile p).1.heatEnable (clampProfile p).1.shedEnable =
      { bSlew := written 0 30000 p.bSlew x.bSlew, bHome := written 0 30000 p.bHome x.bHome, c := written 0 255 p.c x.c,
        dmax := written 1000 60000 p.dmax x.dmax, h := written 0 6000 p.h x.h, vmaxAz := written 1 10000 p.vmaxAz x.vmaxAz,
        vmaxEl := written 1 10000 p.vmaxEl x.vmaxEl, aAz := written 1 5000 p.aAz x.aAz, aEl := written 1 5000 p.aEl x.aEl,
        shedEl := (p.shedEl.map (clampInt 5000 90000)).getD x.shedEl,
        shedEnable := p.shedEnable.getD x.shedEnable, heatEnable := p.heatEnable.getD x.heatEnable } := by
  simp [applyProfile, Profile.withEnables, clampProfile, clampField_getD]

theorem within_profiling {ds : DishSet} {q : Part} (hq : q ∈ profiling ds) :
    q.within [.dsv, .pbc, .znc, .sls, .fbu, .mlc, .act] := by
  rcases hq with (⟨d, -, rfl | rfl⟩ | hq) | (((hq | rfl) | ⟨d, rfl⟩) | ⟨d, rfl⟩)
  · simp [Part.within, Part.block]
  · simp [Part.within, Part.block]
  · exact within_closing hq
  · exact within_accounting hq
  · simp [Part.within, Part.block]
  · simp [Part.within, Part.block]
  · simp [Part.within, Part.block]

end Sys2Proof.Machine

open Sys2Proof.Machine Sys2Proof.Claims in
/-- Settles O15: the settings are written first, then two walks write the dishes of the set, and neither walk touches the settings. -/
theorem dishSetProfileWritesClampedFields : Obligations.DishSetProfileWritesClampedFields := by
  unfold Obligations.DishSetProfileWritesClampedFields
  intro s tag ds p v hs h
  refine ⟨fun h0 hpv => ?_, fun hne => ⟨_, mem_clamped p v, ?_⟩⟩
  · exact refuse_answered s _ (fun s => s.setProfile ds p v) 0x08 tag _ h rfl rfl (setProfile_refused h0 hpv)
  · have hl := setProfile_changes s.taken ds (clampProfile p).1 (clampSupervision v).1 ((pricesProfile p && ds != 0) = true)
    have hall := (writeSupervision_changes s.taken (clampSupervision v).1).andThen hl
    refine answers_of_changes (owner := fun s => s.setProfile ds p v) _ _ h rfl rfl (setProfile_eq hne) hall ?_ fun o _ => ?_
    · rintro q ((rfl | rfl) | hq)
      · simp [Part.within, Part.block]
      · simp [Part.within, Part.block]
      · exact within_profiling hq
    · obtain ⟨hn, hm, ht, hr⟩ := writeSupervision_written s.taken v
      obtain ⟨hn', hm', ht'⟩ := hl.supervision (by simp [profiling])
      refine ⟨hn'.trans hn, hm'.trans hm, ht'.trans ht, ?_, fun h0 hp => ?_, fun d => ?_, fun d hd => ?_, fun d hd => ?_⟩
      · exact (congrArg Pbc.replyWindow (hl.bus (by simp [profiling]))).trans hr
      · have hc : (pricesProfile p && ds != 0) = true := by
          simp only [pricesProfile, Bool.and_eq_true, Bool.or_eq_true, bne_iff_ne, ne_eq]
          exact ⟨by tauto, h0⟩
        simp only [hc, if_true]
        rfl
      · obtain ⟨hf, hz⟩ := hall.assignment (d := d) (by simp [profiling])
        obtain ⟨hlast, -, -⟩ := hall.status (d := d) (by simp [profiling])
        exact ⟨hall.state (by simp [profiling]), hf, hz, hlast, hall.reservation (by simp [profiling])⟩
      · refine hall.dish fun q hq => ?_
        rcases hq with (hq | hq) | (⟨e, he, hq⟩ | hq) | hq
        · simp at hq
        · simp at hq
        · have : d = e := by rcases hq with hq | hq <;> simp_all
          exact not_mem_members hd (this ▸ he)
        · simp at hq
        · simp at hq
      · refine ⟨_, rfl, ?_⟩
        have hpr := profiled_profile hs.taken ds (clampProfile p).1 (clampSupervision v).1 hd
        have htr (t : State) (c : Prop) [Decidable c] : ((if c then t.trigger else t).dish d).profile = (t.dish d).profile := by
          split <;> rfl
        refine (htr _ _).trans (hpr.trans ((applyProfile_clamped p _).trans ?_))
        cases p.shedEl <;> rfl

end

section
-- One declaration at a time: the check bounds memory, and every thread in flight takes its stack from it.
set_option Elab.async false

/-! What ACT is handed, and O17: the supervision timers. -/

namespace Sys2Proof.Machine
open Sys2Proof.Claims

/-! ## One increment (R184, R186) -/

theorem bump_fst (c : Counter) : c.bump.1 = counted c := by
  cases hc : c.threshold <;> cases hn : c.notified <;> by_cases hv : c.value < 4294967295 <;>
    simp [Counter.bump, counted, top32, hc, hn, hv] <;> split <;> simp_all

/-- A counter's notice rises where the increment first notifies it. -/
theorem bump_snd {c : Counter} (hn : c.notified = false) (h : (counted c).notified = true) : c.bump.2 = true := by
  cases hc : c.threshold with
  | none => by_cases hv : c.value < 4294967295 <;> simp [counted, hn, hc, hv] at h
  | some k =>
    by_cases hv : c.value < 4294967295
    · have hk : k ≤ c.value + 1 := by simpa [counted, hn, hc, hv] using h
      simp [Counter.bump, top32, hc, hn, hv, hk]
    · have hk : k ≤ c.value := by simpa [counted, hn, hc, hv] using h
      simp [Counter.bump, top32, hc, hn, hv, hk]

theorem counts_eq_matched (c : Counter) (k : EventClass) (q : Option Nat) : c.counts k q = matched c k q := by
  unfold Counter.counts matched
  cases c.quals <;> cases q <;> rfl

theorem counted_cls (c : Counter) : (counted c).cls = c.cls := by
  rw [← bump_fst, bump_cls]

theorem foldl_counted_cls (k : EventClass) (l : List (Option Nat)) (c : Counter) :
    (l.foldl (fun x q => if matched x k q then counted x else x) c).cls = c.cls := by
  induction l generalizing c with
  | nil => rfl
  | cons q l ih =>
    rw [List.foldl_cons, ih]
    split
    · exact counted_cls c
    · rfl

theorem mem_foldl_raise (s : State) (xs : List Nat) {n : Nat} (h : n ∈ xs) :
    .counter n ∈ (xs.foldl (fun t n => t.raise (.counter n)) s).oli.notices := by
  induction xs generalizing s with
  | nil => simp at h
  | cons m xs ih =>
    rcases List.mem_cons.mp h with rfl | h
    · exact (Changes.foldl (l := ∅) (fun t n => t.raise (.counter n)) xs _ fun t x _ => raise_changes t _).notices (mem_raise s _)
    · exact ih _ h

theorem bumpWhere_notice (s : State) (p : Counter → Bool) {i : Nat} (hi : i < s.act.counters.length) (hp : p (s.counterAt i) = true)
    (hb : (s.counterAt i).bump.2 = true) : .counter (i + 1) ∈ (s.bumpWhere p).oli.notices := by
  have hc : s.act.counters[i] = s.counterAt i := by simp [State.counterAt, hi]
  refine mem_foldl_raise _ _ (List.mem_map.mpr ⟨i, List.mem_filter.mpr ⟨by simpa using hi, ?_⟩, rfl⟩)
  simp [hi, hc, hp, hb]

/-! ## Events handed to ACT -/

/-- A change that leaves the counters of a class alone hands ACT no event of it. -/
theorem Changes.countsOf {l : Set Part} {s t : State} (h : Changes l s t) (k : EventClass) (hk : Part.counters (some k) ∉ l := by simp) :
    CountsOf s t k [] := by
  intro n _ _ c c' hc
  have hs : c' = c := h.same _ hk (n - 1) hc
  refine ⟨hs, fun h1 h2 => ?_⟩
  rw [hs, h1] at h2
  simp at h2

theorem countsOf_trans {s t u : State} {k : EventClass} {l l' : List (Option Nat)} (h : CountsOf s t k l) (h' : CountsOf t u k l')
    (hn : t.oli.notices ⊆ u.oli.notices) : CountsOf s u k (l ++ l') := by
  intro n h1 h8 c c' hc
  obtain ⟨ht, hnt⟩ := h n h1 h8 hc
  have hct : (t.act.counters.getD (n - 1) {}).cls = some k := by rw [ht, foldl_counted_cls]; exact hc
  obtain ⟨hu, hnu⟩ := h' n h1 h8 hct
  refine ⟨by rw [List.foldl_append, ← ht]; exact hu, fun hf htr => ?_⟩
  cases hb : (t.act.counters.getD (n - 1) {}).notified with
  | true => exact hn (hnt hf hb)
  | false => exact hnu hb htr

/-- An event counted once is handed to ACT once. -/
theorem count_countsOf (s : State) (k : EventClass) (q : Option Nat) : CountsOf s (s.count k q) k [q] := by
  intro n h1 _ c c' hc
  have hat : c' = if c.counts k q then c.bump.1 else c := bumpWhere_counterAt s (fun c => c.counts k q) rfl (n - 1)
  rw [List.foldl_cons, List.foldl_nil, ← counts_eq_matched, ← bump_fst]
  refine ⟨hat, fun hf ht => ?_⟩
  rw [hat] at ht
  split at ht
  next hcnt =>
    have hi : n - 1 < s.act.counters.length := by
      by_contra hge
      have hc0 : c = ({} : Counter) := by
        simp only [c, List.getD_eq_getElem?_getD, List.getElem?_eq_none (Nat.le_of_not_lt hge)]
        rfl
      rw [hc0] at hc
      simp at hc
    have hb : c.bump.2 = true := bump_snd hf (by rwa [← bump_fst])
    have := bumpWhere_notice s (fun c => c.counts k q) hi hcnt hb
    rwa [Nat.sub_add_cancel h1] at this
  next => rw [hf] at ht; simp at ht

/-- `CountsOf` reads counters and notices alone. -/
theorem countsOf_congr {s t s' t' : State} {k : EventClass} {l : List (Option Nat)} (h : CountsOf s t k l) (hs : s'.act = s.act)
    (ht : t'.act = t.act) (hn : t'.oli.notices = t.oli.notices) : CountsOf s' t' k l := by
  unfold CountsOf
  rw [hs, ht, hn]
  exact h

/-! ## The entry to FAULTED -/

theorem flag_dish (s : State) (d : Nat) (x : ChangeFlags) (hd : s.isDish d = true) :
    (s.flag d x).dish d = { s.dish d with flags := (s.dish d).flags.union x } := by
  unfold State.flag
  simp only
  split
  next h => rw [h]
  next => rw [raise_dish, modDish_dish_same s d _ hd]

/-- The record after the entry to FAULTED (R25, Table 6). -/
theorem enterFaulted_dish (s : State) (d : Nat) (sup : Option SupFault) (hd : s.isDish d = true) :
    (s.enterFaulted d sup).dish d = { (s.dish d).fault sup with flags := (s.dish d).flags.union { fault := true } } := by
  let u := ((s.modDish d (·.fault sup)).flag d { fault := true }).count .dishFault (some (faultBit (sup.getD .clear)))
  have hu : u.dish d = { (s.dish d).fault sup with flags := (s.dish d).flags.union { fault := true } } := by
    show (State.count _ _ _).dish d = _
    rw [(count_changes _ _ _).dish, flag_dish _ d _ (by rw [modDish_isDish, hd]), modDish_dish_same s d _ hd]
    rfl
  have he := endPreempt_changes_of_ne_ready u d (by rw [hu]; simp [Dish.fault])
  exact he.dish.trans hu

/-- The entry to FAULTED is handed to ACT with its fault (R184). -/
theorem enterFaulted_countsOf (s : State) (d : Nat) (sup : Option SupFault) :
    CountsOf s (s.enterFaulted d sup) .dishFault [some (faultBit (sup.getD .clear))] := by
  have h1 : Changes ({.dish .state d, .dish .supFault d} ∪ {p | ∃ k, p = .dish (.flag k) d}) s
      ((s.modDish d (·.fault sup)).flag d { fault := true }) := by
    refine Changes.trans (modDish_changes s d _ fun p hp => ?_) ((flag_changes _ d _).mono (by rintro p ⟨k, -, rfl⟩; simp))
    cases p <;> simp_all [DishPart.Same, Dish.fault]
  have h2 := count_countsOf ((s.modDish d (·.fault sup)).flag d { fault := true }) .dishFault (some (faultBit (sup.getD .clear)))
  have h3 := endPreempt_changes (((s.modDish d (·.fault sup)).flag d { fault := true }).count .dishFault (some (faultBit (sup.getD .clear)))) d
  exact countsOf_trans (countsOf_trans (h1.countsOf .dishFault) h2 (count_changes _ _ _).notices) (h3.countsOf .dishFault) h3.notices

/-! ## The three timers (R15, R19, R21) -/

/-- What the expiry of a supervision timer may change: the dish beside its reservation, its orders but HEAT, and its claim's member. -/
def expiring (d : Nat) : Set Part :=
  {.dish .supFault d, .dish (.flag .fault) d, .counters (some .dishFault)} ∪ stopping d ∪ closing

@[simp] theorem mem_expiring (p : Part) (d : Nat) : p ∈ expiring d ↔
    ((p = .dish .supFault d ∨ p = .dish (.flag .fault) d ∨ p = .counters (some .dishFault)) ∨ p ∈ stopping d) ∨ p ∈ closing := Iff.rfl

theorem closeClaim_expiring (s : State) (d : Nat) (h : MemberState) (w : WaveState) : Changes (expiring d) s (s.closeClaim d h w) :=
  (closeClaim_changes s d h w).mono (Set.union_subset_union_left _ (by simp [Set.insert_subset_iff]))

theorem enterFaulted_expiring (s : State) (d : Nat) (sup : Option SupFault) : Changes (expiring d) s (s.enterFaulted d sup) :=
  enterFaulted_changes s d sup (by simp [faulting, Set.insert_subset_iff]) (by simp)

theorem modDish_expiring (s : State) (d : Nat) (f : Dish → Dish) 
    (h : ∀ r : Dish, f r = { r with state := (f r).state, supFault := (f r).supFault, timer := (f r).timer }) : Changes (expiring d) s (s.modDish d f) :=
  modDish_changes s d f fun p hp => by
    rw [h]
    cases p <;> simp_all [DishPart.Same]

theorem slewTimeoutOn_expiring (s : State) (d : Nat) : Changes (expiring d) s (s.slewTimeoutOn d) :=
  ((closeClaim_expiring s d _ _).trans (modDish_expiring _ d _ fun _ => rfl)).trans (orderStop_changes _ d).mono

theorem homeTimeoutOn_expiring (s : State) (d : Nat) : Changes (expiring d) s (s.homeTimeoutOn d) :=
  (((closeClaim_expiring s d _ _).trans (modDish_expiring _ d _ fun _ => rfl)).trans (orderStop_changes _ d).mono).trans
    (enterFaulted_expiring _ d _)

theorem stopTimeoutOn_expiring (s : State) (d : Nat) : Changes (expiring d) s (s.stopTimeoutOn d) :=
  (modDish_expiring s d _ fun _ => rfl).trans (enterFaulted_expiring _ d _)

theorem within_expiring {d : Nat} {q : Part} (hq : q ∈ expiring d) : q.within [.dsv, .pbc, .znc, .sls, .fbu, .act] := by
  rcases hq with ((rfl | rfl | rfl) | hq) | hq
  · simp [Part.within, Part.block]
  · simp [Part.within, Part.block]
  · simp [Part.within, Part.block]
  · exact within_stopping hq
  · exact within_closing hq

/-- What every supervision timer keeps. -/
theorem expiring_keeps {s v : State} {d : Nat} (h : Changes (expiring d) s v) :
    (v.dish d).reservation = (s.dish d).reservation ∧ SameAssignment d s v ∧ SameDishesBut [d] s v
      ∧ v.fbu.feeders = s.fbu.feeders ∧ (∀ e, e ≠ d → v.slots e = s.slots e) := by
  obtain ⟨hf, hz⟩ := h.assignment (d := d)
  obtain ⟨hl, -, -⟩ := h.status (d := d)
  refine ⟨h.reservation, ⟨h.profile, hf, hz, hl⟩, ⟨fun e he => h.dish ?_, h.supervision⟩, h.feeders, fun e he => h.slots ?_⟩
  · have : e ≠ d := by simpa using he
    simp [this]
  · simp [he]

/-- The record and the slots between the closing of a claim and the STOP that is ordered. -/
theorem closed_then {s : State} {d : Nat} (hd : s.isDish d = true) (hs : thas s.pbc.slots d = true) (h : MemberState) (w : WaveState)
    (f : Dish → Dish) :
    ((((s.closeClaim d h w).modDish d f).orderStop d).dish d = f (if (s.dish d).claim = none then s.dish d else (s.dish d).dropClaim))
      ∧ (((s.closeClaim d h w).modDish d f).orderStop d).slots d = (s.slots d).removeMove.placeStop s.moment := by
  have hc := closeClaim_changes s d h w
  refine ⟨?_, ?_⟩
  · rw [(orderStop_changes _ d).dish, modDish_dish_same _ d _ ((hc.isDish d).trans hd), closeClaim_dish]
  · refine (orderStop_slots _ d ((hc.hasSlots d).trans hs :)).trans ?_
    show ((s.closeClaim d h w).slots d).removeMove.placeStop (s.closeClaim d h w).moment = _
    rw [hc.slots, hc.moment]

theorem closed_claim (r : Dish) : (if r.claim = none then r else r.dropClaim).claim = none := by
  split
  · assumption
  · rfl

theorem faultFlag_union (x : ChangeFlags) : (x.union { fault := true }).fault = true := by simp [ChangeFlags.union]

theorem timerDue_of (s : State) {d due : Nat} {k : TimerKind} (h : (s.dish d).timer = some { kind := k, due := due }) :
    s.timerDue d k = some due := by
  simp [State.timerDue, h]

end Sys2Proof.Machine

open Sys2Proof.Machine Sys2Proof.Claims in
/-- Settles O17: one frame for the three timers (`expiring`), and what each makes of the dish's record and slots. -/
theorem supervisionTimersEndTheMotion : Obligations.SupervisionTimersEndTheMotion := by
  unfold Obligations.SupervisionTimersEndTheMotion
  intro s d due hs hr h1 h48
  have hd : (s.beginAt due).isDish d = true := (hs.isDish d).mpr ⟨h1, h48⟩
  have hsl : thas (s.beginAt due).pbc.slots d = true := hs.hasSlots_of_isDish hd
  refine ⟨fun _ ht => ?_, fun _ ht => ?_, fun hst ht => ?_⟩
  · have hl := slewTimeoutOn_expiring (s.beginAt due) d
    refine happens_of_timer _ hr (f := fun t => t.slewTimeoutOn d) ?_ hl (fun q => within_expiring) fun o ho hlink => ?_
    · exact congrArg (fun x => Host.Outcome.next (s.onTimer x _)) (timerDue_of s ht)
    · obtain ⟨hdish, hslots⟩ := closed_then hd hsl (.aborted .timeout) (.aborted .timeout) (fun r =>
        { r with state := .stopping, supFault := .slewTimeout, timer := some { kind := .stop, due := max s.now due + 30000 } })
      obtain ⟨k1, k2, k3, k4, k5⟩ := expiring_keeps hl
      obtain ⟨m1, m2, -⟩ := stopped_slots (s.slots d) (s.moment + 1)
      have hdish' : ((s.beginAt due).slewTimeoutOn d).dish d = _ := hdish
      have hslots' : ((s.beginAt due).slewTimeoutOn d).slots d = (s.slots d).removeMove.placeStop (s.moment + 1) := hslots
      have hcount : CountsOf (s.beginAt due) ((s.beginAt due).slewTimeoutOn d) .dishFault [] :=
        (((closeClaim_changes _ d _ _).andThen (modDish_changes _ d _ (l := {p | ∃ a, p = .dish a d}) fun p hp =>
          absurd ⟨p, rfl⟩ hp)).andThen (orderStop_changes _ d)).countsOf .dishFault
      refine ⟨?_, ?_, ?_, ?_, ⟨?_, ?_⟩, ⟨k1, k2, k3, k4, k5, hlink⟩, countsOf_congr hcount rfl rfl ho⟩
      · exact congrArg Dish.state hdish'
      · exact congrArg Dish.supFault hdish'
      · exact congrArg Dish.timer hdish'
      · exact (congrArg Dish.claim hdish').trans (closed_claim _)
      · exact (congrArg Slots.movePending hslots').trans m1
      · rw [← hslots'] at m2
        exact m2
  · have hl := homeTimeoutOn_expiring (s.beginAt due) d
    refine happens_of_timer _ hr (f := fun t => t.homeTimeoutOn d) ?_ hl (fun q => within_expiring) fun o ho hlink => ?_
    · exact congrArg (fun x => Host.Outcome.next (s.onTimer x _)) (timerDue_of s ht)
    · let u := (((s.beginAt due).abortClaim d .timeout).modDish d (fun r => { r with timer := none })).orderStop d
      obtain ⟨hdish, hslots⟩ := closed_then hd hsl (.aborted .timeout) (.aborted .timeout) (fun r => { r with timer := none })
      obtain ⟨k1, k2, k3, k4, k5⟩ := expiring_keeps hl
      obtain ⟨m1, m2, -⟩ := stopped_slots (s.slots d) (s.moment + 1)
      have hu : Changes (({.dish .claim d, .passDue} ∪ closing) ∪ {p | ∃ a, p = .dish a d} ∪ {.slots .move d, .slots .stop d}) (s.beginAt due) u :=
        ((closeClaim_changes _ d _ _).andThen (modDish_changes _ d _ fun p hp => absurd ⟨p, rfl⟩ hp)).andThen (orderStop_changes _ d)
      have hf := enterFaulted_dish u d (some .homeTimeout) ((hu.isDish d).trans hd)
      have hfs : (u.enterFaulted d (some .homeTimeout)).slots d = u.slots d :=
        (enterFaulted_changes u d (some .homeTimeout) (l := {.dish .supFault d} ∪ faulting d (u.dish d).zone) Set.subset_union_right
          (by simp)).slots
      have hcount := countsOf_trans (hu.countsOf .dishFault) (enterFaulted_countsOf u d (some .homeTimeout)) (enterFaulted_expiring u d _).notices
      have hdish' : ((s.beginAt due).homeTimeoutOn d).dish d = _ := hf
      have hslots' : ((s.beginAt due).homeTimeoutOn d).slots d = (s.slots d).removeMove.placeStop (s.moment + 1) := hfs.trans hslots
      have hu' : u.dish d = _ := hdish
      refine ⟨?_, ?_, ?_, ?_, ?_, ⟨?_, ?_⟩, ⟨k1, k2, k3, k4, k5, hlink⟩, countsOf_congr hcount rfl rfl ho⟩
      · exact congrArg Dish.state hdish'
      · exact congrArg Dish.supFault hdish'
      · exact (congrArg Dish.timer hdish').trans (congrArg Dish.timer hu')
      · exact (congrArg Dish.claim hdish').trans ((congrArg Dish.claim hu').trans (closed_claim _))
      · exact (congrArg (fun r : Dish => r.flags.fault) hdish').trans (faultFlag_union _)
      · exact (congrArg Slots.movePending hslots').trans m1
      · rw [← hslots'] at m2
        exact m2
  · have hl := stopTimeoutOn_expiring (s.beginAt due) d
    refine happens_of_timer _ hr (f := fun t => t.stopTimeoutOn d) ?_ hl (fun q => within_expiring) fun o ho hlink => ?_
    · exact congrArg (fun x => Host.Outcome.next (s.onTimer x _)) (timerDue_of s ht)
    · let u := (s.beginAt due).modDish d (fun r => { r with timer := none })
      have hu := modDish_timer_changes (s.beginAt due) d none
      have hf : ((s.beginAt due).stopTimeoutOn d).dish d = _ := enterFaulted_dish u d (some .stopTimeout) ((hu.isDish d).trans hd)
      have hu' : u.dish d = { s.dish d with timer := none } := modDish_dish_same _ d _ hd
      have hfs := (enterFaulted_changes u d (some .stopTimeout) (l := {.dish .supFault d} ∪ faulting d (u.dish d).zone) Set.subset_union_right
        (by simp)).slots (d := d)
      have hcount := countsOf_trans (hu.countsOf .dishFault) (enterFaulted_countsOf u d (some .stopTimeout)) (enterFaulted_expiring u d _).notices
      obtain ⟨k1, k2, k3, k4, k5⟩ := expiring_keeps hl
      refine ⟨?_, ?_, ?_, ?_, ?_, ⟨k1, k2, k3, k4, k5, hlink⟩, countsOf_congr hcount rfl rfl ho⟩
      · exact congrArg Dish.state hf
      · exact congrArg Dish.supFault hf
      · exact (congrArg Dish.timer hf).trans (congrArg Dish.timer hu')
      · exact (congrArg (fun r : Dish => r.flags.fault) hf).trans (faultFlag_union _)
      · exact congrArg Slots.stopPending hfs

end

section
-- One declaration at a time: the check bounds memory, and every thread in flight takes its stack from it.
set_option Elab.async false

/-! The bytes of a Pedestal reply and its classification by the checks of Table 11 (R30, R32). -/

namespace Sys2Proof.Machine
open Sys2Proof.Claims

/-! ## Little-endian numbers (R211) -/

theorem length_le (n x : Nat) : (le n x).length = n := by
  induction n generalizing x with
  | zero => rfl
  | succ n ih => simp [le, ih]

theorem unLe_le (n x : Nat) : unLe (le n x) = x % 256 ^ n := by
  induction n generalizing x with
  | zero => simp [le, unLe, Nat.mod_one]
  | succ n ih =>
    rw [le, unLe, ih, BitVec.toNat_ofNat, show 256 ^ (n + 1) = 256 * 256 ^ n from Nat.pow_succ', Nat.mod_mul]

theorem length_leInt (n : Nat) (x : Int) : (leInt n x).length = n := length_le _ _

/-- A signed number in range is read back. -/
theorem unLeInt_leInt (n : Nat) (hn : 0 < n) (x : Int) (h1 : -(2 : Int) ^ (8 * n - 1) ≤ x) (h2 : x < (2 : Int) ^ (8 * n - 1)) :
    unLeInt (leInt n x) = x := by
  have h256 : 256 ^ n = 2 ^ (8 * n) := by rw [Nat.pow_mul]
  have hnat : unLe (leInt n x) = (BitVec.ofInt (8 * n) x).toNat := by
    rw [leInt, unLe_le, h256, Nat.mod_eq_of_lt (BitVec.isLt _)]
  rw [unLeInt, length_leInt, hnat, BitVec.ofNat_toNat, BitVec.setWidth_eq]
  exact BitVec.toInt_ofInt_eq_self (by omega) h1 h2

/-! ## A STATUS body (check 5) -/

theorem keyOf_some {n : Nat} {k : Key} (h : keyOf n = some k) : n ≤ 2 := by
  match n with
  | 0 | 1 | 2 => omega
  | n + 3 => simp [keyOf] at h

theorem surfaceOf_some {n : Nat} {k : Surface} (h : surfaceOf n = some k) : n ≤ 3 := by
  match n with
  | 0 | 1 | 2 | 3 => omega
  | n + 4 => simp [surfaceOf] at h

theorem resultOf_some {n : Nat} {k : CommandResult} (h : resultOf n = some k) : n ≤ 2 := by
  match n with
  | 0 | 1 | 2 => omega
  | n + 3 => simp [resultOf] at h

/-- A body that is read has every field in its range. -/
theorem readStatus_inRange {body : List Byte} {x : Status × CommandResult} (h : readStatus body = some x) :
    ((-270000 ≤ unLeInt (body.take 4) ∧ unLeInt (body.take 4) ≤ 270000)
      ∧ (5000 ≤ unLeInt ((body.drop 4).take 4) ∧ unLeInt ((body.drop 4).take 4) ≤ 90000)
      ∧ (-400 ≤ unLeInt ((body.drop 12).take 2) ∧ unLeInt ((body.drop 12).take 2) ≤ 600))
    ∧ (body.getD 8 0).toNat ≤ 15 ∧ (body.getD 9 0).toNat ≤ 15 ∧ (body.getD 10 0).toNat ≤ 2 ∧ (body.getD 14 0).toNat ≤ 3
      ∧ (body.getD 15 0).toNat ≤ 4 ∧ (body.getD 16 0).toNat ≤ 2 := by
  unfold readStatus at h
  simp only at h
  split at h
  next hk hs hr =>
    split at h
    next hc =>
      simp only [Bool.and_eq_true, decide_eq_true_eq, azOk, elOk, tempOk] at hc
      obtain ⟨⟨⟨⟨⟨hf, he⟩, ha⟩, haz⟩, hel⟩, ht⟩ := hc
      exact ⟨⟨haz, hel, ht⟩, by omega, he, keyOf_some hk, surfaceOf_some hs, ha, resultOf_some hr⟩
    · simp at h
  · simp at h

theorem readStatus_of_bad {body : List Byte} (h : BadBody body) : readStatus body = none := by
  obtain ⟨az, el, temp, flags, echo, key, fault, surface, applied, result, hb, a1, a2, e1, e2, t1, t2, b1, b2, b3, -, b5, b6, b7, hbad⟩ := h
  have haz : unLeInt (leInt 4 az) = az := unLeInt_leInt 4 (by omega) az (by norm_num; omega) (by norm_num; omega)
  have hel : unLeInt (leInt 4 el) = el := unLeInt_leInt 4 (by omega) el (by norm_num; omega) (by norm_num; omega)
  have htemp : unLeInt (leInt 2 temp) = temp := unLeInt_leInt 2 (by omega) temp (by norm_num; omega) (by norm_num; omega)
  have byte (n : Nat) (hn : n ≤ 255) : (BitVec.ofNat 8 n).toNat = n := by
    rw [BitVec.toNat_ofNat]; omega
  cases hr : readStatus body with
  | none => rfl
  | some x =>
    obtain ⟨⟨⟨r1, r2⟩, ⟨r3, r4⟩, ⟨r5, r6⟩⟩, r7, r8, r9, r10, r11, r12⟩ := readStatus_inRange hr
    rw [show body.take 4 = leInt 4 az by rw [hb]; rfl, haz] at r1 r2
    rw [show (body.drop 4).take 4 = leInt 4 el by rw [hb]; rfl, hel] at r3 r4
    rw [show (body.drop 12).take 2 = leInt 2 temp by rw [hb]; rfl, htemp] at r5 r6
    rw [show body.getD 8 0 = BitVec.ofNat 8 flags by rw [hb]; rfl, byte _ b1] at r7
    rw [show body.getD 9 0 = BitVec.ofNat 8 echo by rw [hb]; rfl, byte _ b2] at r8
    rw [show body.getD 10 0 = BitVec.ofNat 8 key by rw [hb]; rfl, byte _ b3] at r9
    rw [show body.getD 14 0 = BitVec.ofNat 8 surface by rw [hb]; rfl, byte _ b5] at r10
    rw [show body.getD 15 0 = BitVec.ofNat 8 applied by rw [hb]; rfl, byte _ b6] at r11
    rw [show body.getD 16 0 = BitVec.ofNat 8 result by rw [hb]; rfl, byte _ b7] at r12
    omega

theorem length_of_bad {body : List Byte} (h : BadBody body) : body.length = 17 := by
  obtain ⟨az, el, temp, flags, echo, key, fault, surface, applied, result, hb, -⟩ := h
  simp [hb, length_le, length_leInt]

/-! ## Classification -/

theorem resultFits_iff (k : TxKind) (st : Status) (r : CommandResult) : resultFits k st.echo r = true ↔ ResultFits k st r := by
  cases k <;> cases r <;> simp [resultFits, ResultFits]

theorem crc16_lt (bytes : List Byte) : (crc16 bytes).toNat < 256 ^ 2 := (crc16 bytes).isLt

/-- A STATUS frame passes checks 1 to 4: what becomes of it is what its body reads as. -/
theorem classify_plFrame {d : Nat} (hd : d ≤ 48) (k : TxKind) {body : List Byte} (hb : body.length = 17) :
    classify d k (plFrame d 0x10 body) true =
      (readStatus body).elim (.miss .check) (fun x => if resultFits k x.1.echo x.2 then .valid x.1 x.2 else .miss .check) := by
  have hbytes : (((BitVec.ofNat 8 0x10 :: body) ++ le 2 (crc16 (BitVec.ofNat 8 0x10 :: body)).toNat).map
      (fun b => ({ mark := false, byte := b } : PlChar))).map (·.byte)
      = (BitVec.ofNat 8 0x10 :: body) ++ le 2 (crc16 (BitVec.ofNat 8 0x10 :: body)).toNat := by
    simp [List.map_map, Function.comp_def]
  have hlen : (BitVec.ofNat 8 0x10 :: body).length = 18 := by simp [hb]
  have haddr : (BitVec.ofNat 8 d).toNat = d := by rw [BitVec.toNat_ofNat]; omega
  have hcrc : unLe (le 2 (crc16 (BitVec.ofNat 8 0x10 :: body)).toNat) = (crc16 (BitVec.ofNat 8 0x10 :: body)).toNat := by
    rw [unLe_le, Nat.mod_eq_of_lt (crc16_lt _)]
  unfold classify plFrame
  simp only [hbytes, haddr]
  rw [List.drop_left' hlen, List.take_left' hlen, hcrc, List.cons_append, List.drop_succ_cons, List.drop_zero, List.take_left' hb]
  simp only [Bool.not_true, Bool.false_eq_true, if_false, ne_eq, not_true_eq_false, List.head?_cons]
  cases readStatus body <;> simp

theorem classify_of_isStatus {d : Nat} (hd : d ≤ 48) (k : TxKind) {chars : List PlChar} {st : Status} {r : CommandResult}
    (h : IsStatus chars d st r) : classify d k chars true = if resultFits k st.echo r then .valid st r else .miss .check := by
  obtain ⟨body, hb, rfl, hr⟩ := h
  rw [classify_plFrame hd k hb, hr]
  rfl

theorem length_plFrame (d : Nat) {body : List Byte} (hb : body.length = 17) : (plFrame d 0x10 body).length = replyLength := by
  simp [plFrame, hb, length_le, replyLength]

theorem length_of_isStatus {d : Nat} {chars : List PlChar} {st : Status} {r : CommandResult} (h : IsStatus chars d st r) :
    chars.length = replyLength := by
  obtain ⟨body, hb, rfl, -⟩ := h
  exact length_plFrame d hb

/-! ## Failed checks 1 to 4 -/

theorem classify_unmarked (d : Nat) (k : TxKind) (x : PlChar) (l : List PlChar) (b : Bool) (h : x.mark = false) :
    classify d k (x :: l) b = .miss .check := by
  simp [classify, h]

theorem classify_stranger (d : Nat) (k : TxKind) (x : PlChar) (l : List PlChar) (b : Bool) (h : x.mark = true)
    (hx : x.byte.toNat ≠ d) : classify d k (x :: l) b = .miss .stray := by
  simp [classify, h, hx]

theorem classify_cutShort (d : Nat) (k : TxKind) (x : PlChar) (l : List PlChar) (h : x.mark = true) (hx : x.byte.toNat = d) :
    classify d k (x :: l) false = .miss .check := by
  simp [classify, h, hx]

theorem classify_notStatus (d : Nat) (k : TxKind) (x y : PlChar) (l : List PlChar) (h : x.mark = true) (hx : x.byte.toNat = d)
    (hy : y.byte ≠ 0x10) : classify d k (x :: y :: l) true = .miss .check := by
  have hy' : y.byte ≠ 16#8 := hy
  simp [classify, h, hx, hy']

theorem classify_wrongCrc (d : Nat) (k : TxKind) (x y lo hi : PlChar) (l : List PlChar) (hl : l.length = 17) (h : x.mark = true)
    (hx : x.byte.toNat = d) (hy : y.byte = 0x10) (hc : crc16 ((y :: l).map (·.byte)) ≠ hi.byte ++ lo.byte) :
    classify d k (x :: y :: (l ++ [lo, hi])) true = .miss .check := by
  have hlen : ((y :: l).map (·.byte)).length = 18 := by simp [hl]
  have hbytes : (y :: (l ++ [lo, hi])).map (·.byte) = (y :: l).map (·.byte) ++ [lo.byte, hi.byte] := by simp
  have hval : unLe [lo.byte, hi.byte] = (hi.byte ++ lo.byte).toNat := by
    rw [BitVec.toNat_append, ← Nat.shiftLeft_add_eq_or_of_lt lo.byte.isLt, Nat.shiftLeft_eq]
    simp [unLe]
    omega
  have hne : unLe [lo.byte, hi.byte] ≠ (crc16 ((y :: l).map (·.byte))).toNat := by
    rw [hval]
    exact fun he => hc (BitVec.eq_of_toNat_eq he.symm)
  unfold classify
  simp only [h, hx, hbytes]
  rw [List.drop_left' hlen, List.take_left' hlen]
  have hy' : y.byte = 16#8 := hy
  simp only [List.map_cons, hy'] at hne ⊢
  simp [hne]

end Sys2Proof.Machine
end

section
-- One declaration at a time: the check bounds memory, and every thread in flight takes its stack from it.
set_option Elab.async false

/-! O21, O22: the end of an addressed transaction in a valid reply or in a miss (R31 to R33, R46). -/

namespace Sys2Proof.Machine
open Sys2Proof.Claims

/-! ## Which ending an event gives the transaction in flight -/

theorem awaiting_of_flight {s : State} {x : Transaction} (h : s.pbc.flight = some x) (h1 : x.kind ≠ .allStop) (h2 : x.kind ≠ .heatAllOff) :
    s.pbc.awaiting = some x := by
  have : x.kind.isAddressed = true := by
    cases hk : x.kind <;> simp_all [TxKind.isAddressed]
  simp [Pbc.awaiting, h, this]

theorem exec_plReplyReceived {s : State} {x : Transaction} (h : s.pbc.awaiting = some x) {chars : List PlChar}
    (hl : chars.length = replyLength) (hw : s.now ≤ x.windowDue) : exec (.plReplyReceived chars) s =
      .next (s.onTimer (some x.frameEnd) (fun t => t.endAddressed x (classify x.station x.kind chars true))) := by
  show execPlReplyReceived chars s = _
  simp [execPlReplyReceived, h, hl, State.replyMoment, hw]

theorem exec_plReplyGap {s : State} {x : Transaction} (h : s.pbc.awaiting = some x) {chars : List PlChar}
    (hl : 1 ≤ chars.length ∧ chars.length < replyLength) (hw : s.now ≤ x.windowDue) : exec (.plReplyGap chars) s =
      .next (s.onTimer (some x.frameEnd) (fun t => t.endAddressed x (classify x.station x.kind chars false))) := by
  show execPlReplyGap chars s = _
  simp [execPlReplyGap, h, hl, State.replyMoment, hw]

theorem exec_plReplyWindowExpiry {s : State} {x : Transaction} (h : s.pbc.awaiting = some x) : exec .plReplyWindowExpiry s =
      .next (s.onTimer (some x.windowDue) (fun t => t.endAddressed x (.miss .noReply))) := by
  show execPlReplyWindowExpiry s = _
  simp [execPlReplyWindowExpiry, h]

/-- Each way of `Misses` ends the transaction in flight in a miss of its kind. -/
theorem exec_of_misses {s : State} {d e w : Nat} {k : TxKind} {f : List PlChar} {c : Instr} {now : Nat} {m : MissKind} (hd : d ≤ 48)
    (h1 : k ≠ .allStop) (h2 : k ≠ .heatAllOff)
    (hf : s.pbc.flight = some { kind := k, station := d, frameEnd := e, windowDue := w, frame := f }) (h : Misses s d e w k c now m) :
    ∃ due, now = max s.now due ∧ (due = e ∨ due = w) ∧ exec c s = .next (s.onTimer (some due)
      (fun t => t.endAddressed { kind := k, station := d, frameEnd := e, windowDue := w, frame := f } (.miss m))) := by
  have ha := awaiting_of_flight hf h1 h2
  cases h with
  | window => exact ⟨w, rfl, .inr rfl, exec_plReplyWindowExpiry ha⟩
  | unmarkedGap x l hw hl hx =>
    refine ⟨e, rfl, .inl rfl, ?_⟩
    rw [exec_plReplyGap ha (by simp [replyLength]; omega) hw, classify_unmarked _ _ x l _ hx]
  | strangerGap x l hw hl hx hb =>
    refine ⟨e, rfl, .inl rfl, ?_⟩
    rw [exec_plReplyGap ha (by simp [replyLength]; omega) hw, classify_stranger _ _ x l _ hx hb]
  | cutShort x l hw hl hx hb =>
    refine ⟨e, rfl, .inl rfl, ?_⟩
    rw [exec_plReplyGap ha (by simp [replyLength]; omega) hw, classify_cutShort _ _ x l hx hb]
  | unmarked x l hw hl hx =>
    refine ⟨e, rfl, .inl rfl, ?_⟩
    rw [exec_plReplyReceived ha (by simp [replyLength]; omega) hw, classify_unmarked _ _ x l _ hx]
  | stranger x l hw hl hx hb =>
    refine ⟨e, rfl, .inl rfl, ?_⟩
    rw [exec_plReplyReceived ha (by simp [replyLength]; omega) hw, classify_stranger _ _ x l _ hx hb]
  | notStatus x y l hw hl hx hb hy =>
    refine ⟨e, rfl, .inl rfl, ?_⟩
    rw [exec_plReplyReceived ha (by simp [replyLength]; omega) hw, classify_notStatus _ _ x y l hx hb hy]
  | wrongCrc x y lo hi l hw hl hx hb hy hc =>
    refine ⟨e, rfl, .inl rfl, ?_⟩
    rw [exec_plReplyReceived ha (by simp [replyLength]; omega) hw, classify_wrongCrc _ _ x y lo hi l hl hx hb hy hc]
  | badField body hw hb =>
    refine ⟨e, rfl, .inl rfl, ?_⟩
    rw [exec_plReplyReceived ha (length_plFrame d (length_of_bad hb)) hw, classify_plFrame hd k (length_of_bad hb), readStatus_of_bad hb]
    rfl
  | misfit chars st r hw hs hr =>
    refine ⟨e, rfl, .inl rfl, ?_⟩
    rw [exec_plReplyReceived ha (length_of_isStatus hs) hw, classify_of_isStatus hd k hs, if_neg (by rwa [resultFits_iff])]

/-- A fitting STATUS reply in the open window ends the transaction in flight validly. -/
theorem exec_of_reply {s : State} {d now : Nat} {k : TxKind} {chars : List PlChar} {st : Status} {r : CommandResult}
    (h : Addressed s k d now) (hs : IsStatus chars d st r) (hr : ResultFits k st r) :
    ∃ x : Transaction, s.pbc.flight = some x ∧ x.kind = k ∧ x.station = d ∧ now = max s.now x.frameEnd
      ∧ exec (.plReplyReceived chars) s = .next (s.onTimer (some x.frameEnd) (fun t => t.endAddressed x (.valid st r))) := by
  obtain ⟨h1, h48, hk1, hk2, e, w, f, hf, hw, hn⟩ := h
  refine ⟨_, hf, rfl, rfl, hn, ?_⟩
  rw [exec_plReplyReceived (awaiting_of_flight hf hk1 hk2) (length_of_isStatus hs) hw, classify_of_isStatus h48 k hs,
    if_pos ((resultFits_iff k st r).mpr hr)]

/-! ## Steps 1 and 4 of R33 -/

theorem endOf_valid (sl : Slots) (k : TxKind) (m : Nat) : (sl.endOf k true m).2 = false := by
  have move : (sl.endMove true m).2 = false := by
    unfold Slots.endMove
    split <;> simp
  cases k <;> simp [Slots.endOf, move]

/-- The bus after the end of a transaction: the line is free, the command count has moved, and the transaction is counted (R39, R46). -/
theorem ended_pbc (s : State) (x : Transaction) (valid : Bool) : (s.ended x valid).pbc = { s.pbc with
    slots := (s.ended x valid).pbc.slots, flight := none, commandCount := if x.kind = .poll then 0 else min 8 (s.pbc.commandCount + 1),
    totals := { s.pbc.totals with transactions := inc32 s.pbc.totals.transactions,
                                  exhaustions := if s.exhausts x valid then inc32 s.pbc.totals.exhaustions else s.pbc.totals.exhaustions } } := by
  unfold State.ended
  simp only
  split <;> simp_all [State.countExhaustion, State.countCommand, State.clearFlight, State.modSlots]

theorem ended_slots (s : State) (x : Transaction) (valid : Bool) (hs : thas s.pbc.slots x.station = true) :
    (s.ended x valid).slots x.station = s.slotsAfter x valid := by
  have h : ((s.modSlots x.station (fun _ => s.slotsAfter x valid))).slots x.station = s.slotsAfter x valid := modSlots_slots_same s _ _ hs
  unfold State.ended
  simp only
  split <;> exact h

theorem afterTransaction_of_idle {s : State} (h : s.nvs.phase = .idle) : s.afterTransaction = s := by
  simp [State.afterTransaction, h]

/-- What the end of a transaction may change at the bus. -/
def busEnd (d : Nat) : Set Part := {.bus, .counters (some .pedestalMiss)} ∪ {p | ∃ a, p = .slots a d}

@[simp] theorem mem_busEnd (p : Part) (d : Nat) :
    p ∈ busEnd d ↔ (p = .bus ∨ p = .counters (some .pedestalMiss)) ∨ ∃ a, p = .slots a d := Iff.rfl

/-- What the end of a transaction of dish `d` may change in all. -/
def transacting (d : Nat) : Set Part := busEnd d ∪ {.dish .status d} ∪ supervising d Set.univ

@[simp] theorem mem_transacting (p : Part) (d : Nat) :
    p ∈ transacting d ↔ (p ∈ busEnd d ∨ p = .dish .status d) ∨ p ∈ supervising d Set.univ := Iff.rfl

theorem withdrawalStop_changes (s : State) (d : Nat) : Changes {.slots .stop d} s (s.withdrawalStop d) :=
  Changes.ite (fun _ => modSlots_changes s d _ fun p hp => placeStop_same _ _ p (by simpa using hp)) (fun _ => Changes.refl _ s)

theorem ended_transacting (s : State) (x : Transaction) (valid : Bool) : Changes (busEnd x.station) s (s.ended x valid) :=
  (ended_changes s x valid).mono (Set.union_subset (by simp) (fun _ hp => .inr hp))

theorem heard_changes (s : State) (d : Nat) (st : Status) (now : Nat) :
    Changes {.dish .status d, .dish .good d} s (s.modDish d (·.heard st now)) :=
  modDish_changes s d _ fun p hp => by cases p <;> simp_all [DishPart.Same, Dish.heard]

theorem missed_changes (s : State) (d : Nat) : Changes {.dish .status d, .dish .good d} s (s.modDish d Dish.missed) :=
  modDish_changes s d _ fun p hp => by cases p <;> simp_all [DishPart.Same, Dish.missed]

theorem takeReply_transacting (s : State) (d : Nat) (st : Status) (a : Answer) : Changes (transacting d) s (s.takeReply d st a) :=
  ((heard_changes s d st s.now).mono).trans ((takeReply_changes s d st a).mono Set.subset_union_right)

theorem takeMiss_transacting (s : State) (d : Nat) : Changes (transacting d) s (s.takeMiss d) :=
  ((missed_changes s d).mono).trans
    ((takeMiss_changes s d).mono ((supervising_mono (Set.subset_univ _)).trans Set.subset_union_right))

theorem busEnd_subset_transacting (d : Nat) : busEnd d ⊆ transacting d :=
  Set.subset_union_of_subset_left Set.subset_union_left _

/-! ## A valid reply -/

/-- The state after the steps of R6 of a valid reply, before a withdrawal stop. -/
def State.replied (s : State) (x : Transaction) (st : Status) (r : CommandResult) : State :=
  (s.ended x true).takeReply x.station st { kind := x.kind, result := r, withdrawn := (s.slots x.station).isWithdrawn x.kind }

/-- Outside a RESTART a valid reply leaves what R6 makes of it, and a withdrawal stop where the command was withdrawn and accepted. -/
theorem endAddressed_valid_eq (s : State) (x : Transaction) (st : Status) (r : CommandResult) (hp : s.nvs.phase = .idle) :
    s.endAddressed x (.valid st r) = if (s.slots x.station).isWithdrawn x.kind && r = .accepted then
      (s.replied x st r).withdrawalStop x.station else s.replied x st r := by
  have hr : Changes (transacting x.station) s (s.replied x st r) :=
    ((ended_transacting s x true).mono (busEnd_subset_transacting _)).trans (takeReply_transacting _ _ st _)
  have hn : (s.replied x st r).nvs = s.nvs := hr.store
  rw [endAddressed_valid]
  apply afterTransaction_of_idle
  split
  · exact (congrArg Nvs.phase ((withdrawalStop_changes (s.replied x st r) _).store.trans hn)).trans hp
  · exact (congrArg Nvs.phase hn).trans hp

theorem replied_transacting (s : State) (x : Transaction) (st : Status) (r : CommandResult) :
    Changes (transacting x.station) s (s.replied x st r) :=
  ((ended_transacting s x true).mono (busEnd_subset_transacting _)).trans (takeReply_transacting _ _ st _)

/-- After R6 nothing but a STOP is placed. -/
theorem endAddressed_valid_tail (s : State) (x : Transaction) (st : Status) (r : CommandResult) (hp : s.nvs.phase = .idle) :
    Changes {.slots .stop x.station} (s.replied x st r) (s.endAddressed x (.valid st r)) := by
  rw [endAddressed_valid_eq s x st r hp]
  exact Changes.ite (fun _ => withdrawalStop_changes _ _) (fun _ => Changes.refl _ _)

theorem endAddressed_valid_changes (s : State) (x : Transaction) (st : Status) (r : CommandResult) (hp : s.nvs.phase = .idle) :
    Changes (transacting x.station) s (s.endAddressed x (.valid st r)) :=
  (replied_transacting s x st r).trans ((endAddressed_valid_tail s x st r hp).mono)

/-- The status that a valid reply leaves in the dish's record. -/
theorem replied_status (s : State) (x : Transaction) (st : Status) (r : CommandResult) (hd : s.isDish x.station = true) :
    ((s.replied x st r).dish x.station).last = some st ∧ ((s.replied x st r).dish x.station).lastGood = some s.now
      ∧ ((s.replied x st r).dish x.station).miss = 0 := by
  have he := ended_transacting s x true
  have hnow : (s.ended x true).now = s.now := he.now
  obtain ⟨h1, h2, h3⟩ := (takeReply_changes (s.ended x true) x.station st
    { kind := x.kind, result := r, withdrawn := (s.slots x.station).isWithdrawn x.kind }).status (d := x.station) (by simp)
  rw [modDish_dish_same _ _ _ ((he.isDish _).trans hd)] at h1 h2 h3
  exact ⟨h1, h2.trans (congrArg some hnow), h3⟩

/-! ## A miss -/

/-- The state in which the dish's miss is taken. -/
def State.missCounted (s : State) (x : Transaction) (m : MissKind) : State := (s.ended x false).countMiss m

theorem missCounted_changes (s : State) (x : Transaction) (m : MissKind) : Changes (busEnd x.station) s (s.missCounted x m) :=
  (ended_transacting s x false).trans ((countMiss_changes _ m).mono)

theorem missCounted_totals (s : State) (x : Transaction) (m : MissKind) : (s.missCounted x m).pbc.totals = { s.pbc.totals with
    transactions := inc32 s.pbc.totals.transactions,
    exhaustions := if s.exhausts x false then inc32 s.pbc.totals.exhaustions else s.pbc.totals.exhaustions,
    noReply := if m == .noReply then inc32 s.pbc.totals.noReply else s.pbc.totals.noReply,
    check := if m == .check then inc32 s.pbc.totals.check else s.pbc.totals.check,
    stray := if m == .stray then inc32 s.pbc.totals.stray else s.pbc.totals.stray } := by
  have htot := congrArg Pbc.totals (ended_pbc s x false)
  have hc (t : State) (k : EventClass) (q : Option Nat) : (t.count k q).pbc.totals = t.pbc.totals :=
    congrArg Pbc.totals (count_changes t k q).pbc
  cases m with
  | noReply => exact (hc _ _ _).trans (congrArg (fun y : LinkTotals => { y with noReply := inc32 y.noReply }) htot)
  | check => exact (hc _ _ _).trans (congrArg (fun y : LinkTotals => { y with check := inc32 y.check }) htot)
  | stray => exact (hc _ _ _).trans (congrArg (fun y : LinkTotals => { y with stray := inc32 y.stray }) htot)

theorem missCounted_bus (s : State) (x : Transaction) (m : MissKind) : (s.missCounted x m).pbc.flight = none
    ∧ (s.missCounted x m).pbc.commandCount = if x.kind = .poll then 0 else min 8 (s.pbc.commandCount + 1) := by
  have hp := ended_pbc s x false
  have hfl : (s.ended x false).pbc.flight = none := congrArg Pbc.flight hp
  have hcc : (s.ended x false).pbc.commandCount = if x.kind = .poll then 0 else min 8 (s.pbc.commandCount + 1) :=
    congrArg Pbc.commandCount hp
  have hc (t : State) (k : EventClass) (q : Option Nat) : (t.count k q).pbc = t.pbc := (count_changes t k q).pbc
  cases m <;> exact ⟨(congrArg Pbc.flight (hc _ _ _)).trans hfl, (congrArg Pbc.commandCount (hc _ _ _)).trans hcc⟩

theorem missCounted_countsOf (s : State) (x : Transaction) (m : MissKind) :
    CountsOf s (s.missCounted x m) .pedestalMiss [some m.bit] := by
  have he : Changes ({.bus} ∪ {p | ∃ a, p = .slots a x.station}) s (s.ended x false) := ended_changes s x false
  have counted (p : Pbc) (hp : p.slots = (s.ended x false).pbc.slots) :
      CountsOf s (({ s.ended x false with pbc := p } : State).count .pedestalMiss (some m.bit)) .pedestalMiss [some m.bit] :=
    countsOf_trans ((he.andThen (withBus_changes _ p hp)).countsOf .pedestalMiss) (count_countsOf _ _ _) (count_changes _ _ _).notices
  cases m <;> exact counted _ rfl

/-- The exhaustion of a command changes the dish's claim and reservation, never its state. -/
theorem exhausted_frame (s : State) (d : Nat) :
    Changes ({.dish .claim d, .dish .reservation d, .passDue} ∪ accounting ∪ closing) s (s.exhausted d) := by
  have release (t : State) : Changes ({.dish .claim d, .dish .reservation d, .passDue} ∪ accounting ∪ closing) t (t.release d) :=
    (release_changes t d).mono (Set.union_subset (by simp) (Set.subset_union_of_subset_left Set.subset_union_right _))
  unfold State.exhausted
  simp only
  split
  · refine Changes.trans (Changes.trans (modDish_changes s d _ fun p hp => ?_) (release _)) ((trigger_changes _).mono)
    cases p <;> simp_all [DishPart.Same]
  · exact ((closeClaim_changes s d _ _).mono (Set.union_subset_union_left _ (by simp [Set.insert_subset_iff]))).trans (release _)
  · exact Changes.refl _ s

/-- Outside a RESTART a miss leaves what R5 makes of it, and an exhaustion where the command is used up and the dish is not ABSENT. -/
theorem endAddressed_miss_eq (s : State) (x : Transaction) (m : MissKind) (hp : s.nvs.phase = .idle) :
    s.endAddressed x (.miss m) = if s.exhausts x false && (((s.missCounted x m).takeMiss x.station).dish x.station).state != .absent then
      ((s.missCounted x m).takeMiss x.station).exhausted x.station else (s.missCounted x m).takeMiss x.station := by
  have hn : ((s.missCounted x m).takeMiss x.station).nvs = s.nvs :=
    (((missCounted_changes s x m).mono (busEnd_subset_transacting _)).trans (takeMiss_transacting _ _)).store
  rw [endAddressed_miss]
  apply afterTransaction_of_idle
  split
  · exact (congrArg Nvs.phase ((exhausted_frame _ _).store.trans hn)).trans hp
  · exact (congrArg Nvs.phase hn).trans hp

theorem endAddressed_miss_tail (s : State) (x : Transaction) (m : MissKind) (hp : s.nvs.phase = .idle) :
    Changes ({.dish .claim x.station, .dish .reservation x.station, .passDue} ∪ accounting ∪ closing)
      ((s.missCounted x m).takeMiss x.station) (s.endAddressed x (.miss m)) := by
  rw [endAddressed_miss_eq s x m hp]
  exact Changes.ite (fun _ => exhausted_frame _ _) (fun _ => Changes.refl _ _)

theorem endAddressed_miss_changes (s : State) (x : Transaction) (m : MissKind) (hp : s.nvs.phase = .idle) :
    Changes (transacting x.station) s (s.endAddressed x (.miss m)) := by
  refine (((missCounted_changes s x m).mono (busEnd_subset_transacting _)).trans (takeMiss_transacting _ _)).trans
    ((endAddressed_miss_tail s x m hp).mono ?_)
  refine Set.union_subset (Set.union_subset (by simp [Set.insert_subset_iff]) ?_) ?_
  · exact (accounting_subset_supervising _ _).trans Set.subset_union_right
  · exact (closing_subset_supervising _ _).trans Set.subset_union_right

theorem within_transacting {d : Nat} {q : Part} (hq : q ∈ transacting d) : q.within [.dsv, .pbc, .znc, .sls, .fbu, .mlc, .act] := by
  rcases hq with (((rfl | rfl) | ⟨a, rfl⟩) | rfl) | (((hq | ⟨k, -, rfl⟩) | hq) | hq)
  · simp [Part.within, Part.block]
  · simp [Part.within, Part.block]
  · simp [Part.within, Part.block]
  · simp [Part.within, Part.block]
  · rcases hq with rfl | rfl | rfl | rfl | rfl | rfl | rfl | rfl | rfl | rfl <;> simp [Part.within, Part.block]
  · simp [Part.within, Part.block]
  · exact within_closing hq
  · rcases hq with ((hq | rfl) | ⟨e, rfl⟩) | ⟨e, rfl⟩
    · exact within_accounting hq
    · simp [Part.within, Part.block]
    · simp [Part.within, Part.block]
    · simp [Part.within, Part.block]

/-- The end of a transaction changes the record of its dish alone. -/
theorem transacting_sameDishes {s t : State} {d : Nat} (h : Changes (transacting d) s t) : SameDishesBut [d] s t := by
  refine ⟨fun e he => h.dish fun p hp => ?_, h.supervision⟩
  have hne : e ≠ d := by simpa using he
  simp [hne] at hp

/-- The end of a transaction keeps the profile and the assignment of its dish. -/
theorem transacting_keeps {s t : State} {d : Nat} (h : Changes (transacting d) s t) : (t.dish d).profile = (s.dish d).profile
    ∧ (t.dish d).feeder = (s.dish d).feeder ∧ (t.dish d).zone = (s.dish d).zone := by
  obtain ⟨hf, hz⟩ := h.assignment (d := d)
  exact ⟨h.profile, hf, hz⟩

/-! ## Absence (R8) -/

/-- The record that R8 leaves. -/
def Dish.absent (r : Dish) : Dish :=
  { (if r.claim = none then r else r.dropClaim) with
    state := .absent, timer := none, supFault := .clear, reservation := none, flags := r.flags.union { presence := true } }

theorem release_reservation (s : State) (d : Nat) (hd : s.isDish d = true) : ((s.release d).dish d).reservation = none := by
  unfold State.release
  split
  · assumption
  · rw [trigger_dish, (settle_changes _ _).reservation, modDish_dish_same s d _ hd]

theorem release_dish (s : State) (d : Nat) (hd : s.isDish d = true) : (s.release d).dish d = { s.dish d with reservation := none } := by
  have h := release_changes s d
  obtain ⟨hf, hz⟩ := h.assignment (d := d)
  obtain ⟨hl, hg, hm⟩ := h.status (d := d)
  have hr := release_reservation s d hd
  refine Dish.eq_of_same fun p => ?_
  by_cases hp : p = .reservation
  · subst hp; exact hr
  · have hs : p.Same (s.dish d) ((s.release d).dish d) := h.same (.dish p d) (by simp [hp])
    cases p <;> simp_all [DishPart.Same]

theorem declareAbsent_dish (s : State) (d : Nat) (hd : s.isDish d = true) : (s.declareAbsent d).dish d = (s.dish d).absent := by
  let u := (s.abortClaim d .absent).modDish d (fun r => { r with state := .absent, timer := none, supFault := .clear })
  let w := ((u.release d).clearSlots d).heaterAbsent d
  have hi : (s.abortClaim d .absent).isDish d = true := ((abortClaim_changes s d .absent).isDish d).trans hd
  have hui : u.isDish d = true := (modDish_isDish _ d d _).trans hi
  have hu : u.dish d = { (if (s.dish d).claim = none then s.dish d else (s.dish d).dropClaim) with
      state := .absent, timer := none, supFault := .clear } :=
    (modDish_dish_same _ d _ hi).trans (by rw [State.abortClaim, closeClaim_dish])
  have hw : w.dish d = { u.dish d with reservation := none } :=
    (((clearSlots_changes _ d).andThen (heaterAbsent_heating _ d)).dish (d := d)).trans (release_dish u d hui)
  have hwi : w.isDish d = true :=
    (((release_changes u d).andThen ((clearSlots_changes _ d).andThen (heaterAbsent_heating _ d))).isDish d).trans hui
  have hf : (w.flag d { presence := true }).dish d = (s.dish d).absent := by
    rw [flag_dish w d _ hwi, hw, hu]
    unfold Dish.absent
    split <;> rfl
  have he := endPreempt_changes_of_ne_ready (w.flag d { presence := true }) d (by rw [hf]; simp [Dish.absent])
  exact he.dish.trans hf

/-- A dish that R8 does not reach keeps all but its miss count and good count. -/
theorem takeMiss_of_not_due {s : State} {d : Nat} (h : (s.modDish d Dish.missed).absenceDue d = false) :
    s.takeMiss d = s.modDish d Dish.missed := by
  rw [takeMiss_eq, h]
  rfl

theorem absenceDue_of {s : State} {d : Nat} (hd : s.isDish d = true)
    (h : (s.dish d).state = .absent ∨ min 65535 ((s.dish d).miss + 1) < s.dsv.nMiss) : (s.modDish d Dish.missed).absenceDue d = false := by
  unfold State.absenceDue
  rw [modDish_dish_same s d _ hd]
  rcases h with h | h
  · simp [Dish.missed, h]
  · have : ¬ s.dsv.nMiss ≤ satAdd 65535 (s.dish d).miss 1 := by simp only [satAdd]; omega
    simp [Dish.missed, this]

/-- In SETTLING a miss sets the good count to 0, also where the dish becomes ABSENT. -/
theorem takeMiss_good (s : State) (d : Nat) (hd : s.isDish d = true) (hs : (s.dish d).state = .settling) :
    ((s.takeMiss d).dish d).good = 0 := by
  have hm : ((s.modDish d Dish.missed).dish d).good = 0 := by
    rw [modDish_dish_same s d _ hd]
    simp [Dish.missed, hs]
  rw [takeMiss_eq]
  split
  · rw [declareAbsent_dish _ d ((modDish_isDish s d d _).trans hd)]
    unfold Dish.absent
    split
    · exact hm
    · exact hm
  · exact hm

end Sys2Proof.Machine

open Sys2Proof.Machine Sys2Proof.Claims in
/-- Settles O21: the steps of R6 write neither the status nor the bus (`supervising`), so the reply's status and the counts stay. -/
theorem validReplyReplacesTheLastStatus : Obligations.ValidReplyReplacesTheLastStatus := by
  unfold Obligations.ValidReplyReplacesTheLastStatus
  intro s d now k chars st r hs hr ha hst hfit
  obtain ⟨x, hfl, rfl, rfl, rfl, he⟩ := exec_of_reply ha hst hfit
  have hd : (s.beginAt x.frameEnd).isDish x.station = true := (hs.isDish _).mpr ⟨ha.1, ha.2.1⟩
  have hsl : thas (s.beginAt x.frameEnd).pbc.slots x.station = true := hs.hasSlots_of_isDish hd
  have hl := endAddressed_valid_changes (s.beginAt x.frameEnd) x st r hr.2
  refine happens_of_timer _ hr (f := fun t => t.endAddressed x (.valid st r)) he hl (fun q => within_transacting) fun o _ hlink => ?_
  have htail := endAddressed_valid_tail (s.beginAt x.frameEnd) x st r hr.2
  obtain ⟨h1, h2, h3⟩ := replied_status (s.beginAt x.frameEnd) x st r hd
  obtain ⟨k1, k2, k3⟩ := htail.status (d := x.station)
  obtain ⟨p1, p2, p3⟩ := transacting_keeps hl
  have hsame := transacting_sameDishes hl
  have hafter : Changes ({.dish .status x.station, .dish .good x.station} ∪ supervising x.station Set.univ ∪ {.slots .stop x.station})
      ((s.beginAt x.frameEnd).ended x true) ((s.beginAt x.frameEnd).endAddressed x (.valid st r)) :=
    ((heard_changes _ _ st _).andThen (takeReply_changes _ _ st _)).andThen htail
  have hbus := hafter.bus
  have hpbc := ended_pbc (s.beginAt x.frameEnd) x true
  have hex : (s.beginAt x.frameEnd).exhausts x true = false := endOf_valid _ _ _
  rw [hpbc, hex] at hbus
  have hflight : ((s.beginAt x.frameEnd).endAddressed x (.valid st r)).pbc.flight = none := by rw [hbus]
  have hpolled : (((s.beginAt x.frameEnd).endAddressed x (.valid st r)).slots x.station).polled = true := by
    have := hafter.same (.slots .polled x.station) (by simp)
    refine Eq.trans this ?_
    rw [ended_slots _ x true hsl]
    simp [State.slotsAfter]
  refine ⟨k1.trans h1, k2.trans h2, k3.trans h3, p1, p2, p3, hsame, hpolled, hflight, ?_, ?_, ?_, hlink⟩
  · show (match (State.pbc _).flight with | some x => _ | none => false) = false
    rw [hflight]
  · exact congrArg Pbc.commandCount hbus
  · exact congrArg Pbc.totals hbus

open Sys2Proof.Machine Sys2Proof.Claims in
/-- Settles O22: every way to miss ends the transaction in a miss of its kind (`exec_of_misses`), counted before the dish's miss is taken. -/
theorem missIsCountedByItsKind : Obligations.MissIsCountedByItsKind := by
  unfold Obligations.MissIsCountedByItsKind
  intro s d e w k f c now m hs hr h1 h48 hk1 hk2 hfl hm
  obtain ⟨due, rfl, -, he⟩ := exec_of_misses h48 hk1 hk2 hfl hm
  let x : Transaction := { kind := k, station := d, frameEnd := e, windowDue := w, frame := f }
  have hd : (s.beginAt due).isDish d = true := (hs.isDish _).mpr ⟨h1, h48⟩
  have hl := endAddressed_miss_changes (s.beginAt due) x m hr.2
  refine happens_of_timer _ hr he hl (fun q => within_transacting) fun o ho hlink => ?_
  have hsame := transacting_sameDishes hl
  let u := (s.beginAt due).missCounted x m
  have hsu : Changes (busEnd d) (s.beginAt due) u := missCounted_changes _ x m
  have hui : u.isDish d = true := (hsu.isDish d).trans hd
  have hud : u.dish d = s.dish d := hsu.dish
  have htail := endAddressed_miss_tail (s.beginAt due) x m hr.2
  have hut : Changes ({.dish .status d, .dish .good d} ∪ supervising d {.presence} ∪
      ({.dish .claim d, .dish .reservation d, .passDue} ∪ accounting ∪ closing)) u ((s.beginAt due).endAddressed x (.miss m)) :=
    ((missed_changes u d).andThen (takeMiss_changes u d)).andThen htail
  have hstat := ((takeMiss_changes u d).andThen htail).status (d := d)
  rw [modDish_dish_same u d _ hui, hud] at hstat
  obtain ⟨k1, k2, k3⟩ := hstat
  have hbus := hut.bus
  obtain ⟨b1, b2⟩ := missCounted_bus (s.beginAt due) x m
  have htot := (congrArg Pbc.totals hbus).trans (missCounted_totals (s.beginAt due) x m)
  have hretries := congrArg LinkTotals.retries htot
  have hflight := (congrArg Pbc.flight hbus).trans b1
  have hcount : CountsOf (s.beginAt due) ((s.beginAt due).endAddressed x (.miss m)) .pedestalMiss [some m.bit] :=
    countsOf_trans (missCounted_countsOf (s.beginAt due) x m) (hut.countsOf .pedestalMiss) hut.notices
  refine ⟨k1, k2, k3, fun hset => ?_, fun hkeep => ?_, hsame, hflight, ?_, (congrArg Pbc.commandCount hbus).trans b2,
    congrArg LinkTotals.transactions htot, congrArg LinkTotals.noReply htot, congrArg LinkTotals.check htot, congrArg LinkTotals.stray htot,
    hretries, hlink, ?_⟩
  · exact htail.good.trans (takeMiss_good u d hui (by rw [hud]; exact hset))
  · refine htail.state.trans ?_
    have hn : u.dsv.nMiss = s.dsv.nMiss := hsu.supervision.2.1
    rw [takeMiss_of_not_due (absenceDue_of hui (by rw [hud, hn]; exact hkeep)), modDish_dish_same u d _ hui, hud]
    rfl
  · show (match (State.pbc _).flight with | some x => _ | none => false) = false
    rw [hflight]
  · have := countsOf_congr (s' := s) (t' := { (s.beginAt due).endAddressed x (.miss m) with oli := o }) hcount rfl rfl ho
    cases m <;> exact this

end

section
-- One declaration at a time: the check bounds memory, and every thread in flight takes its stack from it.
set_option Elab.async false

/-! Members of slew records and of waves: what the closing of one leaves of its record (R113) or of its wave (R82). -/

namespace Sys2Proof.Machine
open Sys2Proof.Claims

/-! ## Slew records -/

theorem modRecord_record (s : State) (id : Nat) (f : SlewRecord → SlewRecord) (hf : ∀ r, (f r).id = r.id) :
    (s.modRecord id f).record id = (s.record id).map f := by
  have hp : ((fun r : SlewRecord => r.id == id) ∘ fun r => if r.id == id then f r else r) = fun r => r.id == id := by
    funext r
    by_cases h : r.id = id <;> simp [h, hf]
  unfold State.record State.modRecord
  rw [List.find?_map, hp]
  cases hr : s.sls.table.find? (fun r => r.id == id) with
  | none => rfl
  | some r =>
    have : r.id = id := by simpa using List.find?_some hr
    simp [this]

theorem isOpen_eq (st : MemberState) : st.isOpen = (st == .waiting || st == .admitted) := by
  cases st <;> rfl

/-- The record after the completion test (R113). -/
def SlewRecord.tested (r : SlewRecord) (now : Nat) : SlewRecord :=
  if r.complete || r.members.any (fun m => m.state.isOpen) then r
  else { r with complete := true, completed := some now, deadlineDue := none }

/-- The record with its open member of dish `d` closed. -/
def SlewRecord.closed (r : SlewRecord) (d : Nat) (st : MemberState) : SlewRecord :=
  r.modMember d (fun m => if m.state.isOpen then { m with state := st } else m)

theorem completionTest_record (s : State) (id : Nat) {r : SlewRecord} (h : s.record id = some r) :
    (s.completionTest id).record id = some (r.tested s.now)
      ∧ (r.complete = false → (r.tested s.now).complete = true → .slewDone id ∈ (s.completionTest id).oli.notices
          ∧ (s.completionTest id).act.monitor = (s.monitorCompleted (.host id)).act.monitor) := by
  unfold State.completionTest SlewRecord.tested
  simp only [h]
  split
  next hc => exact ⟨h, fun h1 h2 => by simp [h1] at h2⟩
  next hc =>
    refine ⟨?_, fun _ _ => ⟨mem_raise _ _, ?_⟩⟩
    · have hrec := modRecord_record s id (fun r => { r with complete := true, completed := some s.now, deadlineDue := none }) fun _ => rfl
      have hr := (raise_changes (s.modRecord id (fun r => { r with complete := true, completed := some s.now, deadlineDue := none }))
        (.slewDone id)).record (id := id)
      exact hr.trans (hrec.trans (by rw [h]; rfl))
    · unfold State.monitorCompleted
      rw [(raise_changes _ _).monitor, (raise_changes _ _).now]
      rfl

theorem closeHost_record (s : State) (id d : Nat) (st : MemberState) {r : SlewRecord} (h : s.record id = some r) :
    (s.closeHost id d st).record id = some ((r.closed d st).tested s.now)
      ∧ (r.complete = false → ((r.closed d st).tested s.now).complete = true → .slewDone id ∈ (s.closeHost id d st).oli.notices
          ∧ (s.closeHost id d st).act.monitor = (s.monitorCompleted (.host id)).act.monitor) := by
  have hm : (s.modRecord id (·.closed d st)).record id = some (r.closed d st) := by
    rw [modRecord_record s id (·.closed d st) fun _ => rfl, h]
    rfl
  exact completionTest_record _ id hm

/-- A record whose members of dish `d` were open. -/
theorem recordAfter_closed {r : SlewRecord} {d : Nat} {st : MemberState} {now : Nat} (hc : r.complete = false)
    (hm : ∀ y ∈ r.members, y.dish = d → y.state.isOpen = true) :
    RecordAfter r ((r.closed d st).tested now) now (fun y => if y.dish = d then st else y.state) := by
  have hms : (r.closed d st).members = r.members.map (fun m => { m with state := if m.dish = d then st else m.state }) := by
    refine List.map_congr_left fun m hmem => ?_
    by_cases hd : m.dish = d
    · simp [hd, hm m hmem hd]
    · simp [hd]
  have hcl : r.closed d st = { r with members := r.members.map (fun m => { m with state := if m.dish = d then st else m.state }) } := by
    rw [← hms]; rfl
  unfold RecordAfter SlewRecord.tested
  simp only [hcl, hc, Bool.false_or, isOpen_eq]
  split <;> rfl

/-- The closing of a host claim closes its member (R104, R105). -/
theorem closeClaim_host (s : State) (d : Nat) (host : MemberState) (wave : WaveState) {c : OpenClaim} {id : Nat} {r : SlewRecord}
    (hc : (s.dish d).claim = some c) (hid : c.ref = .host id) (h : s.record id = some r) :
    (s.closeClaim d host wave).record id = some ((r.closed d host).tested s.now)
      ∧ (r.complete = false → ((r.closed d host).tested s.now).complete = true → .slewDone id ∈ (s.closeClaim d host wave).oli.notices
          ∧ (s.closeClaim d host wave).act.monitor = (s.monitorCompleted (.host id)).act.monitor) := by
  unfold State.closeClaim
  simp only [hc, hid]
  split
  · exact closeHost_record (s.modDish d Dish.dropClaim).trigger id d host h
  · exact closeHost_record (s.modDish d Dish.dropClaim) id d host h

/-! ## Waves -/

theorem waveIsOpen_eq (st : WaveState) : st.isOpen = (st == .waiting || st == .preemptWait || st == .admitted) := by
  cases st <;> rfl

theorem causes_isEmpty (c : Causes) : c.isEmpty = true ↔ c = {} := by
  cases c
  simp [Causes.isEmpty]
  tauto

/-- The wave test on a wave that now has the members `ms` (R82). -/
theorem waveTest_after {s u : State} {z : Nat} {w : Wave} {ms : List WaveMember} (hz : thas s.znc.zones z = true)
    (hu : s.zone z = { u.zone z with wave := some { w with members := ms } }) : WaveAfter u (s.waveTest z) z w ms := by
  have hw : (s.zone z).wave = some { w with members := ms } := by rw [hu]
  unfold WaveAfter State.waveTest
  simp only [hw, waveIsOpen_eq]
  split
  next => exact hu
  next =>
    refine ⟨?_, mem_raise _ _⟩
    have hmod := modZone_zone_same s z (fun r =>
      { r with wave := none, lastOutcome := some ms, state := if r.causes.isEmpty then r.state else .stowed }) hz
    have hr := (raise_changes (s.modZone z (fun r =>
      { r with wave := none, lastOutcome := some ms, state := if r.causes.isEmpty then r.state else .stowed })) (.zone z)).zone (z := z)
    refine (hr.trans hmod).trans ?_
    rw [hu]
    by_cases he : (u.zone z).causes = {}
    · simp [he, (causes_isEmpty {}).mpr rfl]
    · have : (u.zone z).causes.isEmpty = false := by simpa [← causes_isEmpty] using he
      simp [he, this]

/-- A closed wave is handed to the timing monitor (R188). -/
theorem waveTest_monitor {s : State} {z : Nat} {w : Wave} (hw : (s.zone z).wave = some w) (hn : w.members.any (fun m => m.state.isOpen) = false) :
    (s.waveTest z).act.monitor = (s.monitorCompleted (.wave z)).act.monitor := by
  unfold State.waveTest
  simp only [hw, hn, Bool.false_eq_true, if_false]
  unfold State.monitorCompleted
  rw [(raise_changes _ _).monitor, (raise_changes _ _).now]
  rfl

/-- The members of a wave with a new state for dish `d`. -/
def Wave.membersWith (w : Wave) (d : Nat) (st : WaveState) : List WaveMember :=
  w.members.map (fun y => if y.dish = d then { y with state := st } else y)

theorem setWaveMember_after (s : State) {z d : Nat} {st : WaveState} {w : Wave} (hz : thas s.znc.zones z = true)
    (hw : (s.zone z).wave = some w) : WaveAfter s (s.setWaveMember z d st) z w (w.membersWith d st) := by
  refine waveTest_after (s := s.modZone z (fun r => { r with wave := r.wave.map (·.setMember d st) })) ?_ ?_
  · simpa [thas, State.modZone] using hz
  · rw [modZone_zone_same s z _ hz, hw]
    simp [Wave.setMember, Wave.membersWith]

/-- A wave seen from an earlier state with the same zone, and at a later one with the same zone. -/
theorem waveAfter_congr {s s' t t' : State} {z : Nat} {w : Wave} {ms : List WaveMember} (h : WaveAfter s t z w ms)
    (hs : s'.zone z = s.zone z) (ht : t'.zone z = t.zone z) (hn : t.oli.notices ⊆ t'.oli.notices) : WaveAfter s' t' z w ms := by
  unfold WaveAfter at h ⊢
  simp only [hs, ht]
  split
  next hany => rwa [if_pos hany] at h
  next hany =>
    rw [if_neg hany] at h
    exact ⟨h.1, hn h.2⟩

/-- The closing of a wave claim gives its member the new state (R81). -/
theorem closeClaim_wave (s : State) (d : Nat) (host : MemberState) (wave : WaveState) {c : OpenClaim} {z : Nat} {w : Wave}
    (hc : (s.dish d).claim = some c) (href : c.ref = .wave z) (hz : thas s.znc.zones z = true) (hw : (s.zone z).wave = some w) :
    WaveAfter s (s.closeClaim d host wave) z w (w.membersWith d wave) := by
  unfold State.closeClaim
  simp only [hc, href]
  split
  · exact setWaveMember_after (s.modDish d Dish.dropClaim).trigger hz hw
  · exact setWaveMember_after (s.modDish d Dish.dropClaim) hz hw

end Sys2Proof.Machine
end

section
-- One declaration at a time: the check bounds memory, and every thread in flight takes its stack from it.
set_option Elab.async false

/-! O23: absence, the command that a miss leaves for a retry, and the one that it exhausts. -/

namespace Sys2Proof.Machine
open Sys2Proof.Claims

/-! ## Allocation passes over an ABSENT dish (R153) -/

theorem mem_insertBy {α : Type} {before : α → α → Bool} {x y : α} {l : List α} (h : y ∈ insertBy before x l) : y = x ∨ y ∈ l := by
  induction l with
  | nil => simpa [insertBy] using h
  | cons z l ih =>
    unfold insertBy at h
    split at h
    · simpa using h
    · rcases List.mem_cons.mp h with rfl | h
      · exact .inr (by simp)
      · rcases ih h with h | h
        · exact .inl h
        · exact .inr (by simp [h])

theorem mem_of_mem_sortBy {α : Type} {before : α → α → Bool} {y : α} {l : List α} (h : y ∈ sortBy before l) : y ∈ l := by
  have key : ∀ (l acc : List α), y ∈ l.foldl (fun acc x => insertBy before x acc) acc → y ∈ l ∨ y ∈ acc := by
    intro l
    induction l with
    | nil => exact fun acc h => .inr h
    | cons x l ih =>
      intro acc h
      rcases ih _ h with h | h
      · exact .inl (by simp [h])
      · rcases mem_insertBy h with rfl | h
        · exact .inl (by simp)
        · exact .inr h
  simpa using key l [] h

theorem not_absent_of_mem_priority {s : State} {f : Feeder} {e : Nat} (h : e ∈ s.priority f) : (s.dish e).state ≠ .absent := by
  have := (List.mem_filter.mp (mem_of_mem_sortBy h)).2
  simp only [Bool.and_eq_true, bne_iff_ne] at this
  exact this.2

theorem mem_of_mem_fits {s : State} {a sum : Nat} {ds : List Nat} {x : Nat × Nat} (h : x ∈ s.fits a sum ds) : x.1 ∈ ds := by
  induction ds generalizing sum with
  | nil => simp [State.fits] at h
  | cons e ds ih =>
    unfold State.fits at h
    rcases List.mem_cons.mp h with rfl | h
    · simp
    · simp [ih h]

/-- What allocation may change while it passes over dish `d`. -/
def heatingOthers (d : Nat) : Set Part :=
  accounting ∪ {.counters (some .shedStage)} ∪ {p | ∃ e, d ≠ e ∧ (p = .heater e ∨ p = .slots .heat e)}

@[simp] theorem mem_heatingOthers (p : Part) (d : Nat) : p ∈ heatingOthers d ↔
    ((p = .feeders ∨ p = .passDue ∨ p = .counters (some .ceilingHigh) ∨ p = .conds) ∨ p = .counters (some .shedStage))
      ∨ ∃ e, d ≠ e ∧ (p = .heater e ∨ p = .slots .heat e) := Iff.rfl

theorem orderStage_others (s : State) {d e : Nat} (h : d ≠ e) (stage : Nat) : Changes (heatingOthers d) s (s.orderStage e stage) := by
  refine (orderStage_changes s e stage).mono (Set.union_subset ?_ ?_)
  · rintro p (rfl | rfl) <;> exact .inr ⟨e, h, by simp⟩
  · exact fun p hp => .inl (.inl hp)

section
variable {s : State} {d : Nat} (h : (s.dish d).state = .absent)
include h

theorem ne_of_mem_priority {f : Feeder} {e : Nat} (he : e ∈ s.priority f) : d ≠ e := by
  rintro rfl
  exact not_absent_of_mem_priority he h

theorem allocate_others (f : Feeder) : Changes (heatingOthers d) s (s.allocate f) := by
  unfold State.allocate
  refine Changes.trans (Changes.foldl _ _ s fun t x hx => ?_) (Changes.foldl _ _ _ fun t x hx => ?_)
  · have hne := ne_of_mem_priority h (mem_of_mem_fits (List.mem_reverse.mp hx))
    exact Changes.ite (fun _ => orderStage_others t hne _) (fun _ => Changes.refl _ t)
  · have hne := ne_of_mem_priority h (mem_of_mem_fits hx)
    refine Changes.ite (fun _ => ?_) (fun _ => Changes.refl _ t)
    split
    · exact orderStage_others t hne _
    · exact Changes.refl _ t

theorem cutStages_others (f : Feeder) (demand fuel : Nat) : Changes (heatingOthers d) s (s.cutStages f demand fuel) := by
  induction fuel generalizing s with
  | zero => exact Changes.refl _ s
  | succ fuel ih =>
    unfold State.cutStages
    refine Changes.ite (fun _ => Changes.refl _ s) (fun _ => ?_)
    split
    · exact Changes.refl _ s
    next e he =>
      have hne := ne_of_mem_priority h (List.mem_reverse.mp (List.mem_of_find?_eq_some he))
      have h1 := (orderStage_others s hne ((s.heater e).granted - 1)).trans ((count_changes _ .shedStage (some f.code)).mono (by simp))
      exact h1.trans (ih (h1.state.trans h))

theorem allocateOn_others (f : Feeder) : Changes (heatingOthers d) s (s.allocateOn f) := by
  have h1 := allocate_others h f
  have h2 : Changes (heatingOthers d) (s.allocate f) ((s.allocate f).applyDemand f) := by
    unfold State.applyDemand
    split
    · exact cutStages_others (h1.state.trans h) f _ _
    · exact Changes.refl _ _
  exact (h1.trans h2).trans ((syncUnmet_changes _).mono (by simp))

/-- R150: the heater of a dish declared ABSENT asks for nothing and counts nothing, and its HEAT command stays as it is. -/
theorem heaterAbsent_heater (hh : thas s.mlc.heaters d = true) : ((s.heaterAbsent d).heater d).counted = 0
    ∧ ((s.heaterAbsent d).heater d).granted = 0 ∧ (s.heaterAbsent d).slots d = s.slots d := by
  let u := s.modHeater d (fun x => { x with
    state := if x.state.isSurface then .off else x.state, requested := 0, granted := 0, counted := 0, meltEntry := none, hold := .absent })
  have hu : (u.heater d).counted = 0 ∧ (u.heater d).granted = 0 := by
    simp [u, modHeater_heater_same s d _ hh]
  have hsettle := settle_changes u (s.dish d).feeder
  have hall : Changes (heatingOthers d) u (s.heaterAbsent d) :=
    (hsettle.mono (fun p hp => .inl (.inl hp))).trans (allocateOn_others (hsettle.state.trans h) _)
  have hheat : (s.heaterAbsent d).heater d = u.heater d := hall.heater (by simp +contextual)
  rw [hheat]
  exact ⟨hu.1, hu.2, hall.slots (by simp +contextual)⟩

end

/-! ## Absence (R8) -/

theorem clearSlots_slots (s : State) (d : Nat) (hs : thas s.pbc.slots d = true) :
    (s.clearSlots d).slots d = (s.slots d).removeMove.removeStop.removeHeat := modSlots_slots_same s d _ hs

/-- The slots and the heater of a dish that is declared ABSENT (R8, R150). -/
theorem declareAbsent_clears (s : State) (d : Nat) (hd : s.isDish d = true) (hs : thas s.pbc.slots d = true)
    (hh : thas s.mlc.heaters d = true) : ((s.declareAbsent d).heater d).counted = 0 ∧ ((s.declareAbsent d).heater d).granted = 0
      ∧ (s.declareAbsent d).slots d = (s.slots d).removeMove.removeStop.removeHeat := by
  let u := (s.abortClaim d .absent).modDish d (fun r => { r with state := .absent, timer := none, supFault := .clear })
  let v := (u.release d).clearSlots d
  have hc := abortClaim_changes s d .absent
  have hu : (u.dish d).state = .absent := by
    simp only [u, modDish_dish_same _ d _ ((hc.isDish d).trans hd)]
  have hrel := release_changes u d
  have huv := hrel.andThen (clearSlots_changes (u.release d) d)
  have hus : (u.release d).slots d = s.slots d := hrel.slots.trans (hc.slots (d := d))
  have hsl : thas (u.release d).pbc.slots d = true := (hrel.hasSlots d).trans ((hc.hasSlots d).trans hs)
  have hvh : thas v.mlc.heaters d = true := (huv.hasHeater d).trans ((hc.hasHeater d).trans hh)
  obtain ⟨h1, h2, h3⟩ := heaterAbsent_heater (huv.state.trans hu) hvh
  have htail := (flag_changes (v.heaterAbsent d) d { presence := true }).andThen (endPreempt_changes _ d)
  have hheat : (s.declareAbsent d).heater d = (v.heaterAbsent d).heater d := htail.heater
  have hslots : (s.declareAbsent d).slots d = (v.heaterAbsent d).slots d := htail.slots
  rw [hheat, hslots, h3]
  refine ⟨h1, h2, ?_⟩
  rw [clearSlots_slots _ d hsl, hus]

theorem presence_union (x : ChangeFlags) : x.union { presence := true } = { x with presence := true } := by
  simp [ChangeFlags.union]

theorem Dish.absent_claim (r : Dish) : r.absent.claim = none := closed_claim r

theorem Dish.absent_last (r : Dish) : r.absent.last = r.last := by
  unfold Dish.absent
  split <;> rfl

/-! ## The completion of an event, without the clock and the frame of the blocks -/

theorem ends_of_timer {s : State} {c : Instr} {due : Nat} {f : State → State} {p : State → Prop} (l : Set Part) (h : Running s)
    (he : exec c s = .next (s.onTimer (some due) f)) (hv : Changes l (s.beginAt due) (f (s.beginAt due)))
    (hp : ∀ o : Oli, o.notices = (f (s.beginAt due)).oli.notices → p { f (s.beginAt due) with oli := o })
    (hl : Part.store ∉ l := by simp) : ∃ t, exec c s = .next t ∧ p t := by
  refine ⟨_, he, ?_⟩
  have hn : (f (s.beginAt due)).nvs = s.nvs := hv.store hl
  obtain ⟨y, fp, lf, hy, -⟩ := timer_of s due f h (by rw [hn]; exact h.2)
  rw [hy]
  exact hp _ rfl

/-! ## A miss below N_miss -/

section
variable {s : State} (x : Transaction) (m : MissKind)

theorem missCounted_dish (d : Nat) : (s.missCounted x m).dish d = s.dish d := (missCounted_changes s x m).dish

theorem missCounted_slots (hs : thas s.pbc.slots x.station = true) : (s.missCounted x m).slots x.station = s.slotsAfter x false := by
  rw [← ended_slots s x false hs]
  exact (countMiss_changes _ m).slots

variable (hp : s.nvs.phase = .idle) (hd : s.isDish x.station = true)
  (hm : min 65535 ((s.dish x.station).miss + 1) < s.dsv.nMiss)
include hp hd hm

omit hp in
theorem takeMiss_missCounted : (s.missCounted x m).takeMiss x.station = (s.missCounted x m).modDish x.station Dish.missed := by
  have h := missCounted_changes s x m
  have hn : (s.missCounted x m).dsv.nMiss = s.dsv.nMiss := h.supervision.2.1
  refine takeMiss_of_not_due (absenceDue_of ((h.isDish _).trans hd) (.inr ?_))
  rw [missCounted_dish, hn]
  exact hm

/-- A miss below N_miss of a command that is not used up. -/
theorem endAddressed_kept (hx : s.exhausts x false = false) :
    s.endAddressed x (.miss m) = (s.missCounted x m).modDish x.station Dish.missed := by
  rw [endAddressed_miss_eq s x m hp, hx, takeMiss_missCounted x m hd hm]
  rfl

/-- A miss below N_miss of a command that is used up. -/
theorem endAddressed_exhausted (hx : s.exhausts x false = true) (ha : (s.dish x.station).state ≠ .absent) :
    s.endAddressed x (.miss m) = ((s.missCounted x m).modDish x.station Dish.missed).exhausted x.station := by
  have hstate : (((s.missCounted x m).modDish x.station Dish.missed).dish x.station).state ≠ .absent := by
    rw [modDish_dish_same _ _ _ (((missCounted_changes s x m).isDish _).trans hd), missCounted_dish]
    exact ha
  rw [endAddressed_miss_eq s x m hp, takeMiss_missCounted x m hd hm, hx, if_pos (by simpa using hstate)]

end

/-! ## What a miss does at the slots (R41, R42) -/

theorem exhausts_of_move {s : State} {x : Transaction} (hk : x.kind = .home ∨ ∃ q, x.kind = .move q) {y : MoveFlight}
    (hy : (s.slots x.station).moveFlight = some y) (hw : y.withdrawn = false) : s.exhausts x false = decide (3 ≤ y.attempts) := by
  have hend : (s.slots x.station).endOf x.kind false s.moment = (s.slots x.station).endMove false s.moment := by
    rcases hk with hk | ⟨q, hk⟩ <;> rw [hk] <;> rfl
  unfold State.exhausts
  rw [hend]
  unfold Slots.endMove
  by_cases ha : y.attempts < 3
  · simp [hy, hw, ha, Nat.not_le.mpr ha]
  · simp [hy, hw, ha, Nat.not_lt.mp ha]

theorem slotsAfter_of_move {s : State} {x : Transaction} (hk : x.kind = .home ∨ ∃ q, x.kind = .move q) {y : MoveFlight}
    (hy : (s.slots x.station).moveFlight = some y) (hw : y.withdrawn = false) : (s.slotsAfter x false).moveFlight = none
      ∧ (s.slotsAfter x false).movePending = if y.attempts < 3 then some { cmd := y.cmd, attempts := y.attempts, age := s.moment }
          else (s.slots x.station).movePending := by
  have hend : (s.slots x.station).endOf x.kind false s.moment = (s.slots x.station).endMove false s.moment := by
    rcases hk with hk | ⟨q, hk⟩ <;> rw [hk] <;> rfl
  unfold State.slotsAfter
  rw [hend]
  unfold Slots.endMove
  by_cases ha : y.attempts < 3 <;> simp [hy, hw, ha]

theorem slotsAfter_of_stop {s : State} {x : Transaction} (hk : x.kind = .stop) (hf : (s.slots x.station).stopFlight = some false) :
    (s.slotsAfter x false).stopPending = some { age := s.moment, retry := true } ∧ (s.slotsAfter x false).stopFlight = none := by
  simp [State.slotsAfter, hk, Slots.endOf, Slots.endStop, hf]

theorem slotsAfter_of_heat {s : State} {x : Transaction} {g : Nat} (hk : x.kind = .heat g) {y : HeatFlight}
    (hf : (s.slots x.station).heatFlight = some y) (hw : y.withdrawn = false) : (s.slotsAfter x false).heatFlight = none
      ∧ (s.slotsAfter x false).heatPending =
        if (s.slots x.station).heatPending.isSome then (s.slots x.station).heatPending
        else some { stage := y.stage, age := s.moment, retry := true } := by
  by_cases hp : (s.slots x.station).heatPending.isSome = true <;>
    simp [State.slotsAfter, hk, Slots.endOf, Slots.endHeat, hf, hw, hp]

end Sys2Proof.Machine
end

section
-- One declaration at a time: the check bounds memory, and every thread in flight takes its stack from it.
set_option Elab.async false

/-! O23: its three statements, from the laws of a miss. -/

namespace Sys2Proof.Machine
open Sys2Proof.Claims

theorem Shape.hasHeater {s : State} (h : Shape s) {d : Nat} (h1 : 1 ≤ d) (h48 : d ≤ 48) : thas s.mlc.heaters d = true := by
  simp [thas, h.2.2.1, h1, h48]

theorem Shape.hasZone {s : State} (h : Shape s) {z : Nat} (h1 : 1 ≤ z) (h8 : z ≤ 8) : thas s.znc.zones z = true := by
  simp [thas, h.2.2.2.2.1, h1, h8]

theorem absenceClearsTheDish : AbsenceClearsTheDish := by
  intro s d e w k f c now m hs hr h1 h48 hk1 hk2 hfl hm hna hmiss hlast
  obtain ⟨due, rfl, -, he⟩ := exec_of_misses h48 hk1 hk2 hfl hm
  let x : Transaction := { kind := k, station := d, frameEnd := e, windowDue := w, frame := f }
  have hd : (s.beginAt due).isDish d = true := (hs.isDish _).mpr ⟨h1, h48⟩
  have hl := endAddressed_miss_changes (s.beginAt due) x m hr.2
  refine happens_of_timer _ hr he hl (fun q => within_transacting) fun o _ _ => ?_
  let u := ((s.beginAt due).missCounted x m).modDish d Dish.missed
  have hsu : Changes (busEnd d) (s.beginAt due) ((s.beginAt due).missCounted x m) := missCounted_changes _ x m
  have hsu' := hsu.andThen (missed_changes ((s.beginAt due).missCounted x m) d)
  have hui : u.isDish d = true := (hsu'.isDish d).trans hd
  have hud : u.dish d = (s.dish d).missed :=
    (modDish_dish_same _ d _ ((hsu.isDish d).trans hd)).trans (congrArg Dish.missed hsu.dish)
  have hsl : thas u.pbc.slots d = true := (hsu'.hasSlots d).trans (hs.hasSlots_of_isDish hd)
  have hh : thas u.mlc.heaters d = true := (hsu'.hasHeater d).trans (hs.hasHeater h1 h48)
  have hdue : u.absenceDue d = true := by
    have hn : u.dsv.nMiss = s.dsv.nMiss := hsu'.supervision.2.1
    have hnow : u.now = max s.now due := hsu'.now
    have hkeep : (s.dish d).missed.state = (s.dish d).state ∧ (s.dish d).missed.lastGood = (s.dish d).lastGood := ⟨rfl, rfl⟩
    have hcount : s.dsv.nMiss ≤ (s.dish d).missed.miss := hmiss
    unfold State.absenceDue
    rw [hud, hn, hnow, hkeep.1, hkeep.2]
    cases hg : (s.dish d).lastGood with
    | none => simp [hna, hcount]
    | some g => simp [hna, hcount, hlast g hg]
  have htake : ((s.beginAt due).missCounted x m).takeMiss d = u.declareAbsent d := by
    rw [takeMiss_eq]
    exact if_pos hdue
  have hdish : (u.declareAbsent d).dish d = (s.dish d).missed.absent := by
    rw [declareAbsent_dish u d hui, hud]
  have hfin : (s.beginAt due).endAddressed x (.miss m) = u.declareAbsent d := by
    rw [endAddressed_miss_eq (s.beginAt due) x m hr.2]
    show (if _ && ((State.takeMiss _ d).dish d).state != .absent then _ else State.takeMiss _ d) = _
    rw [htake, hdish]
    simp [Dish.absent]
  obtain ⟨c1, c2, c3⟩ := declareAbsent_clears u d hui hsl hh
  rw [← hfin] at hdish c1 c2 c3
  refine ⟨?_, ?_, ?_, ?_, ?_, ?_, c1, c2, ?_, ?_, ?_, ?_⟩
  · exact congrArg Dish.state hdish
  · exact congrArg Dish.reservation hdish
  · exact (congrArg Dish.claim hdish).trans (Dish.absent_claim _)
  · exact congrArg Dish.timer hdish
  · exact congrArg Dish.supFault hdish
  · exact (congrArg Dish.last hdish).trans (Dish.absent_last _)
  · exact congrArg Slots.movePending c3
  · exact congrArg Slots.stopPending c3
  · exact congrArg Slots.heatPending c3
  · exact (congrArg Dish.flags hdish).trans (presence_union _)

theorem missedCommandIsKeptForARetry : MissedCommandIsKeptForARetry := by
  intro s d e w k f c now m hs hr h1 h48 hfl hm hmiss
  let x : Transaction := { kind := k, station := d, frameEnd := e, windowDue := w, frame := f }
  have ends (p : State → Prop) (hk1 : k ≠ .allStop) (hk2 : k ≠ .heatAllOff) (hx : ∀ due, (s.beginAt due).exhausts x false = false)
      (hp : ∀ due o, p { ((s.beginAt due).missCounted x m).modDish d Dish.missed with oli := o }) : ∃ t, exec c s = .next t ∧ p t := by
    obtain ⟨due, rfl, -, he⟩ := exec_of_misses h48 hk1 hk2 hfl hm
    have hd : (s.beginAt due).isDish d = true := (hs.isDish _).mpr ⟨h1, h48⟩
    refine ends_of_timer _ hr he (endAddressed_miss_changes (s.beginAt due) x m hr.2) fun o _ => ?_
    rw [show State.endAddressed _ { kind := k, station := d, frameEnd := e, windowDue := w, frame := f } _ = _ from
      endAddressed_kept (s := s.beginAt due) x m hr.2 hd hmiss (hx due)]
    exact hp due o
  have hslots (due : Nat) : (((s.beginAt due).missCounted x m).modDish d Dish.missed).slots d = (s.beginAt due).slotsAfter x false :=
    missCounted_slots x m (hs.hasSlots_of_isDish ((hs.isDish _).mpr ⟨h1, h48⟩))
  have hrest (due : Nat) : ((((s.beginAt due).missCounted x m).modDish d Dish.missed).dish d).claim = (s.dish d).claim
      ∧ ((((s.beginAt due).missCounted x m).modDish d Dish.missed).dish d).reservation = (s.dish d).reservation := by
    have h : Changes (busEnd d ∪ {.dish .status d, .dish .good d}) (s.beginAt due) (((s.beginAt due).missCounted x m).modDish d Dish.missed) :=
      (missCounted_changes (s.beginAt due) x m).andThen (missed_changes _ d)
    exact ⟨h.claim, h.reservation⟩
  refine ⟨fun y hk hy hw ha => ?_, fun hk hf => ?_, fun g y hk hy hw => ?_⟩
  · have hkb : k ≠ .allStop ∧ k ≠ .heatAllOff := by rcases hk with rfl | ⟨q, rfl⟩ <;> simp
    refine ends _ hkb.1 hkb.2 (fun due => ?_) fun due o => ?_
    · exact (exhausts_of_move (s := s.beginAt due) (x := x) hk hy hw).trans (by simpa using ha)
    · obtain ⟨h2, h3⟩ := slotsAfter_of_move (s := s.beginAt due) (x := x) hk hy hw
      obtain ⟨h4, h5⟩ := hrest due
      exact ⟨(congrArg Slots.movePending (hslots due)).trans (h3.trans (if_pos ha)), (congrArg Slots.moveFlight (hslots due)).trans h2, h4, h5⟩
  · refine ends _ (by simp [hk]) (by simp [hk]) (fun due => ?_) fun due o => ?_
    · simp [State.exhausts, x, hk, Slots.endOf]
    · obtain ⟨h2, h3⟩ := slotsAfter_of_stop (s := s.beginAt due) (x := x) hk hf
      exact ⟨(congrArg Slots.stopPending (hslots due)).trans h2, (congrArg Slots.stopFlight (hslots due)).trans h3⟩
  · refine ends _ (by simp [hk]) (by simp [hk]) (fun due => ?_) fun due o => ?_
    · simp [State.exhausts, x, hk, Slots.endOf]
    · obtain ⟨h2, h3⟩ := slotsAfter_of_heat (s := s.beginAt due) (x := x) hk hy hw
      refine ⟨(congrArg Slots.heatFlight (hslots due)).trans h2, ((congrArg Slots.heatPending (hslots due)).trans h3).trans ?_⟩
      show (if ((s.slots d).heatPending).isSome = true then (s.slots d).heatPending else _) = _
      cases (s.slots d).heatPending <;> rfl

/-! ## Exhaustion (R14, R17) -/

/-- An exhausted auto task waits again. -/
theorem exhausted_task {s : State} {d : Nat} {cl : OpenClaim} (hd : s.isDish d = true) (hc : (s.dish d).claim = some cl)
    (hs : cl.standing = .admitted) (hr : cl.ref = .task) :
    ((s.exhausted d).dish d).claim = some { cl with standing := .waiting, running := false }
      ∧ ((s.exhausted d).dish d).task = (s.dish d).task ∧ ((s.exhausted d).dish d).reservation = none ∧ (s.exhausted d).fbu.passDue = true := by
  have he : s.exhausted d = s.taskWaitsAgain d := by
    obtain ⟨ref, st, run, bw⟩ := cl
    simp only at hs hr
    subst hs hr
    unfold State.exhausted
    simp only [hc]
  let u := s.modDish d (fun r => { r with claim := r.claim.map (fun c => { c with standing := .waiting, running := false }), slewTimeout := none })
  have hu : (s.exhausted d).dish d = { u.dish d with reservation := none } := by
    rw [he]
    exact release_dish u d ((modDish_isDish s d d _).trans hd)
  have hud : u.dish d = _ := modDish_dish_same s d _ hd
  rw [hu, hud, hc]
  exact ⟨rfl, rfl, rfl, by rw [he]; rfl⟩

/-- An exhausted member closes ABORTED(LINK). -/
theorem exhausted_member {s : State} {d : Nat} {cl : OpenClaim} (hc : (s.dish d).claim = some cl)
    (hs : cl.standing = .admitted) (hr : cl.ref ≠ .task) : s.exhausted d = (s.abortClaim d .link).release d := by
  obtain ⟨ref, st, run, bw⟩ := cl
  simp only at hs
  subst hs
  unfold State.exhausted
  simp only [hc]

theorem exhaustionReturnsTheTaskOrAbortsTheMember : ExhaustionReturnsTheTaskOrAbortsTheMember := by
  intro s d e w k f c now m y cl hs hr h1 h48 hfl hm hmiss hk hy hw ha hna hcl hadm
  have hkb : k ≠ .allStop ∧ k ≠ .heatAllOff := by rcases hk with rfl | ⟨q, rfl⟩ <;> simp
  obtain ⟨due, rfl, -, he⟩ := exec_of_misses h48 hkb.1 hkb.2 hfl hm
  let x : Transaction := { kind := k, station := d, frameEnd := e, windowDue := w, frame := f }
  have hd : (s.beginAt due).isDish d = true := (hs.isDish _).mpr ⟨h1, h48⟩
  have hsl : thas (s.beginAt due).pbc.slots d = true := hs.hasSlots_of_isDish hd
  have hx : (s.beginAt due).exhausts x false = true :=
    (exhausts_of_move (s := s.beginAt due) (x := x) hk hy hw).trans (by simp [ha])
  let u := ((s.beginAt due).missCounted x m).modDish d Dish.missed
  have hfin : (s.beginAt due).endAddressed x (.miss m) = u.exhausted d := endAddressed_exhausted x m hr.2 hd hmiss hx hna
  have hsu : Changes (busEnd d ∪ {.dish .status d, .dish .good d}) (s.beginAt due) u :=
    (missCounted_changes (s.beginAt due) x m).andThen (missed_changes _ d)
  have hui : u.isDish d = true := (hsu.isDish d).trans hd
  have huc : (u.dish d).claim = some cl := (hsu.claim (d := d)).trans hcl
  have hut := exhausted_frame u d
  have hut' : Changes _ u ((s.beginAt due).endAddressed x (.miss m)) := hfin ▸ hut
  have hres : ((u.exhausted d).dish d).reservation = none := by
    by_cases hr : cl.ref = .task
    · exact (exhausted_task hui huc hadm hr).2.2.1
    · rw [exhausted_member huc hadm hr]
      exact release_reservation _ d (((abortClaim_changes u d .link).isDish d).trans hui)
  obtain ⟨m1, m2⟩ := slotsAfter_of_move (s := s.beginAt due) (x := x) hk hy hw
  have hslots : ((s.beginAt due).endAddressed x (.miss m)).slots d = (s.beginAt due).slotsAfter x false :=
    hut'.slots.trans (missCounted_slots x m hsl)
  have htot : ((s.beginAt due).endAddressed x (.miss m)).pbc.totals.exhaustions = inc32 s.pbc.totals.exhaustions := by
    rw [hut'.bus]
    show ((s.beginAt due).missCounted x m).pbc.totals.exhaustions = _
    rw [missCounted_totals, hx]
    rfl
  refine ends_of_timer _ hr he (endAddressed_miss_changes (s.beginAt due) x m hr.2) fun o ho => ?_
  rw [show State.endAddressed _ { kind := k, station := d, frameEnd := e, windowDue := w, frame := f } _ = _ from hfin] at ho ⊢
  rw [hfin] at hslots htot
  refine ⟨(congrArg Slots.moveFlight hslots).trans m1, ?_, hut.state.trans (hsu.state (d := d)), hres, htot, fun hr => ?_, fun hr => ?_,
    fun id r hid hrec hcomp hmem => ?_, fun z v hz h1 h8 hv => ?_⟩
  · exact (congrArg Slots.movePending hslots).trans (m2.trans (if_neg (by omega)))
  · obtain ⟨t1, t2, -, t4⟩ := exhausted_task hui huc hadm hr
    exact ⟨t1, t2.trans (hsu.task (d := d)), t4⟩
  · have hfinal : u.exhausted d = _ := exhausted_member huc hadm hr
    refine (congrArg (fun v : State => (v.dish d).claim) hfinal).trans ?_
    exact ((release_changes _ d).claim).trans (closeClaim_claim u d _ _)
  · have hrec' : u.record id = some r := (hsu.record (id := id)).trans hrec
    obtain ⟨c1, c2⟩ := closeClaim_host u d (.aborted .link) (.aborted .link) huc hid hrec'
    have hrel := release_changes (u.abortClaim d .link) d
    have hex : u.exhausted d = (u.abortClaim d .link).release d := exhausted_member huc hadm (by simp [hid])
    have hnow : u.now = max s.now due := hsu.now
    refine ⟨_, ((congrArg (fun v : State => v.record id) hex).trans (hrel.record (id := id))).trans c1, fun hc => ?_, ?_⟩
    · have hn : .slewDone id ∈ (u.exhausted d).oli.notices := by
        rw [hex]
        exact hrel.notices (c2 hcomp hc).1
      exact ho ▸ hn
    · rw [hnow]
      exact recordAfter_closed hcomp fun q hq hqd => by rw [hmem q hq hqd]; rfl
  · have hzn : thas u.znc.zones z = true := (hsu.hasZone z).trans (hs.hasZone h1 h8)
    have huz : u.zone z = s.zone z := hsu.zone
    have hwv := closeClaim_wave u d (.aborted .link) (.aborted .link) huc hz hzn (by rw [huz]; exact hv)
    have hrel := release_changes (u.abortClaim d .link) d
    have hex : u.exhausted d = (u.abortClaim d .link).release d := exhausted_member huc hadm (by simp [hz])
    refine waveAfter_congr hwv huz.symm ?_ ?_
    · exact (congrArg (fun v : State => v.zone z) hex).trans hrel.zone
    · show _ ⊆ o.notices
      rw [ho, hex]
      exact hrel.notices

end Sys2Proof.Machine

open Sys2Proof.Machine in
/-- Settles O23: absence from the record that R8 leaves, the retry from the slots after the miss, exhaustion from the claim's close. -/
theorem absenceClearsAndMissesAreRetriedOrExhausted : Obligations.AbsenceClearsAndMissesAreRetriedOrExhausted := by
  unfold Obligations.AbsenceClearsAndMissesAreRetriedOrExhausted
  exact ⟨absenceClearsTheDish, missedCommandIsKeptForARetry, exhaustionReturnsTheTaskOrAbortsTheMember⟩

end

section
-- One declaration at a time: the check bounds memory, and every thread in flight takes its stack from it.
set_option Elab.async false

/-! O24, O25: the steps of R6 on a valid reply, one by one, and the state rule that step 5 applies. -/

namespace Sys2Proof.Machine
open Sys2Proof.Claims

/-! ## The state in which a reply is taken -/

/-- The state `u` in which the reply of dish `d` is taken at `now`: the transaction is over at the bus, and all other records are those
of `s`. -/
structure Hears (s u : State) (d now : Nat) : Prop where
  dsv : u.dsv = s.dsv
  znc : u.znc = s.znc
  sls : u.sls = s.sls
  mlc : u.mlc = s.mlc
  lkt : u.lkt = s.lkt
  act : u.act = s.act
  now : u.now = now
  notices : s.oli.notices ⊆ u.oli.notices
  isDish : u.isDish d = true
  hasSlots : thas u.pbc.slots d = true

section
variable {s u : State} {d now : Nat} (h : Hears s u d now)
include h

theorem Hears.dish (e : Nat) : u.dish e = s.dish e := congrArg (fun x : Dsv => tget x.dishes e Dish.initial) h.dsv

theorem Hears.zone (z : Nat) : u.zone z = s.zone z := by
  unfold State.zone
  rw [h.znc]

theorem Hears.record (id : Nat) : u.record id = s.record id := by
  unfold State.record
  rw [h.sls]

end

/-- A fitting reply to a command that was not withdrawn leaves what R6 makes of it. -/
theorem ends_of_reply {s : State} {d now : Nat} {k : TxKind} {chars : List PlChar} {st : Status} {r : CommandResult} {p : State → Prop}
    (hs : Shape s) (hr : Running s) (ha : Addressed s k d now) (hst : IsStatus chars d st r) (hfit : ResultFits k st r)
    (hw : (s.slots d).isWithdrawn k = false)
    (hp : ∀ u, Hears s u d now → ∀ o : Oli, o.notices = (u.takeReply d st { kind := k, result := r, withdrawn := false }).oli.notices →
      p { u.takeReply d st { kind := k, result := r, withdrawn := false } with oli := o }) :
    ∃ t, exec (.plReplyReceived chars) s = .next t ∧ p t := by
  obtain ⟨x, -, rfl, rfl, rfl, he⟩ := exec_of_reply ha hst hfit
  have hd : (s.beginAt x.frameEnd).isDish x.station = true := (hs.isDish _).mpr ⟨ha.1, ha.2.1⟩
  have hsl : thas (s.beginAt x.frameEnd).pbc.slots x.station = true := hs.hasSlots_of_isDish hd
  have hend : (s.beginAt x.frameEnd).endAddressed x (.valid st r)
      = ((s.beginAt x.frameEnd).ended x true).takeReply x.station st { kind := x.kind, result := r, withdrawn := false } := by
    have hw' : ((s.beginAt x.frameEnd).slots x.station).isWithdrawn x.kind = false := hw
    rw [endAddressed_valid_eq (s.beginAt x.frameEnd) x st r hr.2, State.replied, hw']
    rfl
  have hc := ended_changes (s.beginAt x.frameEnd) x true
  refine ends_of_timer _ hr he (endAddressed_valid_changes (s.beginAt x.frameEnd) x st r hr.2) fun o ho => ?_
  rw [hend] at ho ⊢
  exact hp _ ⟨hc.dsv, hc.znc, hc.sls, hc.mlc, hc.lockouts, hc.act, hc.now, hc.notices, (hc.isDish _).trans hd, (hc.hasSlots _).trans hsl⟩ o ho

/-! ## Steps 1 to 3 of R6 -/

/-- The states of Table 6 from which owner LOCAL and a drive fault are taken up alike. -/
def DishState.supervised (x : DishState) : Bool := x != .absent && x != .handset && x != .faulted

section
variable {s : State} {d : Nat}

theorem assessPresence_of_ne (h : (s.dish d).state ≠ .absent) : s.assessPresence d = s := by
  simp [State.assessPresence, h]

theorem assessOwner_of_supervised (h : (s.dish d).state.supervised = true) (prev : Option Status) (st : Status) :
    s.assessOwner d prev st = if st.owner == .handset then s.enterLocal d else s := by
  unfold State.assessOwner
  cases hx : (s.dish d).state <;> simp_all [DishState.supervised]

theorem assessFault_of_supervised (h : (s.dish d).state.supervised = true) (prev : Option Status) (st : Status) :
    s.assessFault d prev st = if st.fault ≠ 0 then s.driveFault d st.moving else s := by
  unfold State.assessFault
  cases hx : (s.dish d).state <;> simp_all [DishState.supervised]

theorem assessFault_of_local (h : (s.dish d).state = .handset) (prev : Option Status) (st : Status) : s.assessFault d prev st = s := by
  simp [State.assessFault, h]

theorem ne_absent_of_supervised {x : DishState} (h : x.supervised = true) : x ≠ .absent := by
  rintro rfl
  simp [DishState.supervised] at h

end

section
variable {u : State} {d : Nat} (hd : u.isDish d = true) {st : Status}
include hd

/-- The dish record in which the steps of R6 begin. -/
theorem heardAt_dish : (u.modDish d (·.heard st u.now)).dish d = (u.dish d).heard st u.now := modDish_dish_same u d _ hd

theorem heardAt_state : ((u.modDish d (·.heard st u.now)).dish d).state = (u.dish d).state := by
  rw [heardAt_dish hd]; rfl

/-- Owner REMOTE without a fault code: steps 1 to 3 pass over a supervised dish. -/
theorem assessedTo3_of_sound (hx : (u.dish d).state.supervised = true) (ho : st.owner = .remote) (hf : st.fault = 0) :
    u.assessedTo3 d st = u.modDish d (·.heard st u.now) := by
  have hx' : ((u.modDish d (·.heard st u.now)).dish d).state.supervised = true := by rwa [heardAt_state hd]
  unfold State.assessedTo3
  rw [assessPresence_of_ne (ne_absent_of_supervised hx'), assessOwner_of_supervised hx', ho, if_neg (by decide),
    assessFault_of_supervised hx', if_neg (by simpa using hf)]

end

/-! ## Step 4 of R6: the key -/

/-- The state in which the surface of a reply is assessed. -/
def State.keyed (u : State) (d : Nat) (st : Status) : State := (u.assessedTo3 d st).assessKey d (u.dish d).last st

section
variable {s : State} {d : Nat} {prev : Option Status} {st : Status}

theorem assessKey_same (h : ∀ p, prev = some p → p.key = st.key) : s.assessKey d prev st = s := by
  unfold State.assessKey
  split
  · rfl
  · exact if_pos (h _ rfl)

theorem flag_key_changes (s : State) (d : Nat) : Changes {.dish (.flag .key) d} s (s.flag d { key := true }) :=
  (flag_changes s d _).mono (by rintro p ⟨k, hk, rfl⟩; cases k <;> simp_all [ChangeFlags.has])

/-- Where no stop order would act, a change of key position touches the flag and the claim. -/
def keying (d : Nat) : Set Part := {.dish (.flag .key) d, .dish .claim d, .passDue, .counters (some .lockBlock)} ∪ closing

@[simp] theorem mem_keying (p : Part) (d : Nat) : p ∈ keying d ↔
    (p = .dish (.flag .key) d ∨ p = .dish .claim d ∨ p = .passDue ∨ p = .counters (some .lockBlock)) ∨ p ∈ closing := Iff.rfl

theorem keyLeavesNone_keying (h : ¬ StopActs (s.dish d)) : Changes (keying d) s (s.keyLeavesNone d) := by
  have excused : Changes (keying d) s (s.excuseClaim d .locked) :=
    (excuseClaim_changes s d _).mono (Set.union_subset_union_left _ (by simp [Set.insert_subset_iff]))
  have counted (t : State) (k : Option LockKind) : Changes (keying d) t (t.countLock k) := (countLock_changes t k).mono
  unfold State.keyLeavesNone
  simp only
  split
  · exact Changes.refl _ s
  split
  · rw [stopOrder_of_not _ h]
    exact counted s _
  split
  · exact Changes.ite (fun _ => excused) (fun _ => Changes.refl _ s)
  · exact excused.trans (counted _ _)

theorem assessKey_keying (h : ¬ StopActs (s.dish d)) : Changes (keying d) s (s.assessKey d prev st) := by
  have flagged : Changes (keying d) s (s.flag d { key := true }) := (flag_key_changes s d).mono
  have h' : ¬ StopActs ((s.flag d { key := true }).dish d) := by
    have hf := flag_key_changes s d
    unfold StopActs
    rw [hf.state, hf.claim]
    exact h
  unfold State.assessKey
  split
  · exact Changes.refl _ s
  · exact Changes.ite (fun _ => Changes.refl _ s) fun _ => Changes.ite (fun _ => flagged.trans (keyLeavesNone_keying h'))
      fun _ => Changes.ite (fun _ => flagged.trans ((keyReturns_changes _ d).mono)) fun _ => flagged

/-- A dish without a claim that is not READY: a change of key position leaves the flag. -/
theorem assessKey_unclaimed (hc : (s.dish d).claim = none) (hr : (s.dish d).state ≠ .ready) :
    Changes {.dish (.flag .key) d, .passDue} s (s.assessKey d prev st) := by
  have hf := flag_key_changes s d
  have flagged : Changes {.dish (.flag .key) d, .passDue} s (s.flag d { key := true }) := hf.mono
  have hc' : ((s.flag d { key := true }).dish d).claim = none := hf.claim.trans hc
  have hr' : ((s.flag d { key := true }).dish d).state ≠ .ready := by rwa [hf.state]
  have returns : Changes {.dish (.flag .key) d, .passDue} (s.flag d { key := true }) ((s.flag d { key := true }).keyReturns d) := by
    unfold State.keyReturns
    rw [if_neg (fun he => hr' (eligible_ready he))]
    exact Changes.ite (fun _ => (trigger_changes _).mono) fun _ => Changes.refl _ _
  unfold State.assessKey
  split
  · exact Changes.refl _ s
  · refine Changes.ite (fun _ => Changes.refl _ s) fun _ => Changes.ite (fun _ => flagged.trans ?_)
      fun _ => Changes.ite (fun _ => flagged.trans returns) fun _ => flagged
    unfold State.keyLeavesNone
    simp only [hc']
    exact Changes.refl _ _

end

/-! ## Step 4 of R6: the surface and the heater -/

/-- What step 4 may change after the key. -/
def surfacing (d : Nat) : Set Part := {.dish (.flag .surface) d, .table, .passDue} ∪ heating

@[simp] theorem mem_surfacing (p : Part) (d : Nat) : p ∈ surfacing d ↔
    (p = .dish (.flag .surface) d ∨ p = .table ∨ p = .passDue) ∨ p ∈ heating := Iff.rfl

theorem assessedTo4_eq (u : State) (d : Nat) (st : Status) :
    u.assessedTo4 d st = ((u.keyed d st).assessSurface d (u.dish d).last st).heaterReply d st := rfl

/-- Step 4 of a dish to which no SHED task can be given. -/
theorem assessedTo4_surfacing (u : State) (d : Nat) (st : Status) (h : (u.keyed d st).canShed d = false) :
    Changes (surfacing d) (u.keyed d st) (u.assessedTo4 d st) := by
  have hsurf := assessSurface_changes (u.keyed d st) d (u.dish d).last st
  refine (hsurf.mono Set.subset_union_left).trans ((heaterReply_heating _ d st ?_).mono Set.subset_union_right)
  rw [hsurf.canShed d (by simp) (by simp) (by simp) (by simp), h]

/-- Step 4 of any dish: a melt completion may open a SHED task. -/
theorem assessedTo4_changes (u : State) (d : Nat) (st : Status) :
    Changes (surfacing d ∪ {.dish .claim d}) (u.keyed d st) (u.assessedTo4 d st) :=
  ((assessSurface_changes (u.keyed d st) d (u.dish d).last st).mono (Set.subset_union_of_subset_left Set.subset_union_left _)).trans
    ((heaterReply_changes _ d st).mono (Set.union_subset_union_left _ Set.subset_union_right))

theorem canShed_of_state {s : State} {d : Nat} (h : (s.dish d).state ≠ .ready) : s.canShed d = false := by
  simp [State.canShed, h]

theorem canShed_of_claim {s : State} {d : Nat} (h : (s.dish d).claim ≠ none) : s.canShed d = false := by
  simp [State.canShed, h]

/-- A supervised dish under a sound reply that keeps the key position: only the surface and the heater follow it before step 5. -/
theorem assessedTo4_of_quiet {u : State} {d : Nat} {st : Status} (hd : u.isDish d = true) (hx : (u.dish d).state.supervised = true)
    (ho : st.owner = .remote) (hf : st.fault = 0) (hk : ∀ p, (u.dish d).last = some p → p.key = st.key)
    (hn : (u.dish d).state ≠ .ready ∨ (u.dish d).claim ≠ none) :
    Changes (surfacing d) (u.modDish d (·.heard st u.now)) (u.assessedTo4 d st) := by
  have hkeyed : u.keyed d st = u.modDish d (·.heard st u.now) := by
    unfold State.keyed
    rw [assessedTo3_of_sound hd hx ho hf, assessKey_same hk]
  rw [← hkeyed]
  apply assessedTo4_surfacing
  rw [hkeyed]
  rcases hn with hn | hn
  · exact canShed_of_state (by rwa [heardAt_state hd])
  · exact canShed_of_claim (by rw [heardAt_dish hd]; exact hn)

/-- What steps 1 to 4 of R6 leave of the state `s` for step 5, where only the surface and the heater follow the reply's status. -/
structure Quieted (s v : State) (d now : Nat) (st : Status) : Prop where
  isDish : v.isDish d = true
  hasSlots : thas v.pbc.slots d = true
  dish : v.dish d = { (s.dish d).heard st now with flags := (v.dish d).flags }
  now : v.now = now
  supervision : v.dsv.nSettle = s.dsv.nSettle ∧ v.dsv.nMiss = s.dsv.nMiss ∧ v.dsv.homeTimeout = s.dsv.homeTimeout
  zone : ∀ z, v.zone z = s.zone z
  monitor : v.act.monitor = s.act.monitor

section
variable {s v : State} {d now : Nat} {st : Status} (h : Quieted s v d now st)
include h

theorem Quieted.state : (v.dish d).state = (s.dish d).state := (congrArg Dish.state h.dish :)

theorem Quieted.claim : (v.dish d).claim = (s.dish d).claim := (congrArg Dish.claim h.dish :)

theorem Quieted.task : (v.dish d).task = (s.dish d).task := (congrArg Dish.task h.dish :)

theorem Quieted.acceptedSeq : (v.dish d).acceptedSeq = (s.dish d).acceptedSeq := (congrArg Dish.acceptedSeq h.dish :)

theorem Quieted.reservation : (v.dish d).reservation = (s.dish d).reservation := (congrArg Dish.reservation h.dish :)

theorem Quieted.timer : (v.dish d).timer = (s.dish d).timer := (congrArg Dish.timer h.dish :)

theorem Quieted.supFault : (v.dish d).supFault = (s.dish d).supFault := (congrArg Dish.supFault h.dish :)

theorem Quieted.good : (v.dish d).good = ((s.dish d).heard st now).good := (congrArg Dish.good h.dish :)

end

theorem quieted_of_hears {s u : State} {d now : Nat} {st : Status} (hu : Hears s u d now) (hx : (s.dish d).state.supervised = true)
    (ho : st.owner = .remote) (hf : st.fault = 0) (hk : ∀ p, (s.dish d).last = some p → p.key = st.key)
    (hn : (s.dish d).state ≠ .ready ∨ (s.dish d).claim ≠ none) : Quieted s (u.assessedTo4 d st) d now st := by
  have hq : Changes (surfacing d) (u.modDish d (·.heard st u.now)) (u.assessedTo4 d st) :=
    assessedTo4_of_quiet hu.isDish (by rwa [hu.dish]) ho hf (by rwa [hu.dish]) (by rwa [hu.dish])
  have hd : (u.modDish d (·.heard st u.now)).dish d = (s.dish d).heard st now := by
    rw [heardAt_dish hu.isDish, hu.dish, hu.now]
  refine ⟨(hq.isDish d).trans ((modDish_isDish _ _ _ _).trans hu.isDish), (hq.hasSlots d).trans hu.hasSlots, ?_, hq.now.trans hu.now,
    ?_, fun z => hq.zone.trans (hu.zone z), hq.monitor.trans (congrArg Act.monitor hu.act)⟩
  · refine Dish.eq_of_same fun p => ?_
    have hp (hne : ∀ k, p ≠ .flag k) : p.Same ((s.dish d).heard st now) ((u.assessedTo4 d st).dish d) :=
      hd ▸ hq.same (.dish p d) (by simp [hne])
    cases p with
    | flag k => rfl
    | _ => exact hp (by simp)
  · obtain ⟨h1, h2, h3⟩ := hq.supervision
    have hdsv (f : Dsv → Nat) : f u.dsv = f s.dsv := congrArg f hu.dsv
    exact ⟨h1.trans (hdsv Dsv.nSettle), h2.trans (hdsv Dsv.nMiss), h3.trans (hdsv Dsv.homeTimeout)⟩

/-! ## Step 5 of R6 by the state that the dish is in -/

section
variable {s : State} {d : Nat} {st : Status} {a : Answer}

theorem assessMotion_of_settling (h : (s.dish d).state = .settling) : s.assessMotion d st a = s.settleTest d st := by
  unfold State.assessMotion
  simp only [h]

theorem assessMotion_of_homing (h : (s.dish d).state = .homing) :
    s.assessMotion d st a = if st.referenced && !st.moving then s.homeDone d else s := by
  unfold State.assessMotion
  simp only [h]

theorem assessMotion_of_slewing (h : (s.dish d).state = .slewing) :
    s.assessMotion d st a = if st.inPosition && (s.dish d).acceptedSeq == some st.echo then s.slewDone d st else s := by
  unfold State.assessMotion
  simp only [h]

theorem assessMotion_of_stopping (h : (s.dish d).state = .stopping) :
    s.assessMotion d st a = if st.moving then s else s.stopEnds d st := by
  unfold State.assessMotion
  simp only [h]

theorem assessMotion_of_faulted (h : (s.dish d).state = .faulted) : s.assessMotion d st a = if st.moving then s else s.release d := by
  unfold State.assessMotion
  simp only [h]

theorem assessMotion_of_local (h : (s.dish d).state = .handset) : s.assessMotion d st a = s := by
  unfold State.assessMotion
  simp only [h]

theorem assessMotion_poll_ready (h : (s.dish d).state = .ready) (hk : a.kind = .poll) :
    s.assessMotion d st a = if st.referenced then s else s.referenceLost d := by
  unfold State.assessMotion
  simp only [h, hk]

theorem assessMotion_poll_unreferenced (h : (s.dish d).state = .unreferenced) (hk : a.kind = .poll) :
    s.assessMotion d st a = if st.referenced && !st.moving then s.homeDone d else s := by
  unfold State.assessMotion
  simp only [h, hk]

end

/-! ## The entries to READY and UNREFERENCED -/

theorem enterReady_passDue (s : State) (d : Nat) : (s.enterReady d).fbu.passDue = true := by
  have hw := (endPreempt_changes (s.modDish d (fun r => { r with state := .ready })).trigger d).passDue rfl
  unfold State.enterReady
  simp only
  split
  · exact (gain_changes _ d).passDue hw
  · exact hw

theorem openTask_dish (s : State) (d : Nat) (k : Task) (hd : s.isDish d = true) :
    (s.openTask d k).dish d = { s.dish d with claim := some { ref := .task, standing := .waiting }, task := some k } :=
  modDish_dish_same s d _ hd

/-- A dish enters UNREFERENCED with its waiting HOME task (R14). -/
theorem enterUnreferenced_spec (s : State) (d : Nat) (hd : s.isDish d = true) : ((s.enterUnreferenced d).dish d).state = .unreferenced
    ∧ ((s.enterUnreferenced d).dish d).task = some .home
    ∧ ((s.enterUnreferenced d).dish d).claim = some { ref := .task, standing := .waiting } ∧ (s.enterUnreferenced d).fbu.passDue = true := by
  let u := (s.modDish d (fun r => { r with state := .unreferenced })).endPreempt d
  have he := endPreempt_changes (s.modDish d (fun r => { r with state := .unreferenced })) d
  have hui : u.isDish d = true := (he.isDish d).trans ((modDish_isDish s d d _).trans hd)
  have hud : (u.dish d).state = .unreferenced := he.state.trans (by rw [modDish_dish_same s d _ hd])
  have ho := openTask_dish u d .home hui
  refine ⟨?_, ?_, ?_, rfl⟩
  · exact (congrArg Dish.state ho).trans hud
  · exact congrArg Dish.task ho
  · exact congrArg Dish.claim ho

end Sys2Proof.Machine
end

section
-- One declaration at a time: the check bounds memory, and every thread in flight takes its stack from it.
set_option Elab.async false

/-! O24: the drive's answer to a MOVE or HOME of an admitted claim. -/

namespace Sys2Proof.Machine
open Sys2Proof.Claims

section
variable {s : State} {d : Nat} {st : Status}

theorem isAdmitted_of {r : Dish} {c : OpenClaim} (hc : r.claim = some c) (ha : c.standing = .admitted) : r.isAdmitted = true := by
  simp [Dish.isAdmitted, hc, ha]

theorem assessMotion_move {seq : Nat} (h : (s.dish d).state = .ready) (ha : (s.dish d).isAdmitted = true) :
    s.assessMotion d st { kind := .move seq, result := .accepted, withdrawn := false } = s.moveAccepted d seq
      ∧ s.assessMotion d st { kind := .move seq, result := .refused, withdrawn := false } = s.driveRefused d := by
  unfold State.assessMotion Answer.effective
  simp [h, ha]

theorem assessMotion_home (h : (s.dish d).state = .unreferenced) (ha : (s.dish d).isAdmitted = true) :
    s.assessMotion d st { kind := .home, result := .accepted, withdrawn := false } = s.homeAccepted d
      ∧ s.assessMotion d st { kind := .home, result := .refused, withdrawn := false } = s.driveRefused d := by
  unfold State.assessMotion Answer.effective
  simp [h, ha]

/-- R17: the record that an accepted MOVE leaves. -/
theorem moveAccepted_dish (seq : Nat) (hd : s.isDish d = true) : (s.moveAccepted d seq).dish d = { s.dish d with
    state := .slewing, acceptedSeq := some seq, claim := (s.dish d).claim.map (fun c => { c with running := true }),
    timer := some { kind := .slew, due := s.now + (s.dish d).slewTimeout.getD 0 * 100 } } := by
  unfold State.moveAccepted
  simp only
  split
  · exact modDish_dish_same s d _ hd
  · exact modDish_dish_same s d _ hd

/-- R14, R17: what a refusal by the drive leaves of the dish. -/
theorem driveRefused_spec (hd : s.isDish d = true) : ((s.driveRefused d).dish d).state = .faulted
    ∧ ((s.driveRefused d).dish d).supFault = .driveRefused ∧ ((s.driveRefused d).dish d).claim = none
    ∧ ((s.driveRefused d).dish d).reservation = none ∧ ((s.driveRefused d).dish d).flags.fault = true := by
  let u := (s.abortClaim d .driveRefused).release d
  have hc := abortClaim_changes s d .driveRefused
  have hrel := release_changes (s.abortClaim d .driveRefused) d
  have hci := (hc.isDish d).trans hd
  have hclaim : (u.dish d).claim = none := hrel.claim.trans (closeClaim_claim s d _ _)
  have hres : (u.dish d).reservation = none := release_reservation _ d hci
  have he : (s.driveRefused d).dish d = _ := enterFaulted_dish u d (some .driveRefused) ((hrel.isDish d).trans hci)
  rw [he]
  exact ⟨rfl, rfl, hclaim, hres, by simp [ChangeFlags.union]⟩

end

end Sys2Proof.Machine

open Sys2Proof.Machine Sys2Proof.Claims in
/-- Settles O24: steps 1 to 4 of R6 leave the claim, the timer and the reservation to step 5 (`quieted_of_hears`). -/
theorem driveAcceptanceStartsTheMotion : Obligations.DriveAcceptanceStartsTheMotion := by
  unfold Obligations.DriveAcceptanceStartsTheMotion
  intro s d now k chars st r y cl hs hr ha hst hfit hy hw hcl hadm ho hf hkey hlast
  have hkeep : ∀ p, (s.dish d).last = some p → p.key = st.key := fun p hp => (hlast p hp).1.trans hkey.symm
  have motion (hk : k = .home ∨ ∃ q, k = .move q) (hx : (s.dish d).state.supervised = true) {p : State → Prop}
      (hp : ∀ v, Quieted s v d now st → (v.dish d).state = (s.dish d).state → (v.dish d).isAdmitted = true →
        ∀ o, p { v.assessMotion d st { kind := k, result := r, withdrawn := false } with oli := o }) :
      ∃ t, exec (.plReplyReceived chars) s = .next t ∧ p t := by
    refine ends_of_reply hs hr ha hst hfit (by rcases hk with rfl | ⟨q, rfl⟩ <;> simp [Slots.isWithdrawn, hy, hw]) fun u hu o _ => ?_
    have hv := quieted_of_hears hu hx ho hf hkeep (.inr (by simp [hcl]))
    rw [takeReply_eq]
    exact hp _ hv hv.state (isAdmitted_of (hv.claim.trans hcl) hadm) o
  refine ⟨fun seq hk hready => ⟨fun hacc => ?_, fun href => ?_⟩, fun hk hunref => ⟨fun hacc => ?_, fun href => ?_⟩⟩
  · refine motion (.inr ⟨seq, hk⟩) (by rw [hready]; rfl) fun v hv hstate hadm o => ?_
    rw [hk, hacc, (assessMotion_move (hstate.trans hready) hadm).1]
    show ((v.moveAccepted d seq).dish d).state = _ ∧ ((v.moveAccepted d seq).dish d).acceptedSeq = _
      ∧ ((v.moveAccepted d seq).dish d).claim = _ ∧ ((v.moveAccepted d seq).dish d).reservation = _
      ∧ ((v.moveAccepted d seq).dish d).timer = _
    rw [moveAccepted_dish seq hv.isDish, hv.dish, hv.now]
    exact ⟨rfl, rfl, by simp [Dish.heard, hcl], rfl, rfl⟩
  · refine motion (.inr ⟨seq, hk⟩) (by rw [hready]; rfl) fun v hv hstate hadm o => ?_
    rw [hk, href, (assessMotion_move (hstate.trans hready) hadm).2]
    exact driveRefused_spec hv.isDish
  · refine motion (.inl hk) (by rw [hunref]; rfl) fun v hv hstate hadm o => ?_
    have hdish : (v.homeAccepted d).dish d = _ := modDish_dish_same _ d _ hv.isDish
    rw [hk, hacc, (assessMotion_home (hstate.trans hunref) hadm).1]
    show ((v.homeAccepted d).dish d).state = _ ∧ ((v.homeAccepted d).dish d).claim = _
      ∧ ((v.homeAccepted d).dish d).reservation = _ ∧ ((v.homeAccepted d).dish d).timer = _
    rw [hdish, hv.now, hv.supervision.2.2, hv.dish]
    exact ⟨rfl, hcl, rfl, rfl⟩
  · refine motion (.inl hk) (by rw [hunref]; rfl) fun v hv hstate hadm o => ?_
    rw [hk, href, (assessMotion_home (hstate.trans hunref) hadm).2]
    exact driveRefused_spec hv.isDish

end

section
-- One declaration at a time: the check bounds memory, and every thread in flight takes its stack from it.
set_option Elab.async false

/-! O25: a reply to a POLL, on the state of the dish (R7, R9 to R12, R14, R15, R18, R21). -/

namespace Sys2Proof.Machine
open Sys2Proof.Claims

/-! ## Between step 3 and step 5 -/

section
variable {u : State} {d : Nat} {st : Status}

/-- Where no stop order would act and the dish is not READY, step 4 touches flags, the claim and the heater. -/
theorem assessedTo4_of_still (ha : ¬ StopActs ((u.assessedTo3 d st).dish d)) (hr : ((u.assessedTo3 d st).dish d).state ≠ .ready) :
    Changes (keying d ∪ surfacing d) (u.assessedTo3 d st) (u.assessedTo4 d st) := by
  have hk : Changes (keying d) (u.assessedTo3 d st) (u.keyed d st) := assessKey_keying ha
  exact hk.andThen (assessedTo4_surfacing u d st (canShed_of_state (by rwa [hk.state])))

/-- Without a claim, step 4 touches flags and the heater. -/
theorem assessedTo4_of_unclaimed (hc : ((u.assessedTo3 d st).dish d).claim = none) (hr : ((u.assessedTo3 d st).dish d).state ≠ .ready) :
    Changes ({.dish (.flag .key) d} ∪ surfacing d) (u.assessedTo3 d st) (u.assessedTo4 d st) := by
  have hk : Changes {.dish (.flag .key) d, .passDue} (u.assessedTo3 d st) (u.keyed d st) := assessKey_unclaimed hc hr
  exact (hk.mono).trans ((assessedTo4_surfacing u d st (canShed_of_state (by rwa [hk.state]))).mono Set.subset_union_right)

end

theorem not_stopActs_of {r : Dish} (h : r.state = .settling ∨ r.state = .handset ∨ r.state = .faulted ∨ r.state = .stopping) : ¬ StopActs r := by
  rcases h with h | h | h | h <;> simp [StopActs, h]

/-! ## Entries by a reply (R7 to R12) -/

section
variable (s : State) (d : Nat) (hd : s.isDish d = true)
include hd

theorem settled_dish (x : ChangeFlags) : ((s.modDish d (fun r => { r with state := .settling, good := 1 })).flag d x).dish d
    = { s.dish d with state := .settling, good := 1, flags := (s.dish d).flags.union x } := by
  rw [flag_dish _ d x (by rwa [modDish_isDish]), modDish_dish_same s d _ hd]

/-- The record after R9. -/
theorem enterLocal_spec : ((s.enterLocal d).dish d).state = .handset ∧ ((s.enterLocal d).dish d).claim = none
    ∧ ((s.enterLocal d).dish d).reservation = none ∧ ((s.enterLocal d).dish d).timer = none
    ∧ ((s.enterLocal d).dish d).supFault = .clear ∧ ((s.enterLocal d).dish d).flags.owner = true := by
  let v := (s.abortClaim d .handset).modDish d (fun r => { r with state := .handset, timer := none, supFault := .clear })
  let w := (v.release d).removeMotion d
  have hc := abortClaim_changes s d .handset
  have hci : (s.abortClaim d .handset).isDish d = true := (hc.isDish d).trans hd
  have hvi : v.isDish d = true := (modDish_isDish _ d d _).trans hci
  have hv : v.dish d = { (s.abortClaim d .handset).dish d with state := .handset, timer := none, supFault := .clear } :=
    modDish_dish_same _ d _ hci
  have hvw := (release_changes v d).andThen (removeMotion_changes (v.release d) d)
  have hw : w.dish d = { v.dish d with reservation := none } :=
    ((removeMotion_changes (v.release d) d).dish).trans (release_dish v d hvi)
  have hf := flag_dish w d { owner := true } ((hvw.isDish d).trans hvi)
  rw [hw, hv] at hf
  have he := endPreempt_changes_of_ne_ready (w.flag d { owner := true }) d (by rw [hf]; simp)
  have hdish : (s.enterLocal d).dish d = _ := he.dish.trans hf
  rw [hdish]
  exact ⟨rfl, closeClaim_claim s d _ _, rfl, rfl, rfl, by simp [ChangeFlags.union]⟩

omit hd in
theorem enterLocal_slots (hs : thas s.pbc.slots d = true) :
    ((s.enterLocal d).slots d).movePending = none ∧ ((s.enterLocal d).slots d).stopPending = none := by
  let v := (s.abortClaim d .handset).modDish d (fun r => { r with state := .handset, timer := none, supFault := .clear })
  have hc := abortClaim_changes s d .handset
  have hr := release_changes v d
  have hvs : thas v.pbc.slots d = true := (hc.hasSlots d).trans hs
  have hm : ((v.release d).removeMotion d).slots d = ((v.release d).slots d).removeMove.removeStop :=
    modSlots_slots_same _ d _ ((hr.hasSlots d).trans hvs)
  have ht := (flag_changes ((v.release d).removeMotion d) d { owner := true }).andThen (endPreempt_changes _ d)
  have hsl : (s.enterLocal d).slots d = _ := ht.slots.trans hm
  rw [hsl]
  exact ⟨rfl, rfl⟩

/-- The record and the slots after R11. -/
theorem driveFault_spec (hs : thas s.pbc.slots d = true) (moving : Bool) : ((s.driveFault d moving).dish d).state = .faulted
    ∧ ((s.driveFault d moving).dish d).claim = none ∧ ((s.driveFault d moving).dish d).timer = none
    ∧ ((s.driveFault d moving).dish d).supFault = (s.dish d).supFault
    ∧ ((s.driveFault d moving).dish d).flags = (s.dish d).flags.union { fault := true }
    ∧ ((s.driveFault d moving).slots d).movePending = none
    ∧ ((s.driveFault d moving).dish d).reservation = (if moving then (s.dish d).reservation else none)
    ∧ CountsOf s (s.driveFault d moving) .dishFault [some 0] := by
  let v := (s.abortClaim d .fault).modDish d (fun r => { r with timer := none })
  have hc := abortClaim_changes s d .fault
  have hci : (s.abortClaim d .fault).isDish d = true := (hc.isDish d).trans hd
  have hv : Changes ({.dish .timer d} ∪ ({.dish .claim d, .passDue} ∪ closing)) s v :=
    (hc.mono Set.subset_union_right).trans ((modDish_timer_changes _ d none).mono Set.subset_union_left)
  have hvi : v.isDish d = true := (hv.isDish d).trans hd
  have hvs : thas v.pbc.slots d = true := (hv.hasSlots d).trans hs
  have hvd : (v.dish d).claim = none ∧ (v.dish d).timer = none := by
    rw [show v.dish d = _ from modDish_dish_same _ d _ hci]
    exact ⟨closeClaim_claim s d _ _, rfl⟩
  let w := if moving then v.orderStop d else (v.removeMove d).release d
  have hw : Changes ({.slots .move d, .slots .stop d, .dish .reservation d} ∪ accounting) v w :=
    Changes.ite (fun _ => (orderStop_changes v d).mono)
      (fun _ => ((removeMove_changes v d).mono).trans ((release_changes _ d).mono (Set.union_subset (by simp) Set.subset_union_right)))
  have hwi : w.isDish d = true := (hw.isDish d).trans hvi
  have he : (s.driveFault d moving).dish d = _ := enterFaulted_dish w d none hwi
  have hef : Changes (faulting d (w.dish d).zone) w (s.driveFault d moving) := enterFaulted_changes w d none (fun _ => id) (by simp)
  rw [he]
  refine ⟨rfl, hw.claim.trans hvd.1, hw.timer.trans hvd.2, hw.supFault.trans hv.supFault, ?_, ?_, ?_, ?_⟩
  · exact congrArg (fun x : ChangeFlags => x.union { fault := true })
      (ChangeFlags.ext_has fun k => (hw.flag k).trans (hv.flag k))
  · rw [hef.slots]
    cases moving with
    | true => exact (congrArg Slots.movePending (orderStop_slots v d hvs)).trans (stopped_slots _ _).1
    | false =>
      have hm : (v.removeMove d).slots d = (v.slots d).removeMove := modSlots_slots_same v d _ hvs
      exact (congrArg Slots.movePending ((release_changes (v.removeMove d) d).slots.trans hm))
  · cases moving with
    | true => exact ((orderStop_changes v d).reservation).trans hv.reservation
    | false => exact release_reservation _ d (((removeMove_changes v d).isDish d).trans hvi)
  · have hcount := enterFaulted_countsOf w d none
    exact countsOf_trans ((hv.andThen hw).countsOf .dishFault) hcount hef.notices

end

/-! ## The ends of motions (R15, R18, R21) -/

/-- The end of a motion in READY: the reservation and the timer that it leaves are those of its beginning. -/
theorem enterReady_spec (s : State) (d : Nat) (hd : s.isDish d = true) : ((s.enterReady d).dish d).state = .ready
    ∧ ((s.enterReady d).dish d).reservation = (s.dish d).reservation ∧ ((s.enterReady d).dish d).timer = (s.dish d).timer
    ∧ (s.enterReady d).fbu.passDue = true :=
  ⟨enterReady_state s d hd, (enterReady_changes s d).reservation, (enterReady_changes s d).timer, enterReady_passDue s d⟩

/-- What R15 releases before the dish is READY. -/
def State.homed (s : State) (d : Nat) : State :=
  let s1 := ((s.modDish d Dish.dropClaim).modDish d (fun r => { r with timer := none })).removeMove d
  (if (s.dish d).isWaiting then s1.trigger else s1).release d

theorem homeDone_eq (s : State) (d : Nat) : s.homeDone d = (s.homed d).enterReady d := rfl

theorem homed_spec (s : State) (d : Nat) (hd : s.isDish d = true) (hs : thas s.pbc.slots d = true) : (s.homed d).isDish d = true
    ∧ ((s.homed d).dish d).reservation = none ∧ ((s.homed d).dish d).timer = none ∧ ((s.homed d).dish d).task = none
    ∧ ((s.homed d).slots d).movePending = none := by
  let v := (s.modDish d Dish.dropClaim).modDish d (fun r => { r with timer := none })
  have hvi : v.isDish d = true := (modDish_isDish _ d d _).trans ((modDish_isDish s d d _).trans hd)
  have hv : v.dish d = { (s.dish d).dropClaim with timer := none } :=
    (modDish_dish_same _ d _ ((modDish_isDish s d d _).trans hd)).trans (by rw [modDish_dish_same s d _ hd])
  have hm := removeMove_changes v d
  let w := if (s.dish d).isWaiting then (v.removeMove d).trigger else v.removeMove d
  have hw : Changes {.passDue} (v.removeMove d) w := Changes.ite (fun _ => trigger_changes _) (fun _ => Changes.refl _ _)
  have hwi : w.isDish d = true := (hw.isDish d).trans ((hm.isDish d).trans hvi)
  have hr : (s.homed d).dish d = { w.dish d with reservation := none } := release_dish w d hwi
  have hwd : w.dish d = v.dish d := hw.dish.trans hm.dish
  have hsl : (v.removeMove d).slots d = (v.slots d).removeMove := modSlots_slots_same v d _ hs
  refine ⟨((release_changes w d).isDish d).trans hwi, ?_, ?_, ?_, ?_⟩
  · rw [hr]
  · rw [hr, hwd, hv]
  · rw [hr, hwd, hv]; rfl
  · exact congrArg Slots.movePending ((release_changes w d).slots.trans (hw.slots.trans hsl))

/-- R15: homing done. -/
theorem homeDone_spec (s : State) (d : Nat) (hd : s.isDish d = true) (hs : thas s.pbc.slots d = true) :
    ((s.homeDone d).dish d).state = .ready ∧ ((s.homeDone d).dish d).reservation = none ∧ ((s.homeDone d).dish d).timer = none
      ∧ (s.homeDone d).fbu.passDue = true ∧ ((s.homeDone d).slots d).movePending = none := by
  obtain ⟨h1, h2, h3, -, h5⟩ := homed_spec s d hd hs
  obtain ⟨e1, e2, e3, e4⟩ := enterReady_spec (s.homed d) d h1
  rw [homeDone_eq]
  exact ⟨e1, e2.trans h2, e3.trans h3, e4, (congrArg Slots.movePending (enterReady_changes _ d).slots).trans h5⟩

/-- The state in which R18 closes the claim: a completed shed is counted at the heater. -/
def State.shedCounted (s : State) (d : Nat) : State :=
  if (s.dish d).task == some .shed then s.modHeater d (fun h => { h with shedsDone := satAdd 65535 h.shedsDone 1 }) else s

theorem shedCounted_changes (s : State) (d : Nat) : Changes {.heater d} s (s.shedCounted d) :=
  Changes.ite (fun _ => modHeater_changes s d _) (fun _ => Changes.refl _ s)

/-- What R18 releases before the dish is READY. -/
def State.slewed (s : State) (d : Nat) : State :=
  (((s.shedCounted d).closeClaim d .done .done).modDish d (fun r => { r with timer := none })).release d

theorem slewDone_of_referenced (s : State) (d : Nat) {st : Status} (h : st.referenced = true) :
    s.slewDone d st = (s.slewed d).enterReady d := by
  unfold State.slewDone
  simp only [h, if_true]
  rfl

/-- After the claim R18 lets the timer and the reservation go. -/
theorem slewed_tail (s : State) (d : Nat) : Changes ({.dish .timer d, .dish .reservation d} ∪ accounting)
    ((s.shedCounted d).closeClaim d .done .done) (s.slewed d) :=
  ((modDish_timer_changes _ d none).mono (by simp)).trans ((release_changes _ d).mono (Set.union_subset_union_left _ (by simp)))

theorem slewed_spec (s : State) (d : Nat) (hd : s.isDish d = true) : (s.slewed d).isDish d = true
    ∧ ((s.slewed d).dish d).reservation = none ∧ ((s.slewed d).dish d).timer = none ∧ ((s.slewed d).dish d).claim = none := by
  let v := (s.shedCounted d).closeClaim d .done .done
  have hc : Changes ({.heater d} ∪ ({.dish .claim d, .passDue} ∪ closing)) s v :=
    (shedCounted_changes s d).andThen (closeClaim_changes _ d .done .done)
  have hvi : v.isDish d = true := (hc.isDish d).trans hd
  let w := v.modDish d (fun r => { r with timer := none })
  have hw : w.dish d = { v.dish d with timer := none } := modDish_dish_same v d _ hvi
  have hr : (s.slewed d).dish d = { w.dish d with reservation := none } := release_dish w d ((modDish_isDish v d d _).trans hvi)
  rw [hr, hw]
  exact ⟨((slewed_tail s d).isDish d).trans hvi, rfl, rfl, closeClaim_claim _ d _ _⟩

/-- R21: the end of a stop. -/
theorem stopEnds_spec (s : State) (d : Nat) (hd : s.isDish d = true) (st : Status) : ((s.stopEnds d st).dish d).reservation = none
    ∧ ((s.stopEnds d st).dish d).timer = none ∧ ((s.stopEnds d st).dish d).state =
      (if (s.dish d).supFault = .slewTimeout then .faulted else if st.referenced then .ready else .unreferenced) := by
  let v := (s.modDish d (fun r => { r with timer := none })).release d
  have hm := (modDish_isDish s d d (fun r => { r with timer := none })).trans hd
  have hv : v.dish d = { s.dish d with timer := none, reservation := none } :=
    (release_dish _ d hm).trans (by rw [modDish_dish_same s d _ hd])
  have hvi : v.isDish d = true := ((release_changes _ d).isDish d).trans hm
  have hres : (v.dish d).reservation = none := by rw [hv]
  have htim : (v.dish d).timer = none := by rw [hv]
  unfold State.stopEnds
  simp only [beq_iff_eq]
  split
  · rw [enterFaulted_dish v d _ hvi]
    exact ⟨hres, htim, rfl⟩
  split
  · obtain ⟨e1, e2, e3, -⟩ := enterReady_spec v d hvi
    exact ⟨e2.trans hres, e3.trans htim, e1⟩
  · have he := enterUnreferenced_changes v d
    exact ⟨he.reservation.trans hres, he.timer.trans htim, (enterUnreferenced_spec v d hvi).1⟩

/-! ## The states that a reply to a POLL leads to -/

/-- A reply to a POLL, through the state in which step 5 meets the dish. -/
theorem ends_of_poll {s : State} {d now : Nat} {chars : List PlChar} {st : Status} {p : State → Prop}
    (hs : Shape s) (hr : Running s) (ha : Addressed s .poll d now) (hst : IsStatus chars d st .none)
    (hp : ∀ u, Hears s u d now → ∀ o : Oli,
      o.notices = ((u.assessedTo4 d st).assessMotion d st { kind := .poll, result := .none, withdrawn := false }).oli.notices →
      p { (u.assessedTo4 d st).assessMotion d st { kind := .poll, result := .none, withdrawn := false } with oli := o }) :
    ∃ t, exec (.plReplyReceived chars) s = .next t ∧ p t :=
  ends_of_reply hs hr ha hst rfl rfl hp

/-- A sound reply to a POLL that keeps the key position, to a supervised dish. -/
theorem ends_of_quiet_poll {s : State} {d now : Nat} {chars : List PlChar} {st : Status} {p : State → Prop}
    (hs : Shape s) (hr : Running s) (ha : Addressed s .poll d now) (hst : IsStatus chars d st .none)
    (hx : (s.dish d).state.supervised = true) (ho : st.owner = .remote) (hf : st.fault = 0)
    (hk : ∀ p, (s.dish d).last = some p → p.key = st.key) (hn : (s.dish d).state ≠ .ready ∨ (s.dish d).claim ≠ none)
    (hp : ∀ v, Quieted s v d now st → ∀ o : Oli,
      p { v.assessMotion d st { kind := .poll, result := .none, withdrawn := false } with oli := o }) :
    ∃ t, exec (.plReplyReceived chars) s = .next t ∧ p t :=
  ends_of_poll hs hr ha hst fun _ hu o _ => hp _ (quieted_of_hears hu hx ho hf hk hn) o

/-! ### Steps 1 to 3 in the states that they leave -/

/-- A dish taken up for settling, with the flag of its occasion (R7, R10). -/
def State.settledWith (s : State) (d : Nat) (x : ChangeFlags) : State :=
  (s.modDish d (fun r => { r with state := .settling, good := 1 })).flag d x

section
variable {s u : State} {d now : Nat} {st : Status} (hu : Hears s u d now)
include hu

/-- The record with which the reply is taken. -/
theorem Hears.heard : (u.modDish d (·.heard st u.now)).dish d = (s.dish d).heard st now := by
  rw [heardAt_dish hu.isDish, hu.dish, hu.now]

theorem Hears.heard_isDish : (u.modDish d (·.heard st u.now)).isDish d = true := (modDish_isDish u d d _).trans hu.isDish

theorem assessedTo3_of_absent (hx : (s.dish d).state = .absent) (ho : st.owner = .remote) (hf : st.fault = 0) :
    u.assessedTo3 d st = (u.modDish d (·.heard st u.now)).settledWith d { presence := true } := by
  have ha : ((u.modDish d (·.heard st u.now)).dish d).state = .absent := by rw [hu.heard]; exact hx
  have hp : (u.modDish d (·.heard st u.now)).assessPresence d = (u.modDish d (·.heard st u.now)).settledWith d { presence := true } := by
    unfold State.assessPresence
    rw [if_pos (by rw [ha]; rfl)]
    rfl
  have hsv : (((u.modDish d (·.heard st u.now)).settledWith d { presence := true }).dish d).state.supervised = true := by
    rw [State.settledWith, settled_dish _ d hu.heard_isDish]
    rfl
  unfold State.assessedTo3
  rw [hp, assessOwner_of_supervised hsv, ho, if_neg (by decide), assessFault_of_supervised hsv, if_neg (by simpa using hf)]

/-- Owner REMOTE in LOCAL. -/
theorem assessedTo3_of_local (hx : (s.dish d).state = .handset) (ho : st.owner = .remote) : u.assessedTo3 d st =
    if st.fault ≠ 0 then ((u.modDish d (·.heard st u.now)).settledWith d { owner := true }).driveFault d st.moving
    else (u.modDish d (·.heard st u.now)).settledWith d { owner := true } := by
  have ha : ((u.modDish d (·.heard st u.now)).dish d).state = .handset := by rw [hu.heard]; exact hx
  have hl (prev : Option Status) : (u.modDish d (·.heard st u.now)).assessOwner d prev st
      = (u.modDish d (·.heard st u.now)).settledWith d { owner := true } := by
    unfold State.assessOwner
    simp only [ha, ho]
    rfl
  have hsv : (((u.modDish d (·.heard st u.now)).settledWith d { owner := true }).dish d).state.supervised = true := by
    rw [State.settledWith, settled_dish _ d hu.heard_isDish]
    rfl
  unfold State.assessedTo3
  rw [assessPresence_of_ne (by simp [ha]), hl, assessFault_of_supervised hsv]

/-- Owner LOCAL in LOCAL. -/
theorem assessedTo3_of_kept_local (hx : (s.dish d).state = .handset) (ho : st.owner = .handset) :
    u.assessedTo3 d st = u.modDish d (·.heard st u.now) := by
  have ha : ((u.modDish d (·.heard st u.now)).dish d).state = .handset := by rw [hu.heard]; exact hx
  have hl (prev : Option Status) : (u.modDish d (·.heard st u.now)).assessOwner d prev st = u.modDish d (·.heard st u.now) := by
    unfold State.assessOwner
    simp only [ha, ho]
    rfl
  unfold State.assessedTo3
  rw [assessPresence_of_ne (by simp [ha]), hl, assessFault_of_local ha]

/-- Owner LOCAL in a supervised state. -/
theorem assessedTo3_of_handset (hx : (s.dish d).state.supervised = true) (ho : st.owner = .handset) :
    u.assessedTo3 d st = (u.modDish d (·.heard st u.now)).enterLocal d := by
  have hx' : ((u.modDish d (·.heard st u.now)).dish d).state.supervised = true := by rw [hu.heard]; exact hx
  unfold State.assessedTo3
  rw [assessPresence_of_ne (ne_absent_of_supervised hx'), assessOwner_of_supervised hx', ho, if_pos (by decide),
    assessFault_of_local (enterLocal_spec _ d hu.heard_isDish).1]

/-- A drive fault in a supervised state. -/
theorem assessedTo3_of_fault (hx : (s.dish d).state.supervised = true) (ho : st.owner = .remote) (hf : st.fault ≠ 0) :
    u.assessedTo3 d st = (u.modDish d (·.heard st u.now)).driveFault d st.moving := by
  have hx' : ((u.modDish d (·.heard st u.now)).dish d).state.supervised = true := by rw [hu.heard]; exact hx
  unfold State.assessedTo3
  rw [assessPresence_of_ne (ne_absent_of_supervised hx'), assessOwner_of_supervised hx', ho, if_neg (by decide),
    assessFault_of_supervised hx', if_pos hf]

end

/-! ### Steps 4 and 5 after an entry by steps 1 to 3 -/

theorem Quieted.good_of_settling {s v : State} {d now : Nat} {st : Status} (h : Quieted s v d now st)
    (hx : (s.dish d).state = .settling) : (v.dish d).good = min 50 ((s.dish d).good + 1) := by
  rw [h.good]
  simp [Dish.heard, hx, satAdd]

theorem settleTest_cases {s : State} {d : Nat} {st : Status} : s.settleTest d st =
    if s.dsv.nSettle ≤ (s.dish d).good then (if st.referenced then s.enterReady d else s.enterUnreferenced d) else s := rfl

/-- A dish just taken up for settling settles on, its flags but KEY and SURFACE as they are. -/
theorem settles_on {u v : State} {d : Nat} {st : Status} {x : ChangeFlags} {a : Answer} (hv : v.isDish d = true)
    (h3 : u.assessedTo3 d st = v.settledWith d x) (hn : 2 ≤ v.dsv.nSettle) :
    let t := (u.assessedTo4 d st).assessMotion d st a
    (t.dish d).state = .settling ∧ (t.dish d).good = 1
      ∧ ∀ k, k ≠ .key → k ≠ .surface → (t.dish d).flags.has k = ((v.dish d).flags.has k || x.has k) := by
  intro t
  have hd : (u.assessedTo3 d st).dish d = _ := (congrArg (fun w : State => w.dish d) h3).trans (settled_dish v d hv x)
  have h4 : Changes (keying d ∪ surfacing d) (u.assessedTo3 d st) (u.assessedTo4 d st) :=
    assessedTo4_of_still (not_stopActs_of (.inl (by rw [hd]))) (by rw [hd]; simp)
  have hstate : ((u.assessedTo4 d st).dish d).state = .settling := h4.state.trans (by rw [hd])
  have hgood : ((u.assessedTo4 d st).dish d).good = 1 := h4.good.trans (by rw [hd])
  have hsup : (u.assessedTo4 d st).dsv.nSettle = v.dsv.nSettle := by
    have h : Changes ({.dish .state d, .dish .good d} ∪ {p | ∃ k, x.has k = true ∧ p = .dish (.flag k) d}) v (u.assessedTo3 d st) := by
      rw [h3]
      refine (modDish_changes v d _ fun p hp => ?_).andThen (flag_changes _ d x)
      cases p <;> simp_all [DishPart.Same]
    exact h4.supervision.1.trans h.supervision.1
  have ht : t = u.assessedTo4 d st := by
    rw [show t = _ from assessMotion_of_settling hstate, settleTest_cases, if_neg (by rw [hsup, hgood]; omega)]
  rw [ht]
  refine ⟨hstate, hgood, fun k hk hs => (h4.flag k (by simp [hk, hs])).trans ?_⟩
  rw [hd]
  exact has_union _ _ k

/-- A dish just faulted by its drive stays so, its flags but KEY and SURFACE as they are. -/
theorem faulted_on {u v : State} {d : Nat} {st : Status} {a : Answer} (hv : v.isDish d = true) (hs : thas v.pbc.slots d = true)
    (h3 : u.assessedTo3 d st = v.driveFault d st.moving) :
    let t := (u.assessedTo4 d st).assessMotion d st a
    (t.dish d).state = .faulted ∧ (t.dish d).claim = none ∧ (t.dish d).timer = none ∧ (t.dish d).supFault = (v.dish d).supFault
      ∧ CountsOf v t .dishFault [some 0] ∧ (t.dish d).flags.fault = true ∧ (t.slots d).movePending = none
      ∧ (t.dish d).reservation = (if st.moving then (v.dish d).reservation else none)
      ∧ (t.dish d).flags.owner = (v.dish d).flags.owner := by
  intro t
  obtain ⟨f1, f2, f3, f4, f5, f6, f7, f8⟩ := driveFault_spec v d hv hs st.moving
  rw [← h3] at f1 f2 f3 f4 f5 f6 f7 f8
  have h4 : Changes ({.dish (.flag .key) d} ∪ surfacing d) (u.assessedTo3 d st) (u.assessedTo4 d st) :=
    assessedTo4_of_unclaimed f2 (by simp [f1])
  have hd4 : (u.assessedTo4 d st).isDish d = true := by
    have h : Changes (supervising d {.fault}) v (u.assessedTo3 d st) := h3 ▸ driveFault_changes v d {.fault} st.moving rfl
    exact (h4.isDish d).trans ((h.isDish d).trans hv)
  have ht : t = if st.moving then u.assessedTo4 d st else (u.assessedTo4 d st).release d := assessMotion_of_faulted (h4.state.trans f1)
  have h5 : Changes ({.dish .reservation d} ∪ accounting) (u.assessedTo4 d st) t := by
    rw [ht]
    exact Changes.ite (fun _ => Changes.refl _ _) (fun _ => release_changes _ d)
  have h45 := h4.andThen h5
  refine ⟨h45.state.trans f1, h45.claim.trans f2, h45.timer.trans f3, h45.supFault.trans f4,
    countsOf_trans f8 (h45.countsOf .dishFault) h45.notices, (h45.flag .fault).trans ?_,
    h45.slotMove.1.trans f6, ?_, (h45.flag .owner).trans ?_⟩
  · rw [f5, has_union]
    simp [ChangeFlags.has]
  · rw [ht]
    cases hm : st.moving with
    | true => exact h4.reservation.trans (f7.trans (by rw [hm]))
    | false => exact release_reservation _ d hd4
  · rw [f5, has_union]
    simp [ChangeFlags.has]

theorem pollReplyMovesTheDishState : PollReplyMovesTheDishState := by
  intro s d now chars st r hs hr ha hst hnone
  subst hnone
  intro x ends supervised quiet
  have hsup : supervised → x.state.supervised = true := by
    rintro (h | h | h | h | h | h) <;> rw [h] <;> rfl
  have hkey : quiet → ∀ p, x.last = some p → p.key = st.key := fun hq p hp => (hq.2.2.2 p hp).trans hq.2.2.1.symm
  have moves (hq : quiet) (hx : x.state.supervised = true) (hn : x.state ≠ .ready) {p : State → Prop}
      (hp : ∀ v, Quieted s v d now st → ∀ o : Oli,
        p { v.assessMotion d st { kind := .poll, result := .none, withdrawn := false } with oli := o }) : ends p :=
    ends_of_quiet_poll hs hr ha hst hx hq.1 hq.2.1 (hkey hq) (.inl hn) hp
  refine ⟨fun hx ho hf hn => ?_, fun hx hq _ hn => ?_, fun hx hq _ hn => ?_, fun hsv ho => ?_, fun hsv ho hf => ?_,
    fun hx hq hrf hm => ?_, fun hx hq hrf hp hseq => ?_, fun hx hq hno => ?_, fun hx hq _ hm => ?_⟩
  · refine ends_of_poll hs hr ha hst fun u hu o _ => ?_
    obtain ⟨h1, h2, h3⟩ := settles_on (a := { kind := .poll, result := .none, withdrawn := false }) hu.heard_isDish
      (assessedTo3_of_absent hu hx ho hf) ((congrArg Dsv.nSettle hu.dsv :) ▸ hn)
    exact ⟨h1, h2, (h3 .presence (by simp) (by simp)).trans (by simp [ChangeFlags.has])⟩
  · refine moves hq (by rw [hx]; rfl) (by simp [hx]) fun v hv o => ?_
    have hgood : (v.dish d).good = min 50 (x.good + 1) := hv.good_of_settling hx
    have hnot : ¬ v.dsv.nSettle ≤ (v.dish d).good := by rw [hv.supervision.1, hgood]; omega
    rw [assessMotion_of_settling (hv.state.trans hx), settleTest_cases, if_neg hnot]
    exact ⟨hv.state.trans hx, hgood⟩
  · refine moves hq (by rw [hx]; rfl) (by simp [hx]) fun v hv o => ?_
    have hgood : (v.dish d).good = min 50 (x.good + 1) := hv.good_of_settling hx
    rw [assessMotion_of_settling (hv.state.trans hx), settleTest_cases, if_pos (by rw [hv.supervision.1, hgood]; exact hn)]
    refine ⟨fun hrf => ?_, fun hrf => ?_⟩
    · rw [if_pos hrf]
      exact ⟨enterReady_state v d hv.isDish, enterReady_passDue v d⟩
    · rw [if_neg (by simp [hrf])]
      obtain ⟨e1, e2, e3, -⟩ := enterUnreferenced_spec v d hv.isDish
      exact ⟨e1, e2, e3⟩
  · refine ends_of_poll hs hr ha hst fun u hu o _ => ?_
    have h3 := assessedTo3_of_handset hu (hsup hsv) ho
    obtain ⟨e1, e2, e3, e4, e5, e6⟩ := enterLocal_spec _ d (hu.heard_isDish (st := st))
    obtain ⟨e7, e8⟩ := enterLocal_slots (u.modDish d (·.heard st u.now)) d hu.hasSlots
    rw [← h3] at e1 e2 e3 e4 e5 e6 e7 e8
    have h4 : Changes ({.dish (.flag .key) d} ∪ surfacing d) (u.assessedTo3 d st) (u.assessedTo4 d st) :=
      assessedTo4_of_unclaimed e2 (by simp [e1])
    rw [assessMotion_of_local (h4.state.trans e1)]
    exact ⟨h4.state.trans e1, h4.claim.trans e2, h4.reservation.trans e3, h4.timer.trans e4, h4.supFault.trans e5,
      (h4.flag .owner).trans e6, h4.slotMove.1.trans e7, h4.slotStop.1.trans e8⟩
  · refine ends_of_poll hs hr ha hst fun u hu o ho' => ?_
    obtain ⟨f1, f2, f3, f4, f5, f6, f7, f8, -⟩ := faulted_on (a := { kind := .poll, result := .none, withdrawn := false })
      hu.heard_isDish hu.hasSlots (assessedTo3_of_fault hu (hsup hsv) ho hf)
    rw [hu.heard] at f4 f8
    exact ⟨f1, f2, f3, f4, countsOf_congr f5 hu.act.symm rfl ho', f6, f7, f8⟩
  · refine moves hq (by rw [hx]; rfl) (by simp [hx]) fun v hv o => ?_
    rw [assessMotion_of_homing (hv.state.trans hx), if_pos (by simp [hrf, hm])]
    obtain ⟨e1, e2, e3, e4, -⟩ := homeDone_spec v d hv.isDish hv.hasSlots
    exact ⟨e1, e2, e3, e4⟩
  · refine moves hq (by rw [hx]; rfl) (by simp [hx]) fun v hv o => ?_
    rw [assessMotion_of_slewing (hv.state.trans hx), if_pos (by simp [hp, hv.acceptedSeq.trans hseq]), slewDone_of_referenced v d hrf]
    obtain ⟨h1, h2, h3, -⟩ := slewed_spec v d hv.isDish
    obtain ⟨e1, e2, e3, e4⟩ := enterReady_spec (v.slewed d) d h1
    exact ⟨e1, e2.trans h2, e3.trans h3, e4⟩
  · refine moves hq (by rw [hx]; rfl) (by simp [hx]) fun v hv o => ?_
    have hnot : ¬ (st.inPosition && (v.dish d).acceptedSeq == some st.echo) = true := by
      rw [hv.acceptedSeq]
      rcases hno with h | h
      · simp [h]
      · simp [show (s.dish d).acceptedSeq ≠ some st.echo from h]
    rw [assessMotion_of_slewing (hv.state.trans hx), if_neg hnot]
    exact ⟨hv.state.trans hx, hv.timer, hv.reservation⟩
  · refine moves hq (by rw [hx]; rfl) (by simp [hx]) fun v hv o => ?_
    rw [assessMotion_of_stopping (hv.state.trans hx), if_neg (by simp [hm])]
    obtain ⟨e1, e2, e3⟩ := stopEnds_spec v d hv.isDish st
    exact ⟨e1, e2, e3.trans (by rw [hv.supFault])⟩

/-! ## LOCAL and FAULTED (R10, R12) -/

theorem flag_empty (s : State) (d : Nat) : s.flag d {} = s :=
  if_pos (by simp [ChangeFlags.union])

/-- The flags that a reply adds to those of a FAULTED dish (R12). -/
def changedSince (prev : Option Status) (st : Status) : ChangeFlags :=
  match prev with
  | some p => { owner := p.owner != st.owner, fault := p.fault != st.fault }
  | none => {}

section
variable {s : State} {d : Nat} (hf : (s.dish d).state = .faulted) (prev : Option Status) (st : Status)
include hf

theorem assessOwner_of_faulted : s.assessOwner d prev st =
    (if st.owner == .handset then s.release d else s).flag d { owner := (changedSince prev st).owner } := by
  unfold State.assessOwner
  simp only [hf]
  cases prev with
  | none => exact (flag_empty _ d).symm
  | some p =>
    cases hp : p.owner != st.owner with
    | true => simp [hp, changedSince]
    | false => simpa [hp, changedSince] using (flag_empty _ d).symm

theorem assessFault_of_faulted : s.assessFault d prev st = s.flag d { fault := (changedSince prev st).fault } := by
  unfold State.assessFault
  simp only [hf]
  cases prev with
  | none => exact (flag_empty _ d).symm
  | some p =>
    by_cases hp : p.fault = st.fault
    · simpa [hp, changedSince] using (flag_empty s d).symm
    · have hb : (p.fault != st.fault) = true := by simpa using hp
      simp [hp, hb, changedSince]

end

/-- What steps 1 to 3 leave of a FAULTED dish (R12). -/
theorem assessedTo3_of_faulted {s u : State} {d now : Nat} {st : Status} (hu : Hears s u d now) (hx : (s.dish d).state = .faulted) :
    (u.assessedTo3 d st).isDish d = true ∧ ((u.assessedTo3 d st).dish d).state = .faulted
      ∧ ((u.assessedTo3 d st).dish d).supFault = (s.dish d).supFault
      ∧ ((u.assessedTo3 d st).dish d).reservation = (if st.owner = .handset then none else (s.dish d).reservation)
      ∧ ((u.assessedTo3 d st).dish d).flags.owner = ((s.dish d).flags.owner || (changedSince (s.dish d).last st).owner)
      ∧ ((u.assessedTo3 d st).dish d).flags.fault = ((s.dish d).flags.fault || (changedSince (s.dish d).last st).fault) := by
  let b := u.modDish d (·.heard st u.now)
  have hb : b.dish d = (s.dish d).heard st now := hu.heard
  let v := if st.owner == .handset then b.release d else b
  have hbv : Changes ({.dish .reservation d} ∪ accounting) b v := Changes.ite (fun _ => release_changes b d) (fun _ => Changes.refl _ b)
  have hvi : v.isDish d = true := (hbv.isDish d).trans hu.heard_isDish
  have hv : v.dish d = { (s.dish d).heard st now with reservation := if st.owner = .handset then none else (s.dish d).reservation } := by
    by_cases ho : st.owner = .handset
    · simp only [v, ho, beq_self_eq_true, if_true]
      rw [release_dish b d hu.heard_isDish, hb]
    · simp only [v, beq_iff_eq, ho, if_false]
      exact hb
  have h2 := flag_dish v d { owner := (changedSince (s.dish d).last st).owner } hvi
  have h2i : (v.flag d { owner := (changedSince (s.dish d).last st).owner }).isDish d = true := ((flag_changes v d _).isDish d).trans hvi
  have h3 := flag_dish (v.flag d { owner := (changedSince (s.dish d).last st).owner }) d { fault := (changedSince (s.dish d).last st).fault } h2i
  have he : u.assessedTo3 d st = (v.flag d { owner := (changedSince (s.dish d).last st).owner }).flag d
      { fault := (changedSince (s.dish d).last st).fault } := by
    have hbs : (b.dish d).state = .faulted := by rw [hb]; exact hx
    unfold State.assessedTo3
    rw [hu.dish, assessPresence_of_ne (by simp [b, hbs]), assessOwner_of_faulted hbs, assessFault_of_faulted]
    exact (congrArg Dish.state h2).trans (by rw [hv]; exact hx)
  rw [he]
  refine ⟨((flag_changes _ d _).isDish d).trans h2i, ?_⟩
  rw [h3, h2, hv]
  exact ⟨hx, rfl, rfl, by simp [ChangeFlags.union, Dish.heard], by simp [ChangeFlags.union, Dish.heard]⟩

theorem pollReplyInLocalAndFaulted : PollReplyInLocalAndFaulted := by
  intro s d now chars st hs hr ha hst x ends
  refine ⟨fun hx ho => ?_, fun hx ho hf hn => ?_, fun hx ho hf => ?_, fun hx => ?_⟩
  · refine ends_of_poll hs hr ha hst fun u hu o _ => ?_
    have h3 := assessedTo3_of_kept_local hu (st := st) hx ho
    have hd3 : (u.assessedTo3 d st).dish d = (s.dish d).heard st now := by rw [h3, hu.heard]
    have hstate : ((u.assessedTo3 d st).dish d).state = .handset := by rw [hd3]; exact hx
    have h4 := assessedTo4_of_still (not_stopActs_of (.inr (.inl hstate))) (by simp [hstate])
    rw [assessMotion_of_local (h4.state.trans hstate)]
    exact ⟨h4.state.trans hstate, (h4.flag .owner).trans (by rw [hd3]; rfl)⟩
  · refine ends_of_poll hs hr ha hst fun u hu o _ => ?_
    have h3 := assessedTo3_of_local hu (st := st) hx ho
    rw [if_neg (by simpa using hf)] at h3
    obtain ⟨h1, h2, hflag⟩ := settles_on (a := { kind := .poll, result := .none, withdrawn := false }) hu.heard_isDish h3
      ((congrArg Dsv.nSettle hu.dsv :) ▸ hn)
    exact ⟨h1, h2, (hflag .owner (by simp) (by simp)).trans (by simp [ChangeFlags.has])⟩
  · refine ends_of_poll hs hr ha hst fun u hu o _ => ?_
    have h3 := assessedTo3_of_local hu (st := st) hx ho
    rw [if_pos hf] at h3
    let v := (u.modDish d (·.heard st u.now)).settledWith d { owner := true }
    have hvd := settled_dish (u.modDish d (·.heard st u.now)) d hu.heard_isDish { owner := true }
    have hv : Changes (supervising d {.owner}) (u.modDish d (·.heard st u.now)) v := leaveLocal_changes _ d {.owner} rfl
    obtain ⟨f1, -, -, -, -, f6, -, -, f9⟩ := faulted_on (a := { kind := .poll, result := .none, withdrawn := false })
      (v := v) ((hv.isDish d).trans hu.heard_isDish) ((hv.hasSlots d).trans hu.hasSlots) h3
    refine ⟨f1, f9.trans ?_, f6⟩
    exact (congrArg (fun r : Dish => r.flags.owner) hvd).trans (by simp [ChangeFlags.union])
  · refine ends_of_poll hs hr ha hst fun u hu o _ => ?_
    obtain ⟨f0, f1, f2, f3, f4, f5⟩ := assessedTo3_of_faulted hu (st := st) hx
    have h4 := assessedTo4_of_still (not_stopActs_of (.inr (.inr (.inl f1)))) (by simp [f1])
    rw [assessMotion_of_faulted (h4.state.trans f1)]
    have h5 : Changes ({.dish .reservation d} ∪ accounting) (u.assessedTo4 d st)
        (if st.moving then u.assessedTo4 d st else (u.assessedTo4 d st).release d) :=
      Changes.ite (fun _ => Changes.refl _ _) (fun _ => release_changes _ d)
    have h45 := h4.andThen h5
    refine ⟨h45.state.trans f1, h45.supFault.trans f2, ?_, fun p hp => ⟨(h45.flag .owner).trans ?_, (h45.flag .fault).trans ?_⟩⟩
    · cases hm : st.moving with
      | true => exact h4.reservation.trans (f3.trans (by simp [x]))
      | false => exact (release_reservation _ d ((h4.isDish d).trans f0)).trans (by simp)
    · exact f4.trans (by rw [hp]; rfl)
    · exact f5.trans (by rw [hp]; rfl)

end Sys2Proof.Machine
end

section
-- One declaration at a time: the check bounds memory, and every thread in flight takes its stack from it.
set_option Elab.async false

/-! O25: a reply to a POLL, on the reference and on the key (R15, R16, R23). -/

namespace Sys2Proof.Machine
open Sys2Proof.Claims

/-! ## What the heater may do to the claim -/

/-- The claim as it was, or the waiting claim of a SHED task. -/
def ClaimKeptOrShed (a b : Option OpenClaim) : Prop := b = a ∨ b = some { ref := .task, standing := .waiting }

theorem ClaimKeptOrShed.of_eq {a b c : Option OpenClaim} (h : ClaimKeptOrShed a b) (he : c = b) : ClaimKeptOrShed a c := he ▸ h

/-- A task opened on a dish number that is no dish is lost. -/
theorem openTask_cases (s : State) (d : Nat) (k : Task) :
    ((s.openTask d k).dish d).claim = some { ref := .task, standing := .waiting } ∧ ((s.openTask d k).dish d).task = some k
      ∨ (s.openTask d k).dish d = s.dish d := by
  cases hd : s.isDish d with
  | true => exact .inl ⟨congrArg Dish.claim (openTask_dish s d k hd), congrArg Dish.task (openTask_dish s d k hd)⟩
  | false =>
    have h : (s.openTask d k).isDish d = false := ((openTask_changes s d k).isDish d).trans hd
    exact .inr ((dish_of_not_isDish _ d h).trans (dish_of_not_isDish s d hd).symm)

theorem completeMelt_claim (s : State) (d : Nat) (st : Status) :
    ClaimKeptOrShed (s.dish d).claim ((s.completeMelt d st).dish d).claim := by
  unfold State.completeMelt
  simp only
  split
  · rcases openTask_cases (s.modHeater d _) d .shed with h | h
    · exact .inr h.1
    · exact .inl (congrArg Dish.claim h :)
  · exact .inl rfl

theorem heaterLaw_claim (s : State) (d : Nat) (st : Status) : ClaimKeptOrShed (s.dish d).claim ((s.heaterLaw d st).dish d).claim := by
  have kept {t : State} (h : Changes heating s t) : ClaimKeptOrShed (s.dish d).claim (t.dish d).claim := .inl h.claim
  unfold State.heaterLaw
  simp only
  split
  · exact .inl rfl
  split
  · exact kept (Changes.ite (fun _ => (modHeater_heating s d _).trans (allocateOn_heating _ _)) fun _ => modHeater_heating s d _)
  split
  · exact (completeMelt_claim (s.modHeater d _) d st).of_eq (allocateOn_heating _ _).claim
  · exact kept (Changes.ite (fun _ => (modHeater_heating s d _).trans (modHeater_heating _ d _))
      fun _ => ((modHeater_heating s d _).trans (modHeater_heating _ d _)).trans (allocateOn_heating _ _))

theorem heaterReply_claim (s : State) (d : Nat) (st : Status) : ClaimKeptOrShed (s.dish d).claim ((s.heaterReply d st).dish d).claim := by
  have h1 : Changes heating s ((s.noteTemp d st).gateAndAllocate d) := (noteTemp_heating s d st).trans (gateAndAllocate_heating _ d)
  have h2 := (confirmStage_heating (((s.noteTemp d st).gateAndAllocate d).heaterLaw d st) d st.applied).trans
    (reorderStage_heating _ d st.applied)
  have := heaterLaw_claim ((s.noteTemp d st).gateAndAllocate d) d st
  rw [h1.claim] at this
  exact this.of_eq h2.claim

/-- Step 4 after the key leaves the claim, or opens a SHED task. -/
theorem assessedTo4_claim (u : State) (d : Nat) (st : Status) :
    ClaimKeptOrShed ((u.keyed d st).dish d).claim ((u.assessedTo4 d st).dish d).claim := by
  have hs := assessSurface_changes (u.keyed d st) d (u.dish d).last st
  rw [assessedTo4_eq, ← hs.claim]
  exact heaterReply_claim _ d st

/-! ## The reference (R15, R16) -/

/-- What R16 clears before the dish is UNREFERENCED. -/
def State.unreferencing (s : State) (d : Nat) : State :=
  if (s.dish d).isAdmitted then ((s.abortClaim d .fault).removeMove d).release d else s.excuseClaim d (.state .unreferenced)

theorem referenceLost_eq (s : State) (d : Nat) : s.referenceLost d = (s.unreferencing d).enterUnreferenced d := rfl

theorem unreferencing_isDish (s : State) (d : Nat) (hd : s.isDish d = true) : (s.unreferencing d).isDish d = true := by
  have h : Changes (supervising d ∅) s (s.unreferencing d) :=
    Changes.ite (fun _ => ((closeClaim_supervising s d ∅ _ _).trans (removeMove_supervising _ d ∅)).trans (release_supervising _ d ∅))
      fun _ => closeClaim_supervising s d ∅ _ _
  exact (h.isDish d).trans hd

theorem unreferencing_of_admitted {s : State} {d : Nat} (hd : s.isDish d = true) (hs : thas s.pbc.slots d = true)
    (ha : (s.dish d).isAdmitted = true) :
    ((s.unreferencing d).dish d).reservation = none ∧ ((s.unreferencing d).slots d).movePending = none := by
  have hc := abortClaim_changes s d .fault
  have hm := removeMove_changes (s.abortClaim d .fault) d
  have hr := release_changes ((s.abortClaim d .fault).removeMove d) d
  have hsl : ((s.abortClaim d .fault).removeMove d).slots d = ((s.abortClaim d .fault).slots d).removeMove :=
    modSlots_slots_same _ d _ ((hc.hasSlots d).trans hs)
  unfold State.unreferencing
  rw [if_pos ha]
  exact ⟨release_reservation _ d ((hm.isDish d).trans ((hc.isDish d).trans hd)), congrArg Slots.movePending (hr.slots.trans hsl)⟩

theorem unreferencing_of_not_admitted {s : State} {d : Nat} (ha : (s.dish d).isAdmitted = false) :
    ((s.unreferencing d).dish d).reservation = (s.dish d).reservation := by
  unfold State.unreferencing
  rw [if_neg (by simp [ha])]
  exact (excuseClaim_changes s d _).reservation

/-- The end of a preemption may open the claim of a wave member, never a task. -/
theorem endPreempt_task (s : State) (d : Nat) : ((s.endPreempt d).dish d).task = (s.dish d).task := by
  have member (t : State) (z : Nat) (w : WaveState) (h : (t.dish d).task = (s.dish d).task) :
      ((t.setWaveMember z d w).dish d).task = (s.dish d).task := ((setWaveMember_changes t z d w).task).trans h
  have opened (ref : ClaimRef) : ((s.openClaim d ref).dish d).task = (s.dish d).task := by
    obtain ⟨-, h⟩ | ⟨-, h, h'⟩ := modDish_dish_cases s d (fun r => { r with claim := some { ref := ref } })
    · exact (congrArg Dish.task h :)
    · exact congrArg Dish.task (h'.trans h.symm)
  unfold State.endPreempt
  simp only
  split
  next =>
    split
    · rfl
    split
    · refine member _ _ _ ?_
      split
      · exact opened _
      · rfl
    · exact member _ _ _ rfl
    · exact member _ _ _ rfl
    · exact member _ _ _ rfl
    · exact member _ _ _ rfl
    · rfl
  next => rfl

theorem gain_task {s : State} {d : Nat} (h : (s.dish d).task ≠ some .home) : ((s.gain d).dish d).task ≠ some .home := by
  have hs : ((s.autoStow d).dish d).task ≠ some .home := by
    unfold State.autoStow
    simp only
    split
    · rcases openTask_cases s d .stow with h' | h'
      · simp [h'.2]
      · rwa [h']
    · exact h
  exact hs

/-- A dish that enters READY without a task has no HOME task. -/
theorem enterReady_task {s : State} {d : Nat} (hd : s.isDish d = true) (h : (s.dish d).task = none) :
    ((s.enterReady d).dish d).task ≠ some .home := by
  have h1 : ((((s.modDish d (fun r => { r with state := .ready })).trigger).endPreempt d).dish d).task = none := by
    rw [endPreempt_task, trigger_dish, modDish_dish_same s d _ hd]
    exact h
  unfold State.enterReady
  simp only
  split
  · exact gain_task (by simp [h1])
  · simp [h1]

theorem pollReplyOnTheReference : PollReplyOnTheReference := by
  intro s d now chars st hs hr ha hst ho hf hkey hlast x ends
  have hk : ∀ p, x.last = some p → p.key = st.key := fun p hp => (hlast p hp).trans hkey.symm
  refine ⟨fun hx hrf => ?_, fun hx hrf hm => ?_, fun hx hno => ?_⟩
  · refine ends_of_poll hs hr ha hst fun u hu o _ => ?_
    have hkeyed : u.keyed d st = u.modDish d (·.heard st u.now) := by
      unfold State.keyed
      rw [assessedTo3_of_sound hu.isDish (by rw [hu.dish]; exact (by rw [show (s.dish d).state = _ from hx]; rfl)) ho hf, assessKey_same (by rwa [hu.dish])]
    have hd : (u.keyed d st).dish d = (s.dish d).heard st now := by rw [hkeyed, hu.heard]
    have h4 := assessedTo4_changes u d st
    have hcl := assessedTo4_claim u d st
    rw [hd] at hcl
    have hstate : ((u.assessedTo4 d st).dish d).state = .ready := h4.state.trans (by rw [hd]; exact hx)
    have hres : ((u.assessedTo4 d st).dish d).reservation = x.reservation := h4.reservation.trans (by rw [hd]; rfl)
    have hvi : (u.assessedTo4 d st).isDish d = true := (h4.isDish d).trans (by rw [hkeyed]; exact hu.heard_isDish)
    have hvs : thas (u.assessedTo4 d st).pbc.slots d = true := (h4.hasSlots d).trans (by rw [hkeyed]; exact hu.hasSlots)
    rw [assessMotion_poll_ready hstate rfl, if_neg (by simp [hrf]), referenceLost_eq]
    obtain ⟨e1, e2, e3, e4⟩ := enterUnreferenced_spec _ d (unreferencing_isDish _ d hvi)
    have he := enterUnreferenced_changes ((u.assessedTo4 d st).unreferencing d) d
    refine ⟨e1, e2, e3, e4, fun cl hc hadm => ?_, fun hw => ?_⟩
    · have hclaim : ((u.assessedTo4 d st).dish d).claim = some cl := by
        have hk : Changes (surfacing d) (u.keyed d st) (u.assessedTo4 d st) :=
          assessedTo4_surfacing u d st (canShed_of_claim (by rw [hd]; simp [Dish.heard, show (s.dish d).claim = _ from hc]))
        exact hk.claim.trans (by rw [hd]; exact hc)
      obtain ⟨r1, r2⟩ := unreferencing_of_admitted hvi hvs (isAdmitted_of hclaim hadm)
      exact ⟨he.reservation.trans r1, he.slotMove.1.trans r2⟩
    · have hna : ((u.assessedTo4 d st).dish d).isAdmitted = false := by
        unfold Dish.isAdmitted
        rcases hcl with hcl | hcl
        · rw [hcl]
          show (match x.claim with | some c => c.standing == .admitted | none => false) = false
          cases hxc : x.claim with
          | none => rfl
          | some cl => simp [hw cl hxc]
        · rw [hcl]; rfl
      exact he.reservation.trans ((unreferencing_of_not_admitted hna).trans hres)
  · refine ends_of_quiet_poll hs hr ha hst (by rw [show (s.dish d).state = _ from hx]; rfl) ho hf hk
      (.inl (by rw [show (s.dish d).state = _ from hx]; simp)) fun v hv o => ?_
    rw [assessMotion_poll_unreferenced (hv.state.trans hx) rfl, if_pos (by simp [hrf, hm])]
    obtain ⟨e1, e2, e3, e4, e5⟩ := homeDone_spec v d hv.isDish hv.hasSlots
    obtain ⟨h1, -, -, h4, -⟩ := homed_spec v d hv.isDish hv.hasSlots
    exact ⟨e1, e2, enterReady_task h1 h4, e5, e3, e4⟩
  · refine ends_of_quiet_poll hs hr ha hst (by rw [show (s.dish d).state = _ from hx]; rfl) ho hf hk
      (.inl (by rw [show (s.dish d).state = _ from hx]; simp)) fun v hv o => ?_
    rw [assessMotion_poll_unreferenced (hv.state.trans hx) rfl, if_neg (by rcases hno with h | h <;> simp [h])]
    exact ⟨hv.state.trans hx, hv.claim, hv.task, hv.reservation⟩

/-! ## The key (R23) -/

section
variable {s : State} {d : Nat} {p st : Status}

theorem assessKey_of_change (h : p.key ≠ st.key) : s.assessKey d (some p) st =
    if p.key = .clear then (s.flag d { key := true }).keyLeavesNone d
    else if st.key = .clear then (s.flag d { key := true }).keyReturns d else s.flag d { key := true } := by
  show (if p.key = st.key then s else _) = _
  rw [if_neg h]

theorem assessKey_flags (hd : s.isDish d = true) (h : p.key ≠ st.key) : ((s.assessKey d (some p) st).dish d).flags.key = true := by
  have hf : ((s.flag d { key := true }).dish d).flags.key = true := by
    rw [flag_dish s d _ hd]
    simp [ChangeFlags.union]
  rw [assessKey_of_change h]
  split
  · exact ((keyLeavesNone_changes (s.flag d { key := true }) d ∅).flag .key).trans hf
  split
  · exact ((keyReturns_changes (s.flag d { key := true }) d).flag .key).trans hf
  · exact hf

end

theorem assessedTo3_isDish (u : State) (d : Nat) (st : Status) (hd : u.isDish d = true) : (u.assessedTo3 d st).isDish d = true :=
  ((assessFault_changes _ d _ st).isDish d).trans (((assessOwner_changes _ d _ st).isDish d).trans
    (((assessPresence_changes _ d).isDish d).trans ((modDish_isDish u d d _).trans hd)))

theorem inSet_zero (d : Nat) : inSet 0 d = false := by
  cases d <;> simp [inSet]

theorem inSet_or (a b : DishSet) (d : Nat) : inSet (a ||| b) d = (inSet a d || inSet b d) := by
  cases d <;> simp [inSet]

/-- The blocked dishes are those that an entry in force covers (R165). -/
theorem inSet_coveredBy (sel : Entry → Bool) (es : List Entry) (d : Nat) : inSet (coveredBy sel es) d
    = es.any (fun e => (e.state == .active || e.state == .releasing) && sel e && inSet e.scope d) := by
  have key (acc : DishSet) : inSet (es.foldl (fun acc e =>
      if (e.state == .active || e.state == .releasing) && sel e then acc ||| e.scope else acc) acc) d
      = (inSet acc d || es.any (fun e => (e.state == .active || e.state == .releasing) && sel e && inSet e.scope d)) := by
    induction es generalizing acc with
    | nil => simp
    | cons e es ih =>
      rw [List.foldl_cons, ih, List.any_cons]
      cases hc : (e.state == .active || e.state == .releasing) && sel e with
      | true => simp [inSet_or, Bool.or_assoc]
      | false => simp
  exact (key 0).trans (by rw [inSet_zero, Bool.false_or])

section
variable {s : State} {d : Nat} {c : OpenClaim} (hc : (s.dish d).claim = some c)
include hc

/-- R23: an admitted claim is stopped. -/
theorem keyLeavesNone_of_admitted (ha : c.standing = .admitted) :
    ∃ k, s.keyLeavesNone d = (s.stopOrder d .lockout).countLock k := by
  unfold State.keyLeavesNone
  simp only [hc, ha]
  exact ⟨_, rfl⟩

/-- R23: a waiting claim goes, but for a HOME or STOW task. -/
theorem keyLeavesNone_of_waiting (hw : c.standing = .waiting) : ((s.keyLeavesNone d).dish d).claim =
    if c.ref = .task ∧ (s.dish d).task ≠ some .shed then some c else none := by
  have gone : ((s.excuseClaim d .locked).dish d).claim = none := closeClaim_claim s d _ _
  have counted (k : Option LockKind) : (((s.excuseClaim d .locked).countLock k).dish d).claim = none :=
    ((countLock_changes _ k).claim).trans gone
  unfold State.keyLeavesNone
  simp only [hc, hw]
  split
  next href =>
    by_cases ht : (s.dish d).task = some .shed
    · simp [ht, gone]
    · simp [ht, href, hc]
  next href => rw [if_neg (fun h => href h.1), counted]

end

theorem pollReplyOnTheKey : PollReplyOnTheKey := by
  intro s d now chars st p hs hr ha hst hlast hne x ends sound
  have keyed (u : State) (hu : Hears s u d now) (hso : sound) (hx : x.state.supervised = true) :
      u.keyed d st = (u.modDish d (·.heard st u.now)).assessKey d (some p) st := by
    unfold State.keyed
    rw [assessedTo3_of_sound hu.isDish (by rw [hu.dish]; exact hx) hso.1 hso.2, hu.dish, hlast]
  have flagged (u : State) (hu : Hears s u d now) : ((u.modDish d (·.heard st u.now)).flag d { key := true }).dish d
      = { (s.dish d).heard st now with flags := ((s.dish d).heard st now).flags.union { key := true } } := by
    rw [flag_dish _ d _ hu.heard_isDish, hu.heard]
  refine ⟨?_, fun cl hso hp hcl hadm hact hm => ?_, fun cl hso hp hx hcl hw' hrf => ?_, fun hso hk hx hcov hrf => ?_⟩
  · refine ends_of_poll hs hr ha hst fun u hu o _ => ?_
    have h3 : ((u.keyed d st).dish d).flags.key = true := by
      unfold State.keyed
      rw [hu.dish, hlast]
      exact assessKey_flags (assessedTo3_isDish u d st hu.isDish) hne
    have h4 := assessedTo4_changes u d st
    have h5 := assessMotion_changes (u.assessedTo4 d st) d st { kind := .poll, result := .none, withdrawn := false }
    exact (h5.flag .key).trans ((h4.flag .key).trans h3)
  · have hx : x.state.supervised = true := by
      rcases hact with h | h | ⟨h | h, -⟩ <;> rw [h] <;> rfl
    refine ends_of_poll hs hr ha hst fun u hu o _ => ?_
    let w := (u.modDish d (·.heard st u.now)).flag d { key := true }
    have hbw := flag_key_changes (u.modDish d (·.heard st u.now)) d
    have hwi : w.isDish d = true := (hbw.isDish d).trans hu.heard_isDish
    have hws : thas w.pbc.slots d = true := (hbw.hasSlots d).trans hu.hasSlots
    have hw : w.dish d = _ := flagged u hu
    have hwc : (w.dish d).claim = some cl := by rw [hw]; exact hcl
    have hwact : StopActs (w.dish d) := by rw [hw]; exact hact
    obtain ⟨k, hkl⟩ := keyLeavesNone_of_admitted hwc hadm
    have hk : u.keyed d st = (w.stopOrder d .lockout).countLock k := by
      rw [keyed u hu hso hx, assessKey_of_change hne, if_pos hp, hkl]
    have hkd : (u.keyed d st).dish d = (w.dish d).stopped w.now := by
      rw [hk, (countLock_changes _ k).dish, stopOrder_dish _ hwact]
    have hks : (u.keyed d st).slots d = (w.slots d).removeMove.placeStop w.moment := by
      rw [hk, (countLock_changes _ k).slots, stopOrder_slots _ hwact hws]
    have h4 := assessedTo4_surfacing u d st (canShed_of_state (by rw [hkd]; simp [Dish.stopped]))
    have hstate : ((u.assessedTo4 d st).dish d).state = .stopping := h4.state.trans (by rw [hkd]; rfl)
    obtain ⟨q1, q2, -⟩ := stopped_slots (w.slots d) w.moment
    rw [assessMotion_of_stopping hstate, if_pos hm]
    refine ⟨hstate, h4.claim.trans (by rw [hkd]; rfl), h4.reservation.trans (by rw [hkd, hw]; rfl), h4.timer.trans ?_,
      h4.slotMove.1.trans (by rw [hks]; exact q1), ?_⟩
    · have hnow : w.now = now := hbw.now.trans hu.now
      rw [hkd, hnow]
      rfl
    · rw [← hks] at q2
      obtain ⟨p1, p2⟩ := h4.slotStop (d := d)
      exact q2.imp (fun h => by rwa [← p1] at h) (fun h => by rwa [← p2] at h)
  · refine ends_of_poll hs hr ha hst fun u hu o _ => ?_
    let w := (u.modDish d (·.heard st u.now)).flag d { key := true }
    have hw : w.dish d = _ := flagged u hu
    have hwc : (w.dish d).claim = some cl := by rw [hw]; exact hcl
    have hwx : (w.dish d).state = .ready := by rw [hw]; exact hx
    have hstill : ¬ StopActs (w.dish d) := by simp [StopActs, hwx, hwc, hw']
    have hk : u.keyed d st = w.keyLeavesNone d := by
      rw [keyed u hu hso (by rw [hx]; rfl), assessKey_of_change hne, if_pos hp]
    have hkw : Changes (keying d) w (u.keyed d st) := hk ▸ keyLeavesNone_keying hstill
    have hnext : st.key ≠ .clear := fun h => hne (hp.trans h.symm)
    have hshut : (u.keyed d st).canShed d = false := by
      have hlast' : ((u.keyed d st).dish d).last = some st := hkw.status.1.trans (by rw [hw]; rfl)
      simp [State.canShed, State.unblocked, Dish.keyNow, hlast', hnext]
    have h4 := assessedTo4_surfacing u d st hshut
    have hstate : ((u.assessedTo4 d st).dish d).state = .ready := h4.state.trans (hkw.state.trans hwx)
    have hclaim := keyLeavesNone_of_waiting hwc hw'
    rw [assessMotion_poll_ready hstate rfl, if_pos hrf]
    refine ⟨hstate, h4.claim.trans ((congrArg (fun v : State => (v.dish d).claim) hk).trans (hclaim.trans ?_))⟩
    rw [hw]
    rfl
  · refine ends_of_poll hs hr ha hst fun u hu o _ => ?_
    let w := (u.modDish d (·.heard st u.now)).flag d { key := true }
    have hbw := flag_key_changes (u.modDish d (·.heard st u.now)) d
    have hw : w.dish d = _ := flagged u hu
    have hwx : (w.dish d).state = .ready := by rw [hw]; exact hx
    have hlkt : w.lkt = s.lkt := hbw.lockouts.trans hu.lkt
    have helig : w.eligible d = true := by
      have hfree : inSet w.motionBlocked d = false := by
        unfold State.motionBlocked
        rw [hlkt, inSet_coveredBy]
        exact hcov
      have hkey : (w.dish d).keyNow = .clear := by
        rw [hw]
        exact hk
      simp [State.eligible, State.unblocked, hwx, hfree, hkey]
    have hke : u.keyed d st = w.gain d := by
      rw [keyed u hu hso (by rw [hx]; rfl), assessKey_of_change hne, if_neg (fun h => hne (h.trans hk.symm)), if_pos hk]
      exact if_pos helig
    have h4 := assessedTo4_changes u d st
    have hstate : ((u.assessedTo4 d st).dish d).state = .ready := by
      refine h4.state.trans ?_
      rw [hke, (gain_changes w d).state, hwx]
    rw [assessMotion_poll_ready hstate rfl, if_pos hrf]
    exact ⟨hstate, h4.passDue (by rw [hke]; rfl)⟩

end Sys2Proof.Machine
end

section
-- One declaration at a time: the check bounds memory, and every thread in flight takes its stack from it.
set_option Elab.async false

/-! O25: the reply that completes a slew closes its host member (R18, R113, R188). -/

namespace Sys2Proof.Machine
open Sys2Proof.Claims

/-! ## The timing monitor -/

theorem onCompleted_spec (m : Monitor) (now : Nat) (r : TrackRef) : MonitorAtCompletion m (m.onCompleted now r) now r := by
  obtain ⟨st, stow, observe, tracked, wait, run, n, un, unt, ov⟩ := m
  unfold MonitorAtCompletion Monitor.onCompleted
  cases st with
  | disarmed => simp
  | armed => simp
  | tracking =>
    cases tracked with
    | none => simp
    | some t =>
      by_cases h : t.ref = r
      · cases ha : t.admittedAt with
        | none => simp [h, ha, Monitor.over, top32]
        | some a =>
          cases ov with
          | true => simp [h, ha, Monitor.over, top32, elapsed]
          | false =>
            simp [h, ha, Monitor.over, top32, elapsed]
            rfl
      · simp [h]

theorem monitorCompleted_spec (s : State) (r : TrackRef) :
    MonitorAtCompletion s.act.monitor (s.monitorCompleted r).act.monitor s.now r := onCompleted_spec _ _ _

/-! ## Records that stay open -/

theorem completionTest_of_open {s : State} {id : Nat} {r : SlewRecord} (h : s.record id = some r) (hr : (r.tested s.now).complete = false) :
    s.completionTest id = s := by
  unfold State.completionTest
  simp only [h]
  refine if_pos ?_
  by_contra hn
  unfold SlewRecord.tested at hr
  rw [if_neg hn] at hr
  simp at hr

/-- A host claim whose record stays open leaves the monitor as it is. -/
theorem closeClaim_host_monitor {s : State} {d : Nat} (host : MemberState) (wave : WaveState) {c : OpenClaim} {id : Nat} {r : SlewRecord}
    (hc : (s.dish d).claim = some c) (hid : c.ref = .host id) (h : s.record id = some r)
    (ho : ((r.closed d host).tested s.now).complete = false) : (s.closeClaim d host wave).act.monitor = s.act.monitor := by
  have closes (t : State) (ht : t.record id = some r) (hn : t.now = s.now) : (t.closeHost id d host).act.monitor = t.act.monitor := by
    have hm : (t.modRecord id (·.closed d host)).record id = some (r.closed d host) := by
      rw [modRecord_record t id (·.closed d host) fun _ => rfl, ht]
      rfl
    have := completionTest_of_open hm (by rw [show (t.modRecord id _).now = t.now from rfl, hn]; exact ho)
    exact (congrArg (fun v : State => v.act.monitor) this :)
  unfold State.closeClaim
  simp only [hc, hid]
  split
  · exact closes (s.modDish d Dish.dropClaim).trigger h rfl
  · exact closes (s.modDish d Dish.dropClaim) h rfl

/-! ## A reply in SLEWING -/

theorem assessSurface_of_admitted {s : State} {d : Nat} {prev : Option Status} {st : Status} {c : OpenClaim}
    (hc : (s.dish d).claim = some c) (ha : c.standing = .admitted) : Changes {.dish (.flag .surface) d} s (s.assessSurface d prev st) := by
  have hf : Changes {.dish (.flag .surface) d} s (s.flag d { surface := true }) :=
    (flag_changes s d _).mono (by rintro p ⟨k, hk, rfl⟩; cases k <;> simp_all [ChangeFlags.has])
  have hi (b : Bool) : (s.flag d { surface := true }).iceHold d b = s.flag d { surface := true } := by
    obtain ⟨ref, sd, run, bw⟩ := c
    simp only at ha
    subst ha
    unfold State.iceHold
    rw [hf.claim, hc]
    cases ref <;> rfl
  unfold State.assessSurface
  split
  · exact Changes.refl _ s
  · exact Changes.ite (fun _ => Changes.refl _ s) (fun _ => by rw [hi]; exact hf)

/-- Step 4 of a dish with an admitted claim, under a sound reply that keeps the key position, touches no record. -/
theorem assessedTo4_of_admitted {s u : State} {d now : Nat} {st : Status} {c : OpenClaim} (hu : Hears s u d now)
    (hx : (s.dish d).state.supervised = true) (ho : st.owner = .remote) (hf : st.fault = 0)
    (hk : ∀ p, (s.dish d).last = some p → p.key = st.key) (hc : (s.dish d).claim = some c) (ha : c.standing = .admitted) :
    Changes ({.dish (.flag .surface) d} ∪ heating) (u.modDish d (·.heard st u.now)) (u.assessedTo4 d st) := by
  have hkeyed : u.keyed d st = u.modDish d (·.heard st u.now) := by
    unfold State.keyed
    rw [assessedTo3_of_sound hu.isDish (by rwa [hu.dish]) ho hf, assessKey_same (by rwa [hu.dish])]
  have hc' : ((u.modDish d (·.heard st u.now)).dish d).claim = some c := by rw [hu.heard]; exact hc
  have hs : Changes {.dish (.flag .surface) d} (u.modDish d (·.heard st u.now)) _ :=
    assessSurface_of_admitted (prev := (u.dish d).last) (st := st) hc' ha
  rw [assessedTo4_eq, hkeyed]
  exact hs.andThen (heaterReply_heating _ d st (canShed_of_claim (by rw [hs.claim, hc']; simp)))

/-- A gain of eligibility opens a STOW task or leaves the claim (R85). -/
theorem gain_claim (s : State) (d : Nat) :
    ((s.gain d).dish d).claim = (s.dish d).claim ∨ ((s.gain d).dish d).claim = some { ref := .task, standing := .waiting } := by
  show ((s.autoStow d).dish d).claim = _ ∨ ((s.autoStow d).dish d).claim = _
  unfold State.autoStow
  simp only
  split
  · rcases openTask_cases s d .stow with h | h
    · exact .inr h.1
    · exact .inl (congrArg Dish.claim h)
  · exact .inl rfl

/-- The entry to READY of a dish that no preemption held (R24, R85). -/
theorem enterReady_plain {s : State} {d : Nat} (hd : s.isDish d = true)
    (h : ∀ w, (s.zone (s.dish d).zone).wave = some w → ∀ m ∈ w.members, m.dish = d → m.state ≠ .preemptWait) :
    Changes {.dish .state d, .passDue, .dish .claim d} s (s.enterReady d)
      ∧ (((s.enterReady d).dish d).claim = (s.dish d).claim
        ∨ ((s.enterReady d).dish d).claim = some { ref := .task, standing := .waiting }) := by
  let v := (s.modDish d (fun r => { r with state := .ready })).trigger
  have hv : Changes {.dish .state d, .passDue, .dish .claim d} s v :=
    ((modDish_state_changes s d .ready).mono).trans ((trigger_changes _).mono)
  have hvc : (v.dish d).claim = (s.dish d).claim := by
    rw [trigger_dish, modDish_dish_same _ d _ hd]
  have hpreempt : v.endPreempt d = v := endPreempt_eq_self v d (by rw [trigger_dish, modDish_zone_of_state]; exact h)
  have heq : s.enterReady d = if v.eligible d then v.gain d else v := by
    show (if (v.endPreempt d).eligible d then (v.endPreempt d).gain d else v.endPreempt d) = _
    rw [hpreempt]
  rw [heq]
  split
  · exact ⟨hv.trans ((gain_changes v d).mono), by rw [← hvc]; exact gain_claim v d⟩
  · exact ⟨hv, .inl hvc⟩

theorem pollReplyCompletesTheHostMember : PollReplyCompletesTheHostMember := by
  intro s d now id chars st cl r hs hr ha hst ho hf hkey hlast hrf hpos x hx hseq hcl hid hadm hrec hcomp hmem hpre
  have hk : ∀ p, (s.dish d).last = some p → p.key = st.key := fun p hp => (hlast p hp).trans hkey.symm
  have hsv : (s.dish d).state.supervised = true := by rw [show (s.dish d).state = _ from hx]; rfl
  suffices h : ∃ t, exec (.plReplyReceived chars) s = .next t ∧ ∃ r', t.record id = some r'
      ∧ RecordAfter r r' now (fun y => if y.dish = d then .done else y.state) ∧ (t.dish d).claim.map (·.ref) ≠ some (.host id)
      ∧ (r'.complete = true → .slewDone id ∈ t.oli.notices ∧ MonitorAtCompletion s.act.monitor t.act.monitor now (.host id))
      ∧ (r'.complete = false → t.act.monitor = s.act.monitor) by
    obtain ⟨t, he, r', h'⟩ := h
    exact ⟨t, r', he, h'⟩
  refine ends_of_poll hs hr ha hst fun u hu o hnot => ?_
  let v := u.assessedTo4 d st
  have hv : Quieted s v d now st := quieted_of_hears hu hsv ho hf hk (.inr (by simp [show (s.dish d).claim = _ from hcl]))
  have hbase := assessedTo4_of_admitted hu hsv ho hf hk hcl hadm
  have hvrec : v.record id = some r := (hbase.record (id := id)).trans ((hu.record id).trans hrec)
  let w := v.shedCounted d
  have hvw : Changes {.heater d} v w := shedCounted_changes v d
  have hwc : (w.dish d).claim = some cl := hvw.claim.trans (hv.claim.trans hcl)
  have hwr : w.record id = some r := (hvw.record (id := id)).trans hvrec
  have hwm : w.act.monitor = s.act.monitor := hvw.monitor.trans hv.monitor
  have hwn : w.now = now := hvw.now.trans hv.now
  let y := w.closeClaim d .done .done
  obtain ⟨hyr, hydone⟩ := closeClaim_host w d .done .done hwc hid hwr
  have hwy : Changes ({.dish .claim d, .passDue} ∪ {.table, .monitor}) w y := by
    have h := closeClaim_changes_of_ref w d .done .done
    rwa [hwc, Option.map_some, hid] at h
  have htail := slewed_tail v d
  obtain ⟨h1, -, -, h4⟩ := slewed_spec v d hv.isDish
  have hdz : ((v.slewed d).dish d).zone = x.zone := by
    have hz := (hvw.andThen (hwy.andThen htail)).assignment (d := d)
    exact hz.2.trans (congrArg Dish.zone hv.dish :)
  have hzone (z : Nat) : (v.slewed d).zone z = s.zone z := ((hvw.andThen (hwy.andThen htail)).zone).trans (hv.zone z)
  obtain ⟨hready, hclaim⟩ := enterReady_plain h1 (fun z hz => hpre z (by rwa [hdz, hzone] at hz))
  have hfin : v.assessMotion d st { kind := .poll, result := .none, withdrawn := false } = (v.slewed d).enterReady d := by
    rw [assessMotion_of_slewing (hv.state.trans hx), if_pos (by simp [hpos, hv.acceptedSeq.trans hseq]), slewDone_of_referenced v d hrf]
  have hyt := htail.andThen hready
  rw [hfin] at hnot ⊢
  refine ⟨(r.closed d .done).tested w.now, (hyt.record (id := id)).trans hyr, ?_, ?_, fun hc => ⟨?_, ?_⟩, fun hc => ?_⟩
  · rw [hwn]
    exact recordAfter_closed hcomp fun q hq hqd => by rw [hmem q hq hqd]; rfl
  · show ((((v.slewed d).enterReady d).dish d).claim.map (·.ref)) ≠ _
    rcases hclaim with h | h
    · simp [h, h4]
    · simp [h]
  · exact hnot ▸ hyt.notices (hydone hcomp hc).1
  · have hm := monitorCompleted_spec w (.host id)
    rw [← (hydone hcomp hc).2, hwm, hwn] at hm
    exact (hyt.monitor).symm ▸ hm
  · exact hyt.monitor.trans ((closeClaim_host_monitor .done .done hwc hid hwr hc).trans hwm)

end Sys2Proof.Machine

open Sys2Proof.Machine in
/-- Settles O25: what the five steps of R6 do with a reply to a POLL, from the record with which each step meets the dish. -/
theorem pollReplyMovesTheDishThroughItsStates : Obligations.PollReplyMovesTheDishThroughItsStates := by
  unfold Obligations.PollReplyMovesTheDishThroughItsStates
  exact ⟨pollReplyMovesTheDishState, pollReplyInLocalAndFaulted, pollReplyCompletesTheHostMember, pollReplyOnTheReference,
    pollReplyOnTheKey⟩

end

section
-- One declaration at a time: the check bounds memory, and every thread in flight takes its stack from it.
set_option Elab.async false

/-! O28: SLEW_CANCEL is a walk over the members in scope that meets each dish once (R112, R113). -/

namespace Sys2Proof.Machine
open Sys2Proof.Claims

/-! ## A record under one more closed member -/

theorem recordAfter_congr {r q : SlewRecord} {now : Nat} {f g : HostMember → MemberState} (h : RecordAfter r q now f)
    (hfg : ∀ y ∈ r.members, g y = f y) : RecordAfter r q now g := by
  have hm : r.members.map (fun m => { m with state := g m }) = r.members.map (fun m => { m with state := f m }) :=
    List.map_congr_left fun m hm => by rw [hfg m hm]
  unfold RecordAfter at h ⊢
  rw [hm]
  exact h

/-- While a member is open the record goes on. -/
theorem recordAfter_open {r q : SlewRecord} {now : Nat} {f : HostMember → MemberState} (h : RecordAfter r q now f) {m : HostMember}
    (hm : m ∈ r.members) (ho : (f m).isOpen = true) : q = { r with members := r.members.map (fun y => { y with state := f y }) } := by
  unfold RecordAfter at h
  rw [if_pos] at h
  · exact h
  · rw [isOpen_eq] at ho
    exact List.any_eq_true.mpr ⟨_, List.mem_map_of_mem hm, ho⟩

/-- Closing the members of one more dish, all of them open, and testing for completion. -/
theorem recordAfter_closes {r q : SlewRecord} {now d : Nat} {st : MemberState} {f : HostMember → MemberState} (h : RecordAfter r q now f)
    (hc : r.complete = false) {m : HostMember} (hm : m ∈ r.members) (hd : m.dish = d) (ho : ∀ y ∈ r.members, y.dish = d → (f y).isOpen = true) :
    q.complete = false ∧ RecordAfter r ((q.closed d st).tested now) now (fun y => if y.dish = d then st else f y) := by
  have hq := recordAfter_open h hm (ho m hm hd)
  have hqc : q.complete = false := by rw [hq]; exact hc
  refine ⟨hqc, ?_⟩
  have hall : ∀ y ∈ q.members, y.dish = d → y.state.isOpen = true := by
    rw [hq]
    intro y hy hyd
    obtain ⟨x, hx, rfl⟩ := List.mem_map.mp hy
    exact ho x hx hyd
  have hafter := recordAfter_closed (now := now) (st := st) hqc hall
  unfold RecordAfter at hafter ⊢
  rw [hq] at hafter ⊢
  simp only [List.map_map] at hafter
  exact hafter

/-! ## One member -/

/-- What SLEW_CANCEL makes of a member's state. -/
def cancelledState : MemberState → MemberState
  | .waiting => .cancelled
  | .admitted => .stoppedByHost
  | st => st

theorem cancelledState_of_not_open {st : MemberState} (h : st.isOpen = false) : cancelledState st = st := by
  cases st <;> simp_all [MemberState.isOpen, cancelledState]

/-- An open member's dish holds its claim (R102, R103). -/
def HoldsClaim (s : State) (id : Nat) (m : HostMember) : Prop :=
  (m.state = .waiting → ∃ c, (s.dish m.dish).claim = some c ∧ c.ref = .host id ∧ c.standing = .waiting)
    ∧ (m.state = .admitted → ((s.dish m.dish).state = .ready ∨ (s.dish m.dish).state = .slewing)
        ∧ ∃ c, (s.dish m.dish).claim = some c ∧ c.ref = .host id ∧ c.standing = .admitted)

theorem HoldsClaim.congr {s t : State} {id : Nat} {m : HostMember} (h : HoldsClaim s id m) (hd : t.dish m.dish = s.dish m.dish) :
    HoldsClaim t id m := by
  unfold HoldsClaim
  rw [hd]
  exact h

theorem closeClaim_passDue (s : State) (d : Nat) (host : MemberState) (wave : WaveState) {c : OpenClaim} (hc : (s.dish d).claim = some c)
    (hw : c.standing = .waiting) : (s.closeClaim d host wave).fbu.passDue = true := by
  unfold State.closeClaim
  simp only [hc, hw]
  cases c.ref with
  | host id => exact (closeHost_changes _ id d host).passDue rfl
  | wave z => exact (setWaveMember_changes _ z d wave).passDue rfl
  | task => rfl

/-- What a stop order adds to the closing of the claim (R20). -/
theorem stopOrder_tail {s : State} {d : Nat} (o : StopOutcome) (h : StopActs (s.dish d)) :
    Changes {.dish .state d, .dish .timer d, .slots .move d, .slots .stop d} (s.closeClaim d o.host o.wave) (s.stopOrder d o) := by
  unfold State.stopOrder
  rw [if_pos ((stoppable_iff _).mpr h)]
  refine Changes.trans (modDish_changes _ d _ fun p hp => ?_) ((orderStop_changes _ d).mono)
  cases p <;> simp_all [DishPart.Same]

/-- What the cancelling of a host member may change. -/
def cancelling (d : Nat) : Set Part := stopping d ∪ {.table, .monitor}

@[simp] theorem mem_cancelling (p : Part) (d : Nat) : p ∈ cancelling d ↔ p ∈ stopping d ∨ p = .table ∨ p = .monitor := Iff.rfl

theorem stopActs_of_admitted {r : Dish} {c : OpenClaim} (hc : r.claim = some c) (ha : c.standing = .admitted)
    (hs : r.state = .ready ∨ r.state = .slewing) : StopActs r := by
  rcases hs with hs | hs <;> simp [StopActs, hs, hc, ha]

section
variable {s : State} {id : Nat} {m : HostMember} (h : HoldsClaim s id m)
include h

theorem cancelMember_changes : Changes (cancelling m.dish) s (s.cancelMember m) := by
  obtain ⟨hw, ha⟩ := h
  unfold State.cancelMember
  split
  next hs =>
    obtain ⟨c, hc, hr, -⟩ := hw hs
    have := closeClaim_changes_of_ref s m.dish .cancelled .stoppedByHost
    rw [hc, Option.map_some, hr] at this
    exact this.mono (Set.union_subset_union_left _ (by simp [Set.insert_subset_iff]))
  next hs =>
    obtain ⟨-, c, hc, hr, -⟩ := ha hs
    have := stopOrder_changes_of_ref s m.dish .stoppedByHost
    rwa [hc, Option.map_some, hr] at this
  next => exact Changes.refl _ s

/-- The dish of a cancelled member. -/
theorem cancelMember_dish : (m.state = .waiting → ((s.cancelMember m).dish m.dish).claim = none ∧ (s.cancelMember m).fbu.passDue = true)
    ∧ (m.state = .admitted → (s.cancelMember m).dish m.dish = (s.dish m.dish).stopped s.now) := by
  obtain ⟨hw, ha⟩ := h
  refine ⟨fun hs => ?_, fun hs => ?_⟩
  · obtain ⟨c, hc, -, hcw⟩ := hw hs
    simp only [State.cancelMember, hs]
    exact ⟨closeClaim_claim _ _ _ _, closeClaim_passDue _ _ _ _ hc hcw⟩
  · obtain ⟨hst, c, hc, -, hca⟩ := ha hs
    simp only [State.cancelMember, hs]
    exact stopOrder_dish _ (stopActs_of_admitted hc hca hst)

/-- The record of a cancelled member. -/
theorem cancelMember_record {q : SlewRecord} (hq : s.record id = some q) (ho : m.state.isOpen = true) :
    (s.cancelMember m).record id = some ((q.closed m.dish (cancelledState m.state)).tested s.now)
      ∧ (q.complete = false → ((q.closed m.dish (cancelledState m.state)).tested s.now).complete = true →
          .slewDone id ∈ (s.cancelMember m).oli.notices) := by
  obtain ⟨hw, ha⟩ := h
  unfold State.cancelMember
  split
  next hs =>
    obtain ⟨c, hc, hr, -⟩ := hw hs
    obtain ⟨h1, h2⟩ := closeClaim_host s m.dish .cancelled .stoppedByHost hc hr hq
    rw [hs]
    exact ⟨h1, fun h3 h4 => (h2 h3 h4).1⟩
  next hs =>
    obtain ⟨hst, c, hc, hr, hca⟩ := ha hs
    obtain ⟨h1, h2⟩ := closeClaim_host s m.dish .stoppedByHost .stoppedByHost hc hr hq
    have ht := stopOrder_tail (s := s) .stoppedByHost (stopActs_of_admitted hc hca hst)
    rw [hs]
    exact ⟨(ht.record (id := id)).trans h1, fun h3 h4 => ht.notices (h2 h3 h4).1⟩
  next h1 h2 => cases hm : m.state <;> simp_all [MemberState.isOpen]

end

theorem cancelMember_of_not_open (s : State) {m : HostMember} (h : m.state.isOpen = false) : s.cancelMember m = s := by
  unfold State.cancelMember
  split
  next hs => simp [hs, MemberState.isOpen] at h
  next hs => simp [hs, MemberState.isOpen] at h
  next => rfl

/-- The record after one more member. -/
theorem cancelMember_after {s : State} {id now : Nat} {m : HostMember} {r q : SlewRecord} {f : HostMember → MemberState}
    (h : HoldsClaim s id m) (hc : r.complete = false) (hmem : m ∈ r.members) (hstate : ∀ y ∈ r.members, y.dish = m.dish → f y = m.state)
    (hnow : s.now = now) (hq : s.record id = some q) (hr : RecordAfter r q now f) (hdone : q.complete = true → .slewDone id ∈ s.oli.notices) :
    ∃ q', (s.cancelMember m).record id = some q'
      ∧ RecordAfter r q' now (fun y => if y.dish = m.dish then cancelledState (f y) else f y)
      ∧ (q'.complete = true → .slewDone id ∈ (s.cancelMember m).oli.notices) := by
  cases ho : m.state.isOpen with
  | true =>
    obtain ⟨hqc, hclosed⟩ := recordAfter_closes (st := cancelledState m.state) hr hc hmem rfl
      (fun y hy hyd => by rw [hstate y hy hyd]; exact ho)
    obtain ⟨h1, h2⟩ := cancelMember_record h hq ho
    rw [hnow] at h1 h2
    refine ⟨_, h1, recordAfter_congr hclosed fun y hy => ?_, h2 hqc⟩
    split
    next hyd => rw [hstate y hy hyd]
    next => rfl
  | false =>
    rw [cancelMember_of_not_open s ho]
    refine ⟨q, hq, recordAfter_congr hr fun y hy => ?_, hdone⟩
    split
    next hyd => rw [hstate y hy hyd, cancelledState_of_not_open ho]
    next => rfl

/-! ## The walk -/

/-- The walk over members of distinct dishes that hold their claims: its frame, the record that it leaves, and the dish of each. -/
theorem cancelWalk {r : SlewRecord} {now id : Nat} (hc : r.complete = false) (L : List HostMember) (s : State) (q : SlewRecord)
    (f : HostMember → MemberState) (hnow : s.now = now) (hq : s.record id = some q) (hr : RecordAfter r q now f)
    (hdone : q.complete = true → .slewDone id ∈ s.oli.notices) (hn : (L.map (·.dish)).Nodup)
    (hL : ∀ m ∈ L, m ∈ r.members ∧ HoldsClaim s id m ∧ ∀ y ∈ r.members, y.dish = m.dish → f y = m.state) :
    let t := L.foldl (fun t m => t.cancelMember m) s
    Changes {p | ∃ m ∈ L, p ∈ cancelling m.dish} s t
      ∧ (∃ q', t.record id = some q' ∧ (q'.complete = true → .slewDone id ∈ t.oli.notices)
          ∧ RecordAfter r q' now (fun y => if y.dish ∈ L.map (·.dish) then cancelledState (f y) else f y))
      ∧ ∀ m ∈ L, (m.state = .waiting → (t.dish m.dish).claim = none ∧ t.fbu.passDue = true)
          ∧ (m.state = .admitted → t.dish m.dish = (s.dish m.dish).stopped now) := by
  induction L generalizing s q f with
  | nil => exact ⟨Changes.refl _ s, ⟨q, hq, hdone, recordAfter_congr hr (by simp)⟩, by simp⟩
  | cons m L ih =>
    intro t
    obtain ⟨hmem, hhold, hstate⟩ := hL m List.mem_cons_self
    rw [List.map_cons, List.nodup_cons] at hn
    obtain ⟨hnot, hn'⟩ := hn
    have hne : ∀ y ∈ L, y.dish ≠ m.dish := fun y hy he => hnot (he ▸ List.mem_map_of_mem hy)
    have hstep := cancelMember_changes hhold
    obtain ⟨hwait, hadm⟩ := cancelMember_dish hhold
    let f' : HostMember → MemberState := fun y => if y.dish = m.dish then cancelledState (f y) else f y
    obtain ⟨q', hq', hr', hdone'⟩ := cancelMember_after hhold hc hmem hstate hnow hq hr hdone
    have hother (y : HostMember) (hy : y ∈ L) : (s.cancelMember m).dish y.dish = s.dish y.dish :=
      hstep.dish (by simp [hne y hy])
    obtain ⟨hwalk, ⟨q'', hq'', hdone'', hr''⟩, hdish⟩ := ih (s.cancelMember m) q' f' (hstep.now.trans hnow) hq' hr' hdone' hn'
      fun y hy => by
        obtain ⟨h1, h2, h3⟩ := hL y (List.mem_cons_of_mem m hy)
        refine ⟨h1, h2.congr (hother y hy), fun x hx hxd => ?_⟩
        have : x.dish ≠ m.dish := hxd ▸ hne y hy
        simpa [f', this] using h3 x hx hxd
    have hmdish : t.dish m.dish = (s.cancelMember m).dish m.dish := by
      refine hwalk.dish fun p hp => ?_
      obtain ⟨y, hy, hp⟩ := hp
      have := (hne y hy).symm
      simp [this] at hp
    refine ⟨Changes.trans (hstep.mono fun p hp => ⟨m, List.mem_cons_self, hp⟩) (hwalk.mono fun p hp => ?_), ⟨q'', hq'', hdone'', ?_⟩, fun y hy => ?_⟩
    · obtain ⟨y, hy, hp⟩ := hp
      exact ⟨y, List.mem_cons_of_mem m hy, hp⟩
    · refine recordAfter_congr hr'' fun y hy => ?_
      by_cases hyd : y.dish = m.dish
      · simp [f', hyd, hnot]
      · simp [f', hyd]
    · rcases List.mem_cons.mp hy with rfl | hy
      · exact ⟨fun hw => ⟨(congrArg Dish.claim hmdish).trans (hwait hw).1, hwalk.passDue (hwait hw).2⟩,
          fun ha => hmdish.trans (by rw [hadm ha, hnow])⟩
      · obtain ⟨h1, h2⟩ := hdish y hy
        exact ⟨h1, fun ha => by rw [← hother y hy]; exact h2 ha⟩

/-! ## SLEW_CANCEL -/

theorem record_id {s : State} {id : Nat} {r : SlewRecord} (h : s.record id = some r) : r.id = id := by
  simpa using List.find?_some h

theorem within_cancelling {d : Nat} {q : Part} (hq : q ∈ cancelling d) : q.within [.dsv, .pbc, .sls, .fbu, .act] := by
  rcases hq with hq | rfl | rfl
  · exact within_stopping hq
  · simp [Part.within, Part.block]
  · simp [Part.within, Part.block]

/-- Whether a dish set, where one is given, takes in the member. -/
def inScopeOf (ds : Option DishSet) (m : HostMember) : Bool :=
  match ds with
  | some x => inSet x m.dish
  | none => true

theorem inScopeOf_congr (ds : Option DishSet) {m y : HostMember} (h : m.dish = y.dish) : inScopeOf ds m = inScopeOf ds y := by
  cases ds with
  | none => rfl
  | some x => exact congrArg (inSet x) h

theorem not_isOpen_eq (st : MemberState) : (!st.isOpen) = (st != .waiting && st != .admitted) := by
  cases st <;> rfl

/-- The cases of R112. -/
theorem cancelOf_cases (s : State) (id : Nat) (ds : Option DishSet) : s.cancelOf id ds =
    if ¬ (1 ≤ id ∧ id ≤ 255) then s.refuse .outOfRange
    else match s.record id with
      | none => s.refuse .notFound
      | some r =>
        if r.complete = true then s.refuse .state
        else if ds = some 0 then s.refuse .emptySet
        else ((r.members.filter (inScopeOf ds)).foldl (fun t m => t.cancelMember m) s).answer
          (.cancelled ((r.members.filter (inScopeOf ds)).countP (fun m => m.state == .waiting))
            ((r.members.filter (inScopeOf ds)).countP (fun m => m.state == .admitted))
            ((r.members.filter (inScopeOf ds)).countP (fun m => !m.state.isOpen))) := by
  have hin : (!inRange 1 255 id) = true ↔ ¬ (1 ≤ id ∧ id ≤ 255) := by simp [inRange]; omega
  unfold State.cancelOf
  by_cases h : 1 ≤ id ∧ id ≤ 255
  · rw [if_neg (hin.not.mpr (by simpa using h)), if_neg (by simpa using h)]
    cases s.record id with
    | none => rfl
    | some r =>
      by_cases h0 : ds = some 0
      · simp [h0]
      · simp only [beq_iff_eq, h0, if_false]
        rfl
  · rw [if_pos (hin.mpr h), if_pos h]

end Sys2Proof.Machine

open Sys2Proof.Machine Sys2Proof.Claims in
/-- Settles O28: the checks of R112 in their order, and the walk over the members in scope (`cancelWalk`). -/
theorem slewCancelClosesTheMembersInScope : Obligations.SlewCancelClosesTheMembersInScope := by
  unfold Obligations.SlewCancelClosesTheMembersInScope
  intro s tag id ds hs h refused known
  have refuses (why : Reason) (ho : s.taken.cancelOf id ds = s.taken.refuse why) : refused why :=
    refuse_answered s _ (fun s => s.cancelOf id ds) 0x0C tag why h rfl rfl ho
  have hrecord : s.taken.record id = s.record id := rfl
  refine ⟨fun hk => refuses _ ?_, fun hk hr => refuses _ ?_, fun r hk hr hc => refuses _ ?_, fun r hk hr hc h0 => refuses _ ?_,
    fun r hk hr hc h0 hm hopen => ?_⟩
  · rw [cancelOf_cases, if_pos hk]
  · rw [cancelOf_cases, if_neg (by simpa using hk), hrecord, hr]
  · rw [cancelOf_cases, if_neg (by simpa using hk), hrecord, hr]
    exact if_pos hc
  · rw [cancelOf_cases, if_neg (by simpa using hk), hrecord, hr]
    exact (if_neg (by simp [hc])).trans (if_pos h0)
  intro inScope count
  obtain ⟨hnodup, hmembers⟩ := hm
  let L := r.members.filter (inScopeOf ds)
  have hmemL {m : HostMember} (hm : m ∈ r.members) (hin : inScope m = true) : m ∈ L := List.mem_filter.mpr ⟨hm, hin⟩
  have hstart : RecordAfter r r s.now (·.state) := by
    obtain ⟨m, hm, ho⟩ := hopen
    unfold RecordAfter
    rw [if_pos]
    · simp
    · exact List.any_eq_true.mpr ⟨m, by simpa using hm, by rcases ho with ho | ho <;> simp [ho]⟩
  obtain ⟨hl, ⟨r', hr', hdone, hafter⟩, hdish⟩ := cancelWalk (now := s.now) (id := id) hc L s.taken r (·.state) rfl hr hstart (by simp [hc])
    (hnodup.sublist (List.filter_sublist.map _)) fun m hm => by
      obtain ⟨hmem, -⟩ := List.mem_filter.mp hm
      obtain ⟨-, -, hw, ha⟩ := hmembers m hmem
      rw [record_id hr] at hw ha
      exact ⟨hmem, ⟨hw, ha⟩, fun y hy hyd => by rw [List.inj_on_of_nodup_map hnodup hy hmem hyd]⟩
  have hcount (p : HostMember → Bool) : L.countP p = count p := by
    rw [List.countP_filter]
    exact List.countP_congr fun m _ => by rw [Bool.and_comm]; exact Iff.rfl
  have hwithin : ∀ q ∈ {p | ∃ m ∈ L, p ∈ cancelling m.dish}, q.within [.dsv, .pbc, .sls, .fbu, .act] := by
    rintro q ⟨m, -, hq⟩
    exact within_cancelling hq
  refine answers_of_changes (owner := fun s => s.cancelOf id ds) _ (L.foldl (fun t m => t.cancelMember m) s.taken) h rfl rfl ?_ hl hwithin
    fun o ho => ?_
  · show s.taken.cancelOf id ds = _
    rw [cancelOf_cases, if_neg (by simpa using hk), hrecord, hr]
    refine (if_neg (by simp [hc])).trans ((if_neg h0).trans ?_)
    rw [hcount, hcount, hcount]
    simp only [not_isOpen_eq]
    rfl
  · refine ⟨⟨r', hr', fun hd => ho ▸ hdone hd, recordAfter_congr hafter fun y hy => ?_⟩, fun m hm hin hw => (hdish m (hmemL hm hin)).1 hw,
      fun m hm hin ha => ?_, fun d hd => hl.dish fun p hp => ?_, hl.feeders⟩
    · have hiff : y.dish ∈ L.map (·.dish) ↔ inScope y = true := by
        refine ⟨fun hyL => ?_, fun hin => List.mem_map_of_mem (hmemL hy hin)⟩
        obtain ⟨m, hmL, hmd⟩ := List.mem_map.mp hyL
        exact (inScopeOf_congr ds hmd).symm.trans (List.mem_filter.mp hmL).2
      simp only [hiff]
      cases inScope y <;> cases y.state <;> rfl
    · have hd := (hdish m (hmemL hm hin)).2 ha
      exact ⟨(congrArg Dish.claim hd :), (congrArg Dish.state hd :), (congrArg Dish.timer hd :), (congrArg Dish.reservation hd :)⟩
    · obtain ⟨m, hm, hp⟩ := hp
      obtain ⟨hmem, hin⟩ := List.mem_filter.mp hm
      have hne : d ≠ m.dish := fun he => by
        have : inScopeOf ds m = false := hd m hmem he.symm
        rw [this] at hin
        exact Bool.noConfusion hin
      cases p <;> simp_all

end

section
-- One declaration at a time: the check bounds memory, and every thread in flight takes its stack from it.
set_option Elab.async false

/-! O39: the assessment of dishes by Table 25 (R79, R80, R83). -/

namespace Sys2Proof.Machine
open Sys2Proof.Claims

/-! ## Table 25 -/

theorem unblocked_eq (s : State) (d : Nat) : s.unblocked d = !((match (s.dish d).last with | some x => x.key != .clear | none => false)
    || s.lkt.entries.any (fun e => (e.state == .active || e.state == .releasing) && e.motion && inSet e.scope d)) := by
  unfold State.unblocked State.motionBlocked Dish.keyNow
  rw [inSet_coveredBy]
  cases (s.dish d).last with
  | none => simp
  | some x => simp only [Bool.not_or, bne, Bool.not_not]

/-- Whether line 1 of Table 25 applies: an open OBSERVE claim or a SHED task. -/
def Dish.observed (r : Dish) : Bool :=
  (match r.claim with | some { ref := .host _, .. } => true | _ => false) || r.task == some .shed

/-- Table 25 over the model's own reading of its lines 3 to 6. -/
theorem placeInWave_eq (s : State) (z d : Nat) : placeInWave s z d =
    if (s.dish d).observed then (if (s.dish d).claim.map (·.standing) == some .admitted then .preemptWait else s.assessMember z d)
    else if (s.dish d).task == some .stow then (if (s.dish d).claim.map (·.standing) == some .admitted then .admitted else .waiting)
    else s.assessMember z d := by
  have hfresh : s.assessMember z d = if (s.dish d).state ≠ .ready then .excused (.state (s.dish d).state)
      else if (match (s.dish d).last with | some x => x.key != .clear | none => false)
        || s.lkt.entries.any (fun e => (e.state == .active || e.state == .releasing) && e.motion && inSet e.scope d) then .excused .locked
      else if nearStow (s.zone z) (s.dish d) then .done else .waiting := by
    unfold State.assessMember
    rw [unblocked_eq, Bool.not_not]
    simp only [bne_iff_ne]
    rfl
  rw [hfresh]
  rfl

theorem isAdmitted_eq (r : Dish) : r.isAdmitted = (r.claim.map (·.standing) == some .admitted) := by
  unfold Dish.isAdmitted
  cases r.claim <;> rfl

/-- A preemptible claim is a host member's or a SHED task. -/
theorem preemptible_iff (r : Dish) : r.preemptible = true ↔
    ∃ c, r.claim = some c ∧ ((∃ id, c.ref = .host id) ∨ (c.ref = .task ∧ r.task = some .shed)) := by
  unfold Dish.preemptible Dish.claimClass
  cases r.claim with
  | none => simp
  | some c =>
    cases hr : c.ref with
    | host id => simp [hr]
    | wave z => simp [hr]
    | task => cases ht : r.task with
      | none => simp [hr]
      | some k => cases k <;> simp [hr]

theorem observed_iff {r : Dish} (h : ClaimFits r) : r.observed = r.preemptible := by
  rw [Bool.eq_iff_iff, preemptible_iff]
  unfold Dish.observed
  rw [Bool.or_eq_true, beq_iff_eq]
  constructor
  · rintro (hc | ht)
    · split at hc
      next id _ _ _ heq => exact ⟨_, heq, .inl ⟨id, rfl⟩⟩
      next => simp at hc
    · obtain ⟨c, hc, hr⟩ := h.1.mp (by simp [ht])
      exact ⟨c, hc, .inr ⟨hr, ht⟩⟩
  · rintro ⟨c, hc, ⟨id, hr⟩ | ⟨hr, ht⟩⟩
    · obtain ⟨ref, st, run, bw⟩ := c
      simp only at hr
      subst hr
      exact .inl (by rw [hc])
    · exact .inr ht

/-- An admitted preemptible claim is stopped by a stop order. -/
theorem stopActs_of_preemptible {r : Dish} (h : ClaimFits r) (hp : r.preemptible = true) (ha : r.isAdmitted = true) : StopActs r := by
  obtain ⟨c, hc, hr⟩ := (preemptible_iff r).mp hp
  have hadm : c.standing = .admitted := by simpa [Dish.isAdmitted, hc] using ha
  refine stopActs_of_admitted hc hadm (h.2.2.1 (by simp [hc]) fun ht => ?_)
  obtain ⟨c', hc', hr'⟩ := h.1.mp (by simp [ht])
  rw [hc, Option.some.injEq] at hc'
  subst hc'
  rcases hr with ⟨id, hr⟩ | ⟨-, hs⟩
  · simp [hr] at hr'
  · simp [hs] at ht

/-! ## One dish -/

section
variable {s t : State} {z d : Nat}

theorem assessMember_congr (hs : (t.dish d).state = (s.dish d).state) (hl : (t.dish d).last = (s.dish d).last) (hk : t.lkt = s.lkt)
    (hz : (t.zone z).stowEl = (s.zone z).stowEl ∧ (t.zone z).stowAz = (s.zone z).stowAz) : t.assessMember z d = s.assessMember z d := by
  unfold State.assessMember State.unblocked State.motionBlocked Dish.keyNow State.atStow Zone.atStow
  rw [hs, hl, hk, hz.1, hz.2]

theorem placeInWave_congr (hd : t.dish d = s.dish d) (hk : t.lkt = s.lkt)
    (hz : (t.zone z).stowEl = (s.zone z).stowEl ∧ (t.zone z).stowAz = (s.zone z).stowAz) : placeInWave t z d = placeInWave s z d := by
  rw [placeInWave_eq, placeInWave_eq, assessMember_congr (by rw [hd]) (by rw [hd]) hk hz, hd]

theorem assessed_congr {st : WaveState} {s' t' : State} (h : Assessed s t z d st) (hs : (s'.dish d).reservation = (s.dish d).reservation)
    (ht : t'.dish d = t.dish d) : Assessed s' t' z d st := by
  unfold Assessed
  rw [hs, ht]
  exact h

theorem closing_of_preemptible (hp : (s.dish d).preemptible = true) :
    closingOf ((s.dish d).claim.map (·.ref)) ⊆ {.table, .monitor} := by
  obtain ⟨c, hc, ⟨id, hr⟩ | ⟨hr, -⟩⟩ := (preemptible_iff _).mp hp
  · rw [hc, Option.map_some, hr]
    exact fun _ h => h
  · rw [hc, Option.map_some, hr]
    exact Set.empty_subset _

/-- The preemption of an OBSERVE or SHED claim touches its dish and its record (R80). -/
theorem preempt_changes (hp : (s.dish d).preemptible = true) : Changes (cancelling d) s (s.preempt d).1 := by
  have hstop := (stopOrder_changes_of_ref s d .preemptedStow).mono (Set.union_subset_union_right _ (closing_of_preemptible hp))
  have hclose := (closeClaim_changes_of_ref s d .preemptedStow .stoppedByHost).mono (l' := cancelling d)
    (Set.union_subset (by simp [Set.insert_subset_iff]) ((closing_of_preemptible hp).trans Set.subset_union_right))
  unfold State.preempt
  split
  · exact hstop
  · exact hclose

/-- A preempted dish has no claim; it is being stopped, its reservation kept, where the claim was admitted. -/
theorem preempt_dish (hf : ClaimFits (s.dish d)) (hp : (s.dish d).preemptible = true) :
    (s.preempt d).2 = (s.dish d).isAdmitted ∧ ((s.preempt d).1.dish d).claim = none
      ∧ ((s.dish d).isAdmitted = true → ((s.preempt d).1.dish d).state = .stopping
          ∧ ((s.preempt d).1.dish d).reservation = (s.dish d).reservation)
      ∧ ((s.dish d).isAdmitted = false → ((s.preempt d).1.dish d).state = (s.dish d).state
          ∧ ((s.preempt d).1.dish d).last = (s.dish d).last) := by
  unfold State.preempt
  cases ha : (s.dish d).isAdmitted with
  | true =>
    have hd : (s.stopOrder d .preemptedStow).dish d = (s.dish d).stopped s.now := stopOrder_dish _ (stopActs_of_preemptible hf hp ha)
    simp only [if_true]
    rw [hd]
    exact ⟨trivial, rfl, fun _ => ⟨rfl, rfl⟩, by simp⟩
  | false =>
    have hc := closeClaim_changes s d .preemptedStow .stoppedByHost
    exact ⟨rfl, closeClaim_claim s d _ _, by simp, fun _ => ⟨hc.state, hc.status.1⟩⟩

theorem assessAndOpen_changes : Changes {.dish .claim d, .passDue} s (s.assessAndOpen z d).1 :=
  Changes.ite (fun _ => openClaim_changes s d _) (fun _ => Changes.refl _ s)

/-- A WAITING member opens its claim. -/
theorem assessAndOpen_assessed {u : State} (hd : s.isDish d = true) : Assessed u (s.assessAndOpen z d).1 z d (s.assessAndOpen z d).2 := by
  have hcases : s.assessMember z d ≠ .admitted ∧ s.assessMember z d ≠ .preemptWait := by
    unfold State.assessMember
    repeat' split
    all_goals simp
  refine ⟨fun h => ?_, fun h => absurd h hcases.2⟩
  have hw : s.assessMember z d = .waiting := h.resolve_right hcases.1
  have hopen : (s.assessAndOpen z d).1 = s.openClaim d (.wave z) := if_pos (by rw [hw]; rfl)
  have hdish : (s.openClaim d (.wave z)).dish d = { s.dish d with claim := some { ref := .wave z } } := modDish_dish_same s d _ hd
  rw [hopen, hdish]
  exact ⟨_, rfl, rfl, by simp [State.assessAndOpen, hw]⟩

theorem takeOver_changes : Changes {.dish .claim d, .passDue, .monitor} s (s.takeOver z d).1 := by
  have h : Changes {.dish .claim d, .passDue, .monitor} s (s.modDish d (fun r =>
      { r with claim := r.claim.map (fun c => { c with ref := .wave z, budgetWaiting := false }), task := none })).trigger := by
    refine Changes.trans (modDish_changes s d _ fun p hp => ?_) ((trigger_changes _).mono)
    cases p <;> simp_all [DishPart.Same]
  unfold State.takeOver
  simp only
  split
  · exact h.trans ((monitorAdmitted_changes _ _).mono)
  · exact h

/-- The member of an open STOW task takes the claim over as it stands (R80). -/
theorem takeOver_assessed {u : State} (hd : s.isDish d = true) {c : OpenClaim} (hc : (s.dish d).claim = some c) :
    (s.takeOver z d).2 = (if (s.dish d).claim.map (·.standing) == some .admitted then .admitted else .waiting)
      ∧ Assessed u (s.takeOver z d).1 z d (s.takeOver z d).2 := by
  have hdish (v : State) (hv : v = (s.modDish d (fun r =>
      { r with claim := r.claim.map (fun c => { c with ref := .wave z, budgetWaiting := false }), task := none })).trigger ∨
      v = ((s.modDish d (fun r => { r with
        claim := r.claim.map (fun c => { c with ref := .wave z, budgetWaiting := false }), task := none })).trigger).monitorAdmitted (.wave z)) :
      (v.dish d).claim = some { c with ref := .wave z, budgetWaiting := false } := by
    have : v.dish d = _ := (by rcases hv with rfl | rfl <;> rfl : v.dish d = _).trans (modDish_dish_same s d _ hd)
    rw [this, hc]
    rfl
  unfold State.takeOver
  simp only [isAdmitted_eq]
  split
  next ha =>
    have hadm : c.standing = .admitted := by simpa [hc] using ha
    refine ⟨rfl, fun _ => ⟨_, hdish _ (.inr rfl), rfl, by simp [hadm]⟩, by simp⟩
  next ha =>
    have hadm : c.standing ≠ .admitted := by simpa [hc] using ha
    refine ⟨rfl, fun _ => ⟨_, hdish _ (.inl rfl), rfl, by simp [hadm]⟩, by simp⟩

/-- The assessment of one dish touches the dish and the record of its claim. -/
theorem assessDish_changes : Changes (cancelling d) s (s.assessDish z d).1 := by
  have opens (t : State) : Changes (cancelling d) t (t.assessAndOpen z d).1 := assessAndOpen_changes.mono
  unfold State.assessDish
  simp only
  split
  next hp =>
    split
    · exact preempt_changes hp
    · exact (preempt_changes hp).trans (opens _)
  next =>
    split
    · exact takeOver_changes.mono
    · exact opens s

/-- The assessment of one dish places it by Table 25 and leaves the dish accordingly. -/
theorem assessDish_place (hd : s.isDish d = true) (hf : ClaimFits (s.dish d)) : (s.assessDish z d).2 = placeInWave s z d
    ∧ Assessed s (s.assessDish z d).1 z d (placeInWave s z d) := by
  have hobs := observed_iff hf
  rw [placeInWave_eq, hobs, ← isAdmitted_eq]
  unfold State.assessDish
  simp only
  cases hp : (s.dish d).preemptible with
  | true =>
    obtain ⟨h2, hnone, hadm, hwait⟩ := preempt_dish hf hp
    have hch := preempt_changes hp
    simp only [if_true, h2]
    cases ha : (s.dish d).isAdmitted with
    | true => exact ⟨rfl, by simp, fun _ => ⟨hnone, (hadm ha).1, (hadm ha).2⟩⟩
    | false =>
      have hm : (s.preempt d).1.assessMember z d = s.assessMember z d :=
        assessMember_congr (hwait ha).1 (hwait ha).2 hch.lockouts ⟨by rw [hch.zone], by rw [hch.zone]⟩
      refine ⟨hm, ?_⟩
      have := assessAndOpen_assessed (u := s) (s := (s.preempt d).1) (z := z) ((hch.isDish d).trans hd)
      rwa [show ((s.preempt d).1.assessAndOpen z d).2 = s.assessMember z d from hm] at this
  | false =>
    simp only [Bool.false_eq_true, if_false]
    by_cases ht : (s.dish d).task = some .stow
    · obtain ⟨c, hc, -⟩ := hf.1.mp (by simp [ht])
      obtain ⟨h1, h2⟩ := takeOver_assessed (u := s) (z := z) hd hc
      rw [if_pos (by simp [ht, hc]), if_pos (by simp [ht]), isAdmitted_eq]
      exact ⟨h1, h1 ▸ h2⟩
    · rw [if_neg (by simp [ht]), if_neg (by simp [ht])]
      exact ⟨rfl, assessAndOpen_assessed hd⟩

/-- A dish without a claim gets at most one. -/
theorem assessDish_unclaimed (hc : (s.dish d).claim = none) : Changes {.dish .claim d, .passDue} s (s.assessDish z d).1 := by
  have hp : (s.dish d).preemptible = false := by simp [Dish.preemptible, Dish.claimClass, hc]
  unfold State.assessDish
  simp only [hp, hc]
  simp only [Bool.false_eq_true, if_false, Option.isSome_none, Bool.and_false]
  exact assessAndOpen_changes

end

end Sys2Proof.Machine
end

section
-- One declaration at a time: the check bounds memory, and every thread in flight takes its stack from it.
set_option Elab.async false

/-! O39: the walks over the members of a wave and over the dishes that joined its zone (R78, R83). -/

namespace Sys2Proof.Machine
open Sys2Proof.Claims

/-! ## The members of a wave (R83) -/

/-- A closed member whose dish is still in the zone is assessed again. -/
def State.again (s : State) (z : Nat) (m : WaveMember) : Bool := !m.state.isOpen && (s.dish m.dish).zone == z

/-- The state after one member. -/
def State.reassessed (s : State) (z : Nat) (m : WaveMember) : State := if s.again z m then (s.assessDish z m.dish).1 else s

theorem reassessAll_cons (s : State) (z : Nat) (m : WaveMember) (ms : List WaveMember) : s.reassessAll z (m :: ms) =
    (((s.reassessed z m).reassessAll z ms).1,
      (if s.again z m then { m with state := (s.assessDish z m.dish).2 } else m) :: ((s.reassessed z m).reassessAll z ms).2) := by
  have hcond : (m.state.isOpen || (s.dish m.dish).zone ≠ z) = true ↔ s.again z m = false := by
    cases ho : m.state.isOpen <;> simp [State.again, ho]
  rw [State.reassessAll, State.reassessed]
  cases ha : s.again z m with
  | true =>
    rw [if_neg (by rw [hcond, ha]; simp)]
    rfl
  | false =>
    rw [if_pos (hcond.mpr ha)]
    rfl

theorem reassessed_changes (s : State) (z : Nat) (m : WaveMember) :
    Changes {p | s.again z m = true ∧ p ∈ cancelling m.dish} s (s.reassessed z m) :=
  Changes.ite (fun ha => assessDish_changes.mono fun _ hp => ⟨ha, hp⟩) (fun _ => Changes.refl _ s)

/-- The walk over the members of a wave: its frame, the members that it leaves, and the dish of each assessed one. -/
theorem reassessAll_walk (z : Nat) (L : List WaveMember) (s : State) (hf : ClaimsFit s) (hn : (L.map (·.dish)).Nodup)
    (hd : ∀ m ∈ L, s.isDish m.dish = true) :
    Changes {p | ∃ m ∈ L, s.again z m = true ∧ p ∈ cancelling m.dish} s (s.reassessAll z L).1
      ∧ (s.reassessAll z L).2 = L.map (fun m => if s.again z m then { m with state := placeInWave s z m.dish } else m)
      ∧ ∀ m ∈ L, s.again z m = true → Assessed s (s.reassessAll z L).1 z m.dish (placeInWave s z m.dish) := by
  induction L generalizing s with
  | nil => exact ⟨Changes.refl _ s, rfl, by simp⟩
  | cons m L ih =>
    rw [List.map_cons, List.nodup_cons] at hn
    obtain ⟨hnot, hn'⟩ := hn
    have hne : ∀ y ∈ L, y.dish ≠ m.dish := fun y hy he => hnot (he ▸ List.mem_map_of_mem hy)
    have hstep := reassessed_changes s z m
    have hfit : ClaimsFit (s.reassessed z m) := ite_claimsFit (fun _ => assessDish_claimsFit hf z m.dish) (fun _ => hf)
    have hzone : (s.reassessed z m).zone z = s.zone z := hstep.zone
    have hdish (y : WaveMember) (hy : y ∈ L) : (s.reassessed z m).dish y.dish = s.dish y.dish := hstep.dish (by simp [hne y hy])
    have hagain (y : WaveMember) (hy : y ∈ L) : (s.reassessed z m).again z y = s.again z y := by
      unfold State.again
      rw [hdish y hy]
    have hplace (y : WaveMember) (hy : y ∈ L) : placeInWave (s.reassessed z m) z y.dish = placeInWave s z y.dish :=
      placeInWave_congr (hdish y hy) hstep.lockouts ⟨by rw [hzone], by rw [hzone]⟩
    obtain ⟨hwalk, hlist, hassessed⟩ := ih (s.reassessed z m) hfit hn'
      fun y hy => (hstep.isDish _).trans (hd y (List.mem_cons_of_mem m hy))
    obtain ⟨hp, ha⟩ := assessDish_place (z := z) (hd m List.mem_cons_self) (hf m.dish)
    rw [reassessAll_cons]
    refine ⟨?_, ?_, fun y hy hya => ?_⟩
    · refine Changes.trans (hstep.mono fun p hp => ⟨m, List.mem_cons_self, hp⟩) (hwalk.mono fun p hp => ?_)
      obtain ⟨y, hy, hya, hp⟩ := hp
      exact ⟨y, List.mem_cons_of_mem m hy, hagain y hy ▸ hya, hp⟩
    · rw [List.map_cons, hp, hlist]
      exact congrArg _ (List.map_congr_left fun y hy => by rw [hagain y hy, hplace y hy])
    · rcases List.mem_cons.mp hy with rfl | hy
      · have hs : s.reassessed z y = (s.assessDish z y.dish).1 := if_pos hya
        refine assessed_congr ha rfl ((hwalk.dish fun p hp => ?_).trans (by rw [hs]))
        obtain ⟨x, hx, -, hp⟩ := hp
        have := (hne x hx).symm
        simp [this] at hp
      · have := hassessed y hy (by rw [hagain y hy]; exact hya)
        rw [hplace y hy] at this
        exact assessed_congr this (by rw [hdish y hy]) rfl

/-! ## The dishes of a new wave (R78) -/

theorem assessAll_cons (s : State) (z d : Nat) (ds : List Nat) : s.assessAll z (d :: ds) =
    (((s.assessDish z d).1.assessAll z ds).1,
      { dish := d, state := (s.assessDish z d).2 } :: ((s.assessDish z d).1.assessAll z ds).2) := rfl

/-- A new wave is assessed as a wave of closed members of all dishes of the zone would be. -/
theorem assessAll_eq (z : Nat) (ds : List Nat) (s : State) (hz : ∀ d ∈ ds, (s.dish d).zone = z) :
    s.assessAll z ds = s.reassessAll z (ds.map (fun d => { dish := d, state := .done })) := by
  induction ds generalizing s with
  | nil => rfl
  | cons d ds ih =>
    have ha : s.again z { dish := d, state := .done } = true := by
      simp [State.again, WaveState.isOpen, hz d List.mem_cons_self]
    have hr : s.reassessed z { dish := d, state := .done } = (s.assessDish z d).1 := if_pos ha
    have htail := ih (s.assessDish z d).1 fun e he => by
      have hc : Changes (cancelling d) s (s.assessDish z d).1 := assessDish_changes
      exact (hc.assignment (d := e)).2.trans (hz e (List.mem_cons_of_mem d he))
    rw [List.map_cons, reassessAll_cons, hr, if_pos ha, assessAll_cons, htail]

theorem assessAll_walk (z : Nat) (ds : List Nat) (s : State) (hf : ClaimsFit s) (hn : ds.Nodup) (hd : ∀ d ∈ ds, s.isDish d = true)
    (hz : ∀ d ∈ ds, (s.dish d).zone = z) :
    Changes {p | ∃ d ∈ ds, p ∈ cancelling d} s (s.assessAll z ds).1
      ∧ (s.assessAll z ds).2 = ds.map (fun d => { dish := d, state := placeInWave s z d })
      ∧ ∀ d ∈ ds, Assessed s (s.assessAll z ds).1 z d (placeInWave s z d) := by
  have hagain : ∀ d ∈ ds, s.again z { dish := d, state := .done } = true := fun d hm => by
    simp [State.again, WaveState.isOpen, hz d hm]
  obtain ⟨hl, hms, ha⟩ := reassessAll_walk z (ds.map (fun d => { dish := d, state := .done })) s hf (by simpa [Function.comp_def] using hn) (by simpa using hd)
  rw [assessAll_eq z ds s hz]
  refine ⟨hl.mono fun p hp => ?_, ?_, fun d hm => ha _ (List.mem_map_of_mem hm) (hagain d hm)⟩
  · obtain ⟨m, hm, -, hp⟩ := hp
    obtain ⟨d, hd, rfl⟩ := List.mem_map.mp hm
    exact ⟨d, hd, hp⟩
  · rw [hms, List.map_map]
    exact List.map_congr_left fun d hm => if_pos (hagain d hm)

/-- Dishes without claims: the walk touches no record and no timing. -/
theorem assessAll_unclaimed (z : Nat) (ds : List Nat) (s : State) (hn : ds.Nodup) (h : ∀ d ∈ ds, (s.dish d).claim = none) :
    Changes {p | p = .passDue ∨ ∃ d, p = .dish .claim d} s (s.assessAll z ds).1 := by
  induction ds generalizing s with
  | nil => exact Changes.refl _ s
  | cons d ds ih =>
    obtain ⟨hnot, hn'⟩ := List.nodup_cons.mp hn
    have hc : Changes {.dish .claim d, .passDue} s (s.assessDish z d).1 := assessDish_unclaimed (h d List.mem_cons_self)
    refine Changes.trans (hc.mono (by rintro p (rfl | rfl) <;> simp)) (ih _ hn' fun e he => ?_)
    have hne : e ≠ d := fun he' => hnot (he' ▸ he)
    exact (hc.claim (by simp [hne])).trans (h e (List.mem_cons_of_mem d he))

/-! ## The dishes that joined the zone (R83) -/

theorem nodup_dishNumbers (s : State) : s.dishNumbers.Nodup := List.nodup_range.map (add_left_injective 1)

theorem mem_dishNumbers (s : State) (d : Nat) : d ∈ s.dishNumbers ↔ s.isDish d = true := by
  simp only [State.dishNumbers, State.isDish, thas, List.mem_map, List.mem_range, Bool.and_eq_true, decide_eq_true_eq]
  exact ⟨fun ⟨a, ha, he⟩ => by omega, fun h => ⟨d - 1, by omega, by omega⟩⟩

theorem mem_zoneDishes (s : State) (z d : Nat) : d ∈ s.zoneDishes z ↔ s.isDish d = true ∧ (s.dish d).zone = z := by
  simp [State.zoneDishes, List.mem_filter, mem_dishNumbers]

/-- One dish of the walk over the dishes that joined. -/
def State.joinStep (listed : List Nat) (t : State) (d : Nat) : State :=
  if !listed.contains d && (t.dish d).preemptible then (t.preempt d).1 else t

theorem joinStep_changes (listed : List Nat) (t : State) (d : Nat) : Changes (cancelling d) t (t.joinStep listed d) :=
  Changes.ite (fun h => preempt_changes (by simp only [Bool.and_eq_true] at h; exact h.2)) (fun _ => Changes.refl _ t)

/-- A dish that joined the zone with a preemptible claim loses it; every other dish stays. -/
theorem preemptJoined_walk (s : State) (z : Nat) (listed : List Nat) (hf : ClaimsFit s) :
    Changes {p | ∃ d, p ∈ cancelling d} s (s.preemptJoined z listed)
      ∧ (∀ d, d ∈ s.zoneDishes z → d ∉ listed → (s.dish d).preemptible = true → ((s.preemptJoined z listed).dish d).claim = none
          ∧ ((s.dish d).isAdmitted = true → ((s.preemptJoined z listed).dish d).state = .stopping
              ∧ ((s.preemptJoined z listed).dish d).reservation = (s.dish d).reservation))
      ∧ ∀ d, ¬ (d ∈ s.zoneDishes z ∧ d ∉ listed ∧ (s.dish d).preemptible = true) →
          (s.preemptJoined z listed).dish d = s.dish d := by
  have hnodup : (s.zoneDishes z).Nodup := (nodup_dishNumbers s).filter _
  have meets {d : Nat} (hd : d ∈ s.zoneDishes z) : ∃ t : State, t.dish d = s.dish d
      ∧ (s.preemptJoined z listed).dish d = (t.joinStep listed d).dish d := by
    obtain ⟨t, h1, h2⟩ := foldl_meets (l := cancelling) (State.joinStep listed) (s.zoneDishes z) hnodup s (joinStep_changes listed) hd
    exact ⟨t, h1.dish (by simp +contextual), h2.dish (by simp +contextual)⟩
  have walk : Changes {p | ∃ d ∈ s.zoneDishes z, p ∈ cancelling d} s (s.preemptJoined z listed) :=
    Changes.foldl (State.joinStep listed) _ s fun t d hd => (joinStep_changes listed t d).mono fun _ hp => ⟨d, hd, hp⟩
  refine ⟨walk.mono fun p ⟨d, _, hp⟩ => ⟨d, hp⟩, fun d hd hl hp => ?_, fun d hnot => ?_⟩
  · obtain ⟨t, ht, he⟩ := meets hd
    have hstep : t.joinStep listed d = (t.preempt d).1 := if_pos (by simp [ht, hp, hl])
    obtain ⟨-, hnone, hadm, -⟩ := preempt_dish (s := t) (d := d) (by rw [ht]; exact hf d) (by rw [ht]; exact hp)
    rw [ht] at hadm
    rw [he, hstep]
    exact ⟨hnone, hadm⟩
  · by_cases hd : d ∈ s.zoneDishes z
    · obtain ⟨t, ht, he⟩ := meets hd
      have hstep : t.joinStep listed d = t := by
        refine if_neg fun h => hnot ⟨hd, ?_⟩
        simpa [ht] using h
      rw [he, hstep, ht]
    · refine walk.dish fun p hp => ?_
      obtain ⟨e, he, hp⟩ := hp
      have hne : d ≠ e := fun h => hd (h ▸ he)
      simp [hne] at hp

end Sys2Proof.Machine
end

section
-- One declaration at a time: the check bounds memory, and every thread in flight takes its stack from it.
set_option Elab.async false

/-! O39: a wave from its creation or its reassessment to its test for open members (R78, R82, R83, R188). -/

namespace Sys2Proof.Machine
open Sys2Proof.Claims

theorem waveOpen_eq (st : WaveState) : WaveOpen st = st.isOpen := (waveIsOpen_eq st).symm

theorem onCreated_spec (m : Monitor) (now : Nat) (r : TrackRef) : MonitorAtCreation m (m.onCreated now r true) now r m.stow := by
  obtain ⟨st, stow, observe, tracked, wait, run, n, un, unt, ov⟩ := m
  unfold MonitorAtCreation Monitor.onCreated
  cases stow with
  | false => simp
  | true => cases st <;> simp [Monitor.over, top32]

/-! ## A cause comes to a zone without a cause (R76) -/

theorem enterZoneState_changes (s : State) (z : Nat) (st : ZoneState) : Changes {.zone z, .passDue} s (s.enterZoneState z st) := by
  have h1 : Changes {.zone z, .passDue} s ((s.modZone z (fun r => { r with state := st })).raise (.zone z)) :=
    ((modZone_changes s z _).mono).trans ((raise_changes _ _).mono)
  exact Changes.ite (fun _ => Changes.refl _ s) fun _ => Changes.ite (fun _ => h1.trans ((trigger_changes _).mono)) fun _ => h1

theorem enterZoneState_zone (s : State) {z : Nat} (st : ZoneState) (hz : thas s.znc.zones z = true) :
    (s.enterZoneState z st).zone z = { s.zone z with state := st } := by
  have hraise : ((s.modZone z (fun r => { r with state := st })).raise (.zone z)).zone z = { s.zone z with state := st } :=
    ((raise_changes _ _).zone).trans (modZone_zone_same s z _ hz)
  unfold State.enterZoneState
  simp only
  split
  next h => rw [← h]
  next =>
    split
    · exact hraise
    · exact hraise

/-- The cause set becomes `new`, handed to ACT (R76). -/
def State.causesSet (s : State) (z : Nat) (new : Causes) : State :=
  ((s.modZone z (fun r => { r with causes := new })).syncStowOrder).raise (.zone z)

theorem causesSet_changes (s : State) (z : Nat) (new : Causes) : Changes {.zone z, .conds} s (s.causesSet z new) :=
  ((modZone_changes s z _).mono).trans (((syncStowOrder_changes _).mono).trans ((raise_changes _ _).mono))

theorem causesSet_zone (s : State) {z : Nat} (new : Causes) (hz : thas s.znc.zones z = true) :
    (s.causesSet z new).zone z = { s.zone z with causes := new } :=
  ((raise_changes _ _).zone).trans (((syncStowOrder_changes _).zone).trans (modZone_zone_same s z _ hz))

/-- The zone of a first cause is STOWING. -/
def State.caused (s : State) (z : Nat) (new : Causes) : State := (s.causesSet z new).enterZoneState z .stowing

theorem caused_changes (s : State) (z : Nat) (new : Causes) : Changes ({.zone z, .conds} ∪ {.zone z, .passDue}) s (s.caused z new) :=
  (causesSet_changes s z new).andThen (enterZoneState_changes _ z .stowing)

theorem caused_zone (s : State) {z : Nat} (new : Causes) (hz : thas s.znc.zones z = true) :
    (s.caused z new).zone z = { s.zone z with causes := new, state := .stowing } := by
  have h := enterZoneState_zone (s.causesSet z new) .stowing (((causesSet_changes s z new).hasZone z).trans hz)
  rw [causesSet_zone s new hz] at h
  exact h

theorem caused_notice (s : State) (z : Nat) (new : Causes) : .zone z ∈ (s.caused z new).oli.notices :=
  (enterZoneState_changes _ z .stowing).notices (mem_raise _ _)

/-- R76, R78, R83: a first cause opens a wave, or has the open one assessed again. -/
theorem setCauses_of_first {s : State} {z : Nat} {new : Causes} (h : (s.zone z).causes = {}) (hn : new ≠ {}) : s.setCauses z new =
    match ((s.caused z new).zone z).wave with
    | none => (s.caused z new).createWave z
    | some w => (s.caused z new).reassessWave z w := by
  unfold State.setCauses
  simp only
  rw [h, if_neg (Ne.symm hn), if_pos ((causes_isEmpty {}).mpr rfl)]
  rfl

/-- R76: a further cause changes the cause set alone. -/
theorem setCauses_of_further {s : State} {z : Nat} {new : Causes} (h : (s.zone z).causes ≠ {}) (hn : new ≠ {}) (hne : (s.zone z).causes ≠ new) :
    s.setCauses z new = s.causesSet z new := by
  have he : ∀ c : Causes, c ≠ {} → ¬ c.isEmpty = true := fun c hc h => hc ((causes_isEmpty c).mp h)
  unfold State.setCauses
  simp only
  rw [if_neg hne, if_neg (he _ h), if_neg (he _ hn)]
  rfl

/-! ## The test for open members (R82) -/

theorem waveTest_of_open {s : State} {z : Nat} {w : Wave} (hw : (s.zone z).wave = some w) (ho : w.members.any (fun m => m.state.isOpen) = true) :
    s.waveTest z = s := by
  unfold State.waveTest
  simp only [hw]
  exact if_pos ho

/-! ## The creation of a wave (R78) -/

/-- The state in which the dishes of a new wave are assessed (log entry 27). -/
def State.waveBegun (s : State) (z : Nat) : State := s.monitorCreated (.wave z) true

/-- The wave with its members in its zone's record. -/
def State.waveEntered (s : State) (z : Nat) : State :=
  let t := (s.waveBegun z).assessAll z (s.zoneDishes z)
  (t.1.modZone z (fun r => { r with wave := some { created := s.now, moment := s.moment, members := t.2 } })).raise (.zone z)

/-- The state in which a new wave is tested for open members. -/
def State.waveListed (s : State) (z : Nat) : State := ((s.waveEntered z).count .stowOrder (some (z - 1))).trigger

theorem createWave_eq (s : State) (z : Nat) : s.createWave z = (s.waveListed z).waveTest z := rfl

/-- The wave that R78 creates. -/
def State.newWave (s : State) (z : Nat) : Wave :=
  { created := s.now, moment := s.moment, members := (s.zoneDishes z).map (fun d => { dish := d, state := placeInWave s z d }) }

/-- What the listing of a wave's members may change beside the dishes. -/
def listing (z : Nat) : Set Part := {.zone z, .passDue, .counters (some .stowOrder)}

@[simp] theorem mem_listing (p : Part) (z : Nat) :
    p ∈ listing z ↔ p = .zone z ∨ p = .passDue ∨ p = .counters (some .stowOrder) := Iff.rfl

theorem waveEntered_tail (s : State) (z : Nat) :
    Changes {.zone z} ((s.waveBegun z).assessAll z (s.zoneDishes z)).1 (s.waveEntered z) :=
  (modZone_changes _ z _).trans ((raise_changes _ _).mono)

/-- What R78 adds to the assessed dishes. -/
theorem waveListed_tail (s : State) (z : Nat) :
    Changes (listing z) ((s.waveBegun z).assessAll z (s.zoneDishes z)).1 (s.waveListed z) :=
  ((waveEntered_tail s z).mono).trans (((count_changes (s.waveEntered z) _ _).mono).trans ((trigger_changes _).mono))

section
variable {s : State} {z : Nat} (hf : ClaimsFit s) (hz : thas s.znc.zones z = true)
include hf

theorem assessed_of_new : Changes {p | ∃ d ∈ s.zoneDishes z, p ∈ cancelling d} (s.waveBegun z)
      ((s.waveBegun z).assessAll z (s.zoneDishes z)).1
    ∧ ((s.waveBegun z).assessAll z (s.zoneDishes z)).2 = (s.newWave z).members
    ∧ ∀ d ∈ s.zoneDishes z, Assessed s ((s.waveBegun z).assessAll z (s.zoneDishes z)).1 z d (placeInWave s z d) :=
  assessAll_walk z (s.zoneDishes z) (s.waveBegun z) hf ((nodup_dishNumbers s).filter _)
    (fun d hd => ((mem_zoneDishes s z d).mp hd).1) (fun d hd => ((mem_zoneDishes s z d).mp hd).2)

theorem waveListed_changes : Changes ({.monitor} ∪ {p | ∃ d ∈ s.zoneDishes z, p ∈ cancelling d} ∪ listing z) s (s.waveListed z) :=
  ((monitorCreated_changes s (.wave z) true).andThen (assessed_of_new hf).1).andThen (waveListed_tail s z)

include hz in
theorem waveListed_zone : (s.waveListed z).zone z = { s.zone z with wave := some (s.newWave z) } := by
  obtain ⟨hl, hms, -⟩ := assessed_of_new (z := z) hf
  let t := ((s.waveBegun z).assessAll z (s.zoneDishes z)).1
  have hzt : thas t.znc.zones z = true := (hl.hasZone z).trans hz
  have htz : t.zone z = s.zone z := hl.zone
  have hu : (s.waveEntered z).zone z = { s.zone z with wave := some (s.newWave z) } := by
    refine ((raise_changes _ _).zone).trans ((modZone_zone_same t z _ hzt).trans ?_)
    rw [htz, hms]
    rfl
  have htail : Changes {.passDue, .counters (some .stowOrder)} (s.waveEntered z) (s.waveListed z) :=
    ((count_changes _ _ _).mono).trans ((trigger_changes _).mono)
  exact htail.zone.trans hu

theorem waveListed_countsOf : CountsOf s (s.waveListed z) .stowOrder [some (z - 1)] := by
  have hsu : Changes ({.monitor} ∪ {p | ∃ d ∈ s.zoneDishes z, p ∈ cancelling d} ∪ {.zone z}) s (s.waveEntered z) :=
    ((monitorCreated_changes s (.wave z) true).andThen (assessed_of_new hf).1).andThen (waveEntered_tail s z)
  have hcount := countsOf_trans (hsu.countsOf .stowOrder) (count_countsOf _ .stowOrder (some (z - 1))) (count_changes _ _ _).notices
  unfold State.waveListed
  exact countsOf_trans hcount ((trigger_changes _).countsOf .stowOrder) (trigger_changes _).notices

omit hf in
/-- Dishes without claims leave the timing monitor with the creation of the wave. -/
theorem waveListed_monitor (h : ∀ d ∈ s.zoneDishes z, (s.dish d).claim = none) :
    (s.waveListed z).act.monitor = s.act.monitor.onCreated s.now (.wave z) true := by
  have hu := assessAll_unclaimed z (s.zoneDishes z) (s.waveBegun z) ((nodup_dishNumbers s).filter _) h
  exact (waveListed_tail s z).monitor.trans hu.monitor

end

/-! ## The reassessment of a wave (R83) -/

/-- The state in which a reassessed wave takes its members. -/
def State.rejoined (s : State) (z : Nat) (w : Wave) : State := (s.reassessAll z w.members).1.preemptJoined z (w.members.map (·.dish))

/-- The state in which a reassessed wave is tested for open members. -/
def State.relisted (s : State) (z : Nat) (w : Wave) : State :=
  ((s.rejoined z w).modZone z (fun r => { r with wave := r.wave.map (fun x => { x with members := (s.reassessAll z w.members).2 }) })).trigger

theorem reassessWave_eq (s : State) (z : Nat) (w : Wave) : s.reassessWave z w = (s.relisted z w).waveTest z := rfl

/-- The members that R83 leaves. -/
def State.againMembers (s : State) (z : Nat) (w : Wave) : List WaveMember :=
  w.members.map (fun m => if s.again z m then { m with state := placeInWave s z m.dish } else m)

section
variable {s : State} {z : Nat} {w : Wave} (hf : ClaimsFit s) (hn : (w.members.map (·.dish)).Nodup) (hd : ∀ m ∈ w.members, s.isDish m.dish = true)
include hf hn hd

theorem rejoined_changes : Changes {p | ∃ d, p ∈ cancelling d} s (s.rejoined z w) := by
  obtain ⟨h1, -, -⟩ := reassessAll_walk z w.members s hf hn hd
  obtain ⟨h2, -, -⟩ := preemptJoined_walk (s.reassessAll z w.members).1 z (w.members.map (·.dish)) (reassessAll_claimsFit hf z w.members)
  refine Changes.trans (h1.mono fun p hp => ?_) h2
  obtain ⟨m, -, -, hp⟩ := hp
  exact ⟨m.dish, hp⟩

theorem relisted_changes : Changes ({p | ∃ d, p ∈ cancelling d} ∪ {.zone z}) s (s.relisted z w) :=
  ((rejoined_changes hf hn hd).mono Set.subset_union_left).trans
    (((modZone_changes _ z _).mono Set.subset_union_right).trans ((trigger_changes _).mono (by simp)))

theorem relisted_zone (hz : thas s.znc.zones z = true) (hw : (s.zone z).wave = some w) :
    (s.relisted z w).zone z = { s.zone z with wave := some { w with members := s.againMembers z w } } := by
  obtain ⟨-, hms, -⟩ := reassessAll_walk z w.members s hf hn hd
  have hl := rejoined_changes (z := z) hf hn hd
  have hzone : (s.rejoined z w).zone z = s.zone z := hl.zone
  have hmod := modZone_zone_same (s.rejoined z w) z
    (fun r => { r with wave := r.wave.map (fun x => { x with members := (s.reassessAll z w.members).2 }) }) ((hl.hasZone z).trans hz)
  refine Eq.trans (b := _) hmod ?_
  rw [hzone, hw, hms]
  rfl

/-- A member assessed again stands as Table 25 placed it. -/
theorem relisted_assessed {m : WaveMember} (hm : m ∈ w.members) (ha : s.again z m = true) :
    Assessed s (s.relisted z w) z m.dish (placeInWave s z m.dish) := by
  obtain ⟨-, -, h1⟩ := reassessAll_walk z w.members s hf hn hd
  obtain ⟨-, -, h2⟩ := preemptJoined_walk (s.reassessAll z w.members).1 z (w.members.map (·.dish)) (reassessAll_claimsFit hf z w.members)
  exact assessed_congr (h1 m hm ha) rfl (h2 m.dish fun ⟨_, hl, _⟩ => hl (List.mem_map_of_mem hm))

/-- Before the dishes that joined are preempted, those without a member that is assessed again are as they were. -/
theorem reassessAll_dish {d : Nat} (hnot : ∀ m ∈ w.members, m.dish = d → s.again z m = false) :
    (s.reassessAll z w.members).1.dish d = s.dish d := by
  obtain ⟨h1, -, -⟩ := reassessAll_walk z w.members s hf hn hd
  refine h1.dish fun p hp => ?_
  obtain ⟨m, hm, ha, hp⟩ := hp
  have hne : d ≠ m.dish := fun he => by simp [hnot m hm he.symm] at ha
  simp [hne] at hp

/-- A dish that joined with a preemptible claim, and a dish that R83 does not reach. -/
theorem relisted_dish {d : Nat} :
    (d ∈ s.zoneDishes z → d ∉ w.members.map (·.dish) → (s.dish d).preemptible = true → ((s.relisted z w).dish d).claim = none
        ∧ ((s.dish d).isAdmitted = true → ((s.relisted z w).dish d).state = .stopping
            ∧ ((s.relisted z w).dish d).reservation = (s.dish d).reservation))
      ∧ (¬ (d ∈ s.zoneDishes z ∧ d ∉ w.members.map (·.dish) ∧ (s.dish d).preemptible = true) →
          (∀ m ∈ w.members, m.dish = d → s.again z m = false) → (s.relisted z w).dish d = s.dish d) := by
  obtain ⟨h1, -, -⟩ := reassessAll_walk z w.members s hf hn hd
  obtain ⟨-, h2, h3⟩ := preemptJoined_walk (s.reassessAll z w.members).1 z (w.members.map (·.dish)) (reassessAll_claimsFit hf z w.members)
  have hzd : d ∈ (s.reassessAll z w.members).1.zoneDishes z ↔ d ∈ s.zoneDishes z := by
    rw [mem_zoneDishes, mem_zoneDishes, h1.isDish, (h1.assignment (d := d)).2]
  refine ⟨fun hz hl hp => ?_, fun hnot hagain => ?_⟩
  · have hsame := reassessAll_dish (z := z) hf hn hd (d := d) fun m hm he => absurd (he ▸ List.mem_map_of_mem hm) hl
    have := h2 d (hzd.mpr hz) hl (by rw [hsame]; exact hp)
    rwa [hsame] at this
  · have hsame := reassessAll_dish (z := z) hf hn hd hagain
    exact (h3 d (by rw [hzd, hsame]; exact hnot)).trans hsame

end

end Sys2Proof.Machine
end

section
-- One declaration at a time: the check bounds memory, and every thread in flight takes its stack from it.
set_option Elab.async false

/-! O39: its three statements. -/

namespace Sys2Proof.Machine
open Sys2Proof.Claims

/-- A wave with a cause after its test: it goes on, or closes with the zone STOWED. -/
theorem waveAfter_zone {u t : State} {z : Nat} {w : Wave} {ms : List WaveMember} (h : WaveAfter u t z w ms) (hc : (u.zone z).causes ≠ {}) :
    t.zone z = { u.zone z with
      state := if ms.any (fun m => WaveOpen m.state) then (u.zone z).state else .stowed,
      wave := if ms.any (fun m => WaveOpen m.state) then some { w with members := ms } else none,
      lastOutcome := if ms.any (fun m => WaveOpen m.state) then (u.zone z).lastOutcome else some ms } := by
  have hopen : (ms.any fun m => m.state == .waiting || m.state == .preemptWait || m.state == .admitted) = ms.any (fun m => WaveOpen m.state) := rfl
  unfold WaveAfter at h
  rw [hopen] at h
  cases ho : ms.any (fun m => WaveOpen m.state) with
  | true =>
    simp only [ho, if_true] at h
    rw [h]
    rfl
  | false =>
    simp only [ho, Bool.false_eq_true, if_false] at h
    rw [h.1, if_neg hc]
    rfl

theorem any_waveOpen (ms : List WaveMember) : ms.any (fun m => WaveOpen m.state) = ms.any (fun m => m.state.isOpen) := by
  simp only [waveOpen_eq]

/-! ## The state in which a first cause finds the zone -/

/-- The state `u` in which the wave of a first cause is opened or assessed again: zone `z` has its cause and is STOWING, and the dishes, the
lockouts and the monitor are those of `s`. -/
structure Caused (s u : State) (z : Nat) (new : Causes) : Prop where
  frame : Changes ({.zone z, .conds} ∪ {.zone z, .passDue}) s.taken u
  fits : ClaimsFit u
  hasZone : thas u.znc.zones z = true
  dish : ∀ d, u.dish d = s.dish d
  zone : u.zone z = { s.zone z with causes := new, state := .stowing }
  lkt : u.lkt = s.lkt
  monitor : u.act.monitor = s.act.monitor
  now : u.now = s.now
  moment : u.moment = s.moment + 1
  dishNumbers : u.dishNumbers = allDishes
  notice : .zone z ∈ u.oli.notices

theorem caused_of {s : State} {z : Nat} {new : Causes} (hs : Shape s) (hf : ClaimsFit s) (h1 : 1 ≤ z) (h8 : z ≤ 8) :
    Caused s (s.taken.caused z new) z new := by
  have hz : thas s.taken.znc.zones z = true := hs.hasZone h1 h8
  have hc := caused_changes s.taken z new
  refine ⟨hc, ?_, (hc.hasZone z).trans hz, fun d => hc.dish, caused_zone s.taken new hz, hc.lockouts, hc.monitor, hc.now, hc.moment,
    hc.dishNumbers.trans hs.taken.dishNumbers, caused_notice s.taken z new⟩
  intro d
  rw [hc.dish (d := d)]
  exact hf d

section
variable {s u : State} {z : Nat} {new : Causes} (h : Caused s u z new)
include h

theorem Caused.isDish (d : Nat) : u.isDish d = true ↔ d ∈ allDishes := by
  rw [← mem_dishNumbers, h.dishNumbers]

theorem Caused.zoneDishes : u.zoneDishes z = allDishes.filter (fun d => (s.dish d).zone == z) := by
  unfold State.zoneDishes
  rw [h.dishNumbers]
  simp only [h.dish]

theorem Caused.place (d : Nat) : placeInWave u z d = placeInWave s z d :=
  placeInWave_congr (h.dish d) h.lkt ⟨by rw [h.zone], by rw [h.zone]⟩

theorem Caused.newWave : u.newWave z = { s.newWave z with
    moment := s.moment + 1
    members := (allDishes.filter (fun d => (s.dish d).zone == z)).map
      (fun d => ({ dish := d, state := placeInWave s z d } : WaveMember)) } := by
  unfold State.newWave
  rw [h.now, h.moment, h.zoneDishes]
  simp only [h.place]

theorem Caused.again (m : WaveMember) : u.again z m = (!WaveOpen m.state && (s.dish m.dish).zone == z) := by
  unfold State.again
  rw [waveOpen_eq, h.dish]

theorem Caused.againMembers (w : Wave) : u.againMembers z w = w.members.map (fun m =>
    if !WaveOpen m.state && (s.dish m.dish).zone == z then { m with state := placeInWave s z m.dish } else m) := by
  unfold State.againMembers
  simp only [h.again, h.place]

/-- The dishes that R83 preempts without a member. -/
theorem Caused.joined (hf : ClaimsFit s) (ds : List Nat) (d : Nat) : (d ∈ u.zoneDishes z ∧ d ∉ ds ∧ (u.dish d).preemptible = true) ↔
    (s.dish d).zone = z ∧ d ∉ ds
      ∧ ((∃ id, (s.dish d).claim.map (·.ref) = some (.host id)) ∨ (s.dish d).task = some .shed) := by
  have hpre : (s.dish d).preemptible = true ↔
      (∃ id, (s.dish d).claim.map (·.ref) = some (.host id)) ∨ (s.dish d).task = some .shed := by
    rw [preemptible_iff]
    constructor
    · rintro ⟨c, hc, ⟨id, hr⟩ | ⟨-, ht⟩⟩
      · exact .inl ⟨id, by simp [hc, hr]⟩
      · exact .inr ht
    · rintro (⟨id, hr⟩ | ht)
      · obtain ⟨c, hc, hr⟩ := Option.map_eq_some_iff.mp hr
        exact ⟨c, hc, .inl ⟨id, hr⟩⟩
      · obtain ⟨c, hc, hr⟩ := (hf d).1.mp (by simp [ht])
        exact ⟨c, hc, .inr ⟨hr, ht⟩⟩
  have hdish : (s.dish d).preemptible = true → u.isDish d = true := by
    intro hp
    by_contra hn
    rw [← h.dish, dish_of_not_isDish u d (by simpa using hn)] at hp
    exact absurd hp (by decide)
  rw [mem_zoneDishes, h.dish, ← hpre]
  exact ⟨fun ⟨⟨_, hz⟩, hl, hp⟩ => ⟨hz, hl, hp⟩, fun ⟨hz, hl, hp⟩ => ⟨⟨hdish hp, hz⟩, hl, hp⟩⟩

end

/-! ## The blocks of a ZONE_STOW -/

theorem within_cancelling' {d : Nat} {q : Part} (hq : q ∈ cancelling d) : q.within [.dsv, .pbc, .znc, .sls, .fbu, .act] := by
  rcases hq with hq | rfl | rfl
  · exact within_stopping hq
  · simp [Part.within, Part.block]
  · simp [Part.within, Part.block]

/-- What a first cause may change. -/
def stowing (z : Nat) : Set Part := {.zone z, .conds, .monitor, .passDue, .counters (some .stowOrder)} ∪ {p | ∃ d, p ∈ cancelling d}

@[simp] theorem mem_stowing (p : Part) (z : Nat) : p ∈ stowing z ↔
    (p = .zone z ∨ p = .conds ∨ p = .monitor ∨ p = .passDue ∨ p = .counters (some .stowOrder)) ∨ ∃ d, p ∈ cancelling d := Iff.rfl

theorem within_stowing {z : Nat} {q : Part} (hq : q ∈ stowing z) : q.within [.dsv, .pbc, .znc, .sls, .fbu, .act] := by
  rcases hq with (rfl | rfl | rfl | rfl | rfl) | ⟨d, hq⟩
  · simp [Part.within, Part.block]
  · simp [Part.within, Part.block]
  · simp [Part.within, Part.block]
  · simp [Part.within, Part.block]
  · simp [Part.within, Part.block]
  · exact within_cancelling' hq

theorem createWave_changes {s : State} (hf : ClaimsFit s) (z : Nat) : Changes (stowing z) s (s.createWave z) := by
  refine Changes.trans ((waveListed_changes (z := z) hf).mono ?_) ((waveTest_changes _ z).mono (by simp [Set.insert_subset_iff]))
  rintro p ((rfl | ⟨d, -, hp⟩) | rfl | rfl | rfl)
  · simp
  · exact .inr ⟨d, hp⟩
  · simp
  · simp
  · simp

theorem reassessWave_changes {s : State} {z : Nat} {w : Wave} (hf : ClaimsFit s) (hn : (w.members.map (·.dish)).Nodup)
    (hd : ∀ m ∈ w.members, s.isDish m.dish = true) : Changes (stowing z) s (s.reassessWave z w) :=
  ((relisted_changes (z := z) hf hn hd).mono (Set.union_subset Set.subset_union_right (by simp))).trans
    ((waveTest_changes _ z).mono (by simp [Set.insert_subset_iff]))

/-! ## ZONE_STOW -/

theorem zoneStowOf_eq (s : State) {z : Nat} (hz : thas s.znc.zones z = true) : s.zoneStowOf z =
    (s.setCauses z { (s.zone z).causes with manual := true }).answer
      (.causes ((s.setCauses z { (s.zone z).causes with manual := true }).zone z).causes) := by
  unfold State.zoneStowOf
  rw [if_neg (by simp [hz])]

theorem countsOnly_congr {s t s' t' : State} {k : EventClass} {l : List (Option Nat)} (h : CountsOnly s t k l) (hs : s'.act = s.act)
    (ht : t'.act = t.act) (hn : t'.oli.notices = t.oli.notices) : CountsOnly s' t' k l := by
  obtain ⟨h1, h2, h3⟩ := h
  refine ⟨countsOf_congr h1 hs ht hn, ?_, ?_⟩
  · rw [hs, ht]
    exact h2
  · rw [hs, ht]
    exact h3

/-- A wave test after which the zone stands on the members `ms`. -/
theorem waveTest_on {v : State} {z : Nat} {w : Wave} (r : TrackRef) (hr : r = .wave z) (hw : (v.zone z).wave = some w) :
    (w.members.any (fun m => WaveOpen m.state) = true → (v.waveTest z).act.monitor = v.act.monitor)
      ∧ (w.members.any (fun m => WaveOpen m.state) = false → MonitorAtCompletion v.act.monitor (v.waveTest z).act.monitor v.now r) := by
  subst hr
  rw [any_waveOpen]
  refine ⟨fun ho => ?_, fun ho => ?_⟩
  · rw [waveTest_of_open hw ho]
  · rw [waveTest_monitor hw ho]
    exact monitorCompleted_spec v _

/-! ### A first cause of a zone without an open wave -/

theorem createWave_passDue (u : State) (z : Nat) : (u.createWave z).fbu.passDue = true :=
  (waveTest_changes (u.waveListed z) z).passDue rfl

/-- From the assessment of the dishes to the state after the test only the zone, the monitor and the accounting change. -/
theorem createWave_dish (u : State) (z d : Nat) : (u.createWave z).dish d = ((u.waveBegun z).assessAll z (u.zoneDishes z)).1.dish d :=
  ((waveTest_changes (u.waveListed z) z).dish).trans (waveListed_tail u z).dish

section
variable {s u : State} {z : Nat} {new : Causes} (h : Caused s u z new) (hn : new ≠ {})
include h

include hn in
theorem Caused.created_zone : (u.createWave z).zone z =
    let ms := (allDishes.filter (fun d => (s.dish d).zone == z)).map (fun d => ({ dish := d, state := placeInWave s z d } : WaveMember))
    let opened := ms.any (fun m => WaveOpen m.state)
    { s.zone z with
      causes := new, state := if opened then .stowing else .stowed,
      wave := if opened then some { created := s.now, moment := s.moment + 1, members := ms } else none,
      lastOutcome := if opened then (s.zone z).lastOutcome else some ms } := by
  have hl := waveListed_zone (z := z) h.fits h.hasZone
  have hz : thas (u.waveListed z).znc.zones z = true := ((waveListed_changes (z := z) h.fits).hasZone z).trans h.hasZone
  have hafter := waveTest_after (u := u) (w := u.newWave z) (ms := (u.newWave z).members) hz hl
  have := waveAfter_zone hafter (by rw [h.zone]; exact hn)
  rw [createWave_eq, this, h.zone, h.newWave]
  rfl

theorem Caused.created_otherZone {y : Nat} (hy : y ≠ z) : (u.createWave z).zone y = s.zone y :=
  ((createWave_changes h.fits z).zone (by simp [hy])).trans (h.frame.zone (by simp [hy]))

theorem Caused.created_notice : .zone z ∈ (u.createWave z).oli.notices := (createWave_changes h.fits z).notices h.notice

theorem Caused.created_assessed (d : Nat) (hd : (s.dish d).zone = z) (hd' : d ∈ allDishes) :
    Assessed s (u.createWave z) z d (placeInWave s z d) := by
  obtain ⟨-, -, h3⟩ := assessed_of_new (z := z) h.fits
  have := h3 d (by rw [h.zoneDishes]; simp [hd, hd'])
  rw [h.place] at this
  exact assessed_congr this (by rw [h.dish]) (createWave_dish u z d)

theorem Caused.created_otherDish {d : Nat} (hd : (s.dish d).zone ≠ z) : (u.createWave z).dish d = s.dish d := by
  refine (createWave_dish u z d).trans (Eq.trans ?_ (h.dish d))
  refine (assessed_of_new (z := z) h.fits).1.dish fun p hp => ?_
  obtain ⟨d', hd', hp⟩ := hp
  have hne : d ≠ d' := fun he => hd (by rw [he, ← h.dish]; exact ((mem_zoneDishes _ _ _).mp hd').2)
  simp [hne] at hp

theorem Caused.created_counts : CountsOnly s (u.createWave z) .stowOrder [some (z - 1)] := by
  have htest : Changes {.zone z, .monitor} (u.waveListed z) (u.createWave z) := waveTest_changes _ _
  have hall := h.frame.andThen (createWave_changes h.fits z)
  have h1 : CountsOf s (u.waveListed z) .stowOrder [some (z - 1)] :=
    countsOf_trans (l := []) (countsOf_congr (h.frame.countsOf .stowOrder) rfl rfl rfl) (waveListed_countsOf h.fits) (waveListed_changes h.fits).notices
  refine ⟨countsOf_trans h1 (htest.countsOf .stowOrder) htest.notices, hall.length_counters, fun n _ _ hne => ?_⟩
  exact hall.counterAt (i := n - 1) (by simpa [State.counterAt] using hne)

theorem Caused.created_monitor (hd : ∀ d, (s.dish d).zone = z → d ∈ allDishes → (s.dish d).claim = none) :
    let ms := (allDishes.filter (fun d => (s.dish d).zone == z)).map (fun d => ({ dish := d, state := placeInWave s z d } : WaveMember))
    let opened := ms.any (fun m => WaveOpen m.state)
    let m := s.act.monitor.onCreated s.now (.wave z) true
    (opened = true → (u.createWave z).act.monitor = m)
      ∧ (opened = false → MonitorAtCompletion m (u.createWave z).act.monitor s.now (.wave z)) := by
  intro ms opened m
  have hl := waveListed_monitor (s := u) (z := z) fun d hd' => by
    rw [h.dish]
    rw [h.zoneDishes] at hd'
    simp only [List.mem_filter, beq_iff_eq] at hd'
    exact hd d hd'.2 hd'.1
  rw [h.monitor, h.now] at hl
  have hnow : (u.waveListed z).now = s.now := (waveListed_changes (z := z) h.fits).now.trans h.now
  have htest := waveTest_on (.wave z) rfl (congrArg Zone.wave (waveListed_zone (z := z) h.fits h.hasZone) :)
  rw [h.newWave, hl, hnow] at htest
  exact htest

end

theorem zoneStowCreatesAWave : ZoneStowCreatesAWave := by
  intro s tag z hs hf hr x c causes
  refine ⟨fun hz => ?_, fun h1 h8 hm => ?_, fun h1 h8 hm hc => ?_, fun h1 h8 hx hw => ?_⟩
  · refine refuse_answered s _ (fun s => s.zoneStowOf z) 0x1A tag _ hr rfl rfl ?_
    have : thas s.taken.znc.zones z = false := by
      have hlen : s.taken.znc.zones.length = 8 := hs.2.2.2.2.1
      simp only [thas, hlen]
      simp
      omega
    unfold State.zoneStowOf
    exact if_pos (by rw [this]; rfl)
  · have hz : thas s.taken.znc.zones z = true := hs.hasZone h1 h8
    have hsame : ({ (s.taken.zone z).causes with manual := true } : Causes) = (s.taken.zone z).causes := by
      have : (s.taken.zone z).causes.manual = true := hm
      rw [← this]
    have hset : s.taken.setCauses z { (s.taken.zone z).causes with manual := true } = s.taken := by
      rw [hsame]
      exact if_pos rfl
    refine answers_of_changes (owner := fun s => s.zoneStowOf z) ∅ s.taken hr rfl rfl ?_ (Changes.refl _ _) (by simp) fun o ho => ?_
    · show s.taken.zoneStowOf z = _
      rw [zoneStowOf_eq s.taken hz, hset]
      rfl
    · exact ho.trans (leave_notices _)
  · have hz : thas s.taken.znc.zones z = true := hs.hasZone h1 h8
    have hset : s.taken.setCauses z causes = s.taken.causesSet z causes := by
      refine setCauses_of_further ?_ ?_ ?_
      · show x.causes ≠ {}
        intro he
        rw [he] at hc
        simp at hc
      · simp [causes]
      · show x.causes ≠ causes
        intro he
        rw [he] at hm
        simp [causes] at hm
    have hl := causesSet_changes s.taken z causes
    have hzone := causesSet_zone s.taken causes hz
    refine answers_of_changes (owner := fun s => s.zoneStowOf z) _ (s.taken.causesSet z causes) hr rfl rfl ?_ hl
      (by simp [Part.within, Part.block]) fun o ho => ?_
    · show s.taken.zoneStowOf z = _
      rw [zoneStowOf_eq s.taken hz, show ({ (s.taken.zone z).causes with manual := true } : Causes) = causes from rfl, hset, hzone]
    · exact ⟨hzone, fun y hy => hl.zone (by simp [hy]), ho ▸ mem_raise _ _⟩
  · have hne : causes ≠ {} := by simp [causes]
    have hC : Caused s (s.taken.caused z causes) z causes := caused_of hs hf h1 h8
    have hset : s.taken.setCauses z causes = (s.taken.caused z causes).createWave z := by
      have hw' : ((s.taken.caused z causes).zone z).wave = none := by rw [hC.zone]; exact hw
      rw [setCauses_of_first (s := s.taken) hx hne, hw']
    have hzone := hC.created_zone hne
    refine answers_of_changes (owner := fun s => s.zoneStowOf z) _ ((s.taken.caused z causes).createWave z) hr rfl rfl ?_
      (hC.frame.andThen (createWave_changes hC.fits z)) ?_ fun o ho => ?_
    · show s.taken.zoneStowOf z = _
      rw [zoneStowOf_eq s.taken (hs.hasZone h1 h8), show ({ (s.taken.zone z).causes with manual := true } : Causes) = causes from rfl, hset, hzone]
    · rintro q (hq | hq)
      · rcases hq with (rfl | rfl) | rfl | rfl <;> simp [Part.within, Part.block]
      · exact within_stowing hq
    · refine ⟨hzone, fun y hy => hC.created_otherZone hy, ho ▸ hC.created_notice, createWave_passDue _ z, fun m hm => ?_,
        fun d hd => hC.created_otherDish hd, countsOnly_congr hC.created_counts rfl rfl ho, fun hd => ?_⟩
      · obtain ⟨d, hd, rfl⟩ := List.mem_map.mp hm
        simp only [List.mem_filter, beq_iff_eq] at hd
        exact hC.created_assessed d hd.2 hd.1
      · refine ⟨_, onCreated_spec s.act.monitor s.now (.wave z), hC.created_monitor fun d hz hd' => hd d ?_⟩
        simp [hz, hd']

end Sys2Proof.Machine
end

section
-- One declaration at a time: the check bounds memory, and every thread in flight takes its stack from it.
set_option Elab.async false

/-! O39: the wave that a new first cause finds open, and the last member of a wave. -/

namespace Sys2Proof.Machine
open Sys2Proof.Claims

/-! ## A first cause of a zone whose wave is open (R83) -/

section
variable {s u : State} {z : Nat} {new : Causes} {w : Wave} (h : Caused s u z new) (hw : (s.zone z).wave = some w)
  (hnd : (w.members.map (·.dish)).Nodup) (hd : ∀ m ∈ w.members, 1 ≤ m.dish ∧ m.dish ≤ 48)
include h

theorem Caused.isDish_of_members (hd : ∀ m ∈ w.members, 1 ≤ m.dish ∧ m.dish ≤ 48) : ∀ m ∈ w.members, u.isDish m.dish = true :=
  fun m hm => (h.isDish m.dish).mpr ((mem_allDishes _).mpr (hd m hm))

include hw hnd hd

theorem Caused.reassessed_zone (hn : new ≠ {}) : (u.reassessWave z w).zone z =
    let ms := w.members.map (fun m =>
      if !WaveOpen m.state && (s.dish m.dish).zone == z then { m with state := placeInWave s z m.dish } else m)
    let opened := ms.any (fun m => WaveOpen m.state)
    { s.zone z with
      causes := new, state := if opened then .stowing else .stowed,
      wave := if opened then some { w with members := ms } else none,
      lastOutcome := if opened then (s.zone z).lastOutcome else some ms } := by
  have hm := h.isDish_of_members hd
  have hl := relisted_zone (z := z) h.fits hnd hm h.hasZone (by rw [h.zone]; exact hw)
  have hz : thas (u.relisted z w).znc.zones z = true := ((relisted_changes (z := z) h.fits hnd hm).hasZone z).trans h.hasZone
  have := waveAfter_zone (waveTest_after (u := u) hz hl) (by rw [h.zone]; exact hn)
  rw [reassessWave_eq, this, h.zone, h.againMembers]

omit hw in
theorem Caused.reassessed_dish (hf : ClaimsFit s) (d : Nat) :
    let again (m : WaveMember) : Bool := !WaveOpen m.state && (s.dish m.dish).zone == z
    let joined : Prop := (s.dish d).zone = z ∧ d ∉ w.members.map (·.dish)
      ∧ ((∃ id, (s.dish d).claim.map (·.ref) = some (.host id)) ∨ (s.dish d).task = some .shed)
    let t := u.reassessWave z w
    (joined → (t.dish d).claim = none ∧ ((s.dish d).claim.map (·.standing) = some .admitted →
        (t.dish d).state = .stopping ∧ (t.dish d).reservation = (s.dish d).reservation))
      ∧ (¬ joined → (∀ m ∈ w.members, m.dish = d → again m = false) → t.dish d = s.dish d) := by
  intro again joined t
  obtain ⟨h1, h2⟩ := relisted_dish (z := z) h.fits hnd (h.isDish_of_members hd) (d := d)
  have hj := h.joined hf (w.members.map (·.dish)) d
  have ht : t.dish d = (u.relisted z w).dish d := (waveTest_changes _ z).dish
  rw [← ht, h.dish] at h1 h2
  refine ⟨fun hjoin => ?_, fun hnot hag => h2 (fun hp => hnot (hj.mp (by rwa [h.dish]))) fun m hm he => by rw [h.again]; exact hag m hm he⟩
  obtain ⟨hz, hl, hp⟩ := hj.mpr hjoin
  obtain ⟨hc, hs⟩ := h1 hz hl (by rwa [h.dish] at hp)
  refine ⟨hc, fun ha => hs ?_⟩
  obtain ⟨c, hc, ha⟩ := Option.map_eq_some_iff.mp ha
  exact isAdmitted_of hc ha

omit hw in
theorem Caused.reassessed_assessed {m : WaveMember} (hm : m ∈ w.members)
    (ha : (!WaveOpen m.state && (s.dish m.dish).zone == z) = true) :
    Assessed s (u.reassessWave z w) z m.dish (placeInWave s z m.dish) := by
  have := relisted_assessed (z := z) h.fits hnd (h.isDish_of_members hd) hm (by rw [h.again]; exact ha)
  rw [h.place] at this
  exact assessed_congr this (by rw [h.dish]) (waveTest_changes _ z).dish

omit hw in
theorem Caused.reassessed_counts : CountsOf s (u.reassessWave z w) .stowOrder [] := by
  have hl := relisted_changes (z := z) h.fits hnd (h.isDish_of_members hd)
  have htest : Changes {.zone z, .monitor} (u.relisted z w) (u.reassessWave z w) := waveTest_changes _ _
  have h1 : CountsOf s (u.relisted z w) .stowOrder ([] ++ []) :=
    countsOf_trans (countsOf_congr (h.frame.countsOf .stowOrder) rfl rfl rfl) (hl.countsOf .stowOrder) hl.notices
  exact countsOf_trans h1 (htest.countsOf .stowOrder) htest.notices

end

theorem zoneStowReassessesAnOpenWave : ZoneStowReassessesAnOpenWave := by
  intro s tag z w hs hf hr h1 h8 x hx hw hnd hd again ms opened joined
  have hC : Caused s (s.taken.caused z { manual := true }) z { manual := true } := caused_of hs hf h1 h8
  have hcauses : ({ (s.taken.zone z).causes with manual := true } : Causes) = { manual := true } := by
    rw [show (s.taken.zone z).causes = {} from hx]
  have hset : s.taken.setCauses z { manual := true } = (s.taken.caused z { manual := true }).reassessWave z w := by
    have hw' : ((s.taken.caused z { manual := true }).zone z).wave = some w := by rw [hC.zone]; exact hw
    rw [setCauses_of_first (s := s.taken) hx (by decide), hw']
  have hzone := hC.reassessed_zone hw hnd hd (by decide)
  have hchanges := reassessWave_changes (z := z) hC.fits hnd (hC.isDish_of_members hd)
  refine answers_of_changes (owner := fun s => s.zoneStowOf z) _ ((s.taken.caused z { manual := true }).reassessWave z w) hr rfl rfl ?_
    (hC.frame.andThen hchanges) ?_ fun o ho => ?_
  · show s.taken.zoneStowOf z = _
    rw [zoneStowOf_eq s.taken (hs.hasZone h1 h8), hcauses, hset, hzone]
  · rintro q (hq | hq)
    · rcases hq with (rfl | rfl) | rfl | rfl <;> simp [Part.within, Part.block]
    · exact within_stowing hq
  · refine ⟨hzone, fun y hy => ?_, ho ▸ hchanges.notices hC.notice, ?_, fun m hm ha => hC.reassessed_assessed hnd hd hm ha,
      fun d hj => (hC.reassessed_dish hnd hd hf d).1 hj, fun d hj ha => (hC.reassessed_dish hnd hd hf d).2 hj ha,
      countsOf_congr (hC.reassessed_counts hnd hd) rfl rfl ho⟩
    · exact (hchanges.zone (by simp [hy])).trans (hC.frame.zone (by simp [hy]))
    · exact (waveTest_changes ((s.taken.caused z { manual := true }).relisted z w) z).passDue rfl

/-! ## The last member of a wave (R81, R82) -/

theorem setWaveMember_monitor (s : State) {z d : Nat} {st : WaveState} {w : Wave} (hz : thas s.znc.zones z = true)
    (hw : (s.zone z).wave = some w) :
    ((w.membersWith d st).any (fun m => WaveOpen m.state) = true → (s.setWaveMember z d st).act.monitor = s.act.monitor)
      ∧ ((w.membersWith d st).any (fun m => WaveOpen m.state) = false →
          MonitorAtCompletion s.act.monitor (s.setWaveMember z d st).act.monitor s.now (.wave z)) := by
  have hset : ((s.modZone z (fun r => { r with wave := r.wave.map (·.setMember d st) })).zone z).wave
      = some { w with members := w.membersWith d st } := by
    rw [modZone_zone_same s z _ hz, hw]
    simp [Wave.setMember, Wave.membersWith]
  exact waveTest_on (.wave z) rfl hset

/-- The closing of a wave claim reaches the timing monitor with the close of its wave (R188). -/
theorem closeClaim_wave_monitor (s : State) (d : Nat) (host : MemberState) (wave : WaveState) {c : OpenClaim} {z : Nat} {w : Wave}
    (hc : (s.dish d).claim = some c) (href : c.ref = .wave z) (hz : thas s.znc.zones z = true) (hw : (s.zone z).wave = some w) :
    ((w.membersWith d wave).any (fun m => WaveOpen m.state) = true → (s.closeClaim d host wave).act.monitor = s.act.monitor)
      ∧ ((w.membersWith d wave).any (fun m => WaveOpen m.state) = false →
          MonitorAtCompletion s.act.monitor (s.closeClaim d host wave).act.monitor s.now (.wave z)) := by
  unfold State.closeClaim
  simp only [hc, href]
  split
  · exact setWaveMember_monitor (s.modDish d Dish.dropClaim).trigger hz hw
  · exact setWaveMember_monitor (s.modDish d Dish.dropClaim) hz hw

/-- A wave whose member of dish `d` left PREEMPT_WAIT holds that dish no longer. -/
theorem waveAfter_released {u t : State} {z d : Nat} {w : Wave} {st : WaveState} (h : WaveAfter u t z w (w.membersWith d st))
    (hst : st ≠ .preemptWait) : ∀ w', (t.zone z).wave = some w' → ∀ m ∈ w'.members, m.dish = d → m.state ≠ .preemptWait := by
  intro w' hw' m hm hmd
  unfold WaveAfter at h
  simp only at h
  split at h
  next =>
    rw [h, Option.some.injEq] at hw'
    rw [← hw'] at hm
    obtain ⟨y, -, rfl⟩ := List.mem_map.mp hm
    by_cases hy : y.dish = d
    · rw [if_pos hy]
      exact hst
    · rw [if_neg hy] at hmd
      exact absurd hmd hy
  next =>
    rw [h.1] at hw'
    exact absurd hw' (by simp)

theorem waveClosesWithItsLastMember : WaveClosesWithItsLastMember := by
  intro s d now z chars st cl w hs hr ha hst ho hf hkey hlast hrf hpos x hx hseq hcl hid hadm hxz h1 h8 hw ms
  have hk : ∀ p, (s.dish d).last = some p → p.key = st.key := fun p hp => (hlast p hp).trans hkey.symm
  have hsv : (s.dish d).state.supervised = true := by rw [show (s.dish d).state = _ from hx]; rfl
  refine ends_of_poll hs hr ha hst fun u hu o hnot => ?_
  let v := u.assessedTo4 d st
  have hv : Quieted s v d now st := quieted_of_hears hu hsv ho hf hk (.inr (by simp [show (s.dish d).claim = _ from hcl]))
  have hbase := assessedTo4_of_admitted hu hsv ho hf hk hcl hadm
  let q := v.shedCounted d
  have hvq : Changes {.heater d} v q := shedCounted_changes v d
  have hqz : thas q.znc.zones z = true := by
    have hznc : thas u.znc.zones z = true := hu.znc ▸ hs.hasZone h1 h8
    exact (hvq.hasZone z).trans ((hbase.hasZone z).trans hznc)
  have hzone : q.zone z = s.zone z := hvq.zone.trans (hv.zone z)
  have hqw : (q.zone z).wave = some w := by rw [hzone]; exact hw
  have hqc : (q.dish d).claim = some cl := hvq.claim.trans (hv.claim.trans hcl)
  have hqm : q.act.monitor = s.act.monitor := hvq.monitor.trans hv.monitor
  have hqn : q.now = now := hvq.now.trans hv.now
  have hafter : WaveAfter q _ z w ms := closeClaim_wave q d .done .done hqc hid hqz hqw
  obtain ⟨hopen, hclosed⟩ := closeClaim_wave_monitor q d .done .done hqc hid hqz hqw
  rw [hqm] at hopen hclosed
  rw [hqn] at hclosed
  have htail := slewed_tail v d
  obtain ⟨hi, -, -, hcn⟩ := slewed_spec v d hv.isDish
  have hdz : ((v.slewed d).dish d).zone = z := by
    have hz := (hvq.andThen ((closeClaim_changes q d .done .done).andThen htail)).assignment (d := d)
    exact (hz.2.trans (congrArg Dish.zone hv.dish :)).trans hxz
  have hslewed : WaveAfter q (v.slewed d) z w ms := waveAfter_congr hafter rfl htail.zone htail.notices
  obtain ⟨hready, hclaim⟩ := enterReady_plain hi (by rw [hdz]; exact waveAfter_released hslewed (by decide))
  have hfin : v.assessMotion d st { kind := .poll, result := .none, withdrawn := false } = (v.slewed d).enterReady d := by
    rw [assessMotion_of_slewing (hv.state.trans hx), if_pos (by simp [hpos, hv.acceptedSeq.trans hseq]), slewDone_of_referenced v d hrf]
  have hyt := htail.andThen hready
  rw [hfin] at hnot ⊢
  refine ⟨waveAfter_congr hafter hzone.symm hyt.zone fun y hy => hnot ▸ hyt.notices hy, ?_, fun hany => ?_, fun hany => ?_⟩
  · show ((((v.slewed d).enterReady d).dish d).claim.map (·.ref)) ≠ _
    rcases hclaim with h | h
    · simp [h, hcn]
    · simp [h]
  · exact hyt.monitor.trans (hopen hany)
  · exact (hyt.monitor).symm ▸ hclosed hany

end Sys2Proof.Machine

open Sys2Proof.Machine in
/-- Settles O39: a first cause creates the wave of its zone or has the open one assessed again, dish by dish by Table 25, and the test for
open members after each change closes a wave with its last member. -/
theorem wavesAreCreatedReassessedAndClosed : Obligations.WavesAreCreatedReassessedAndClosed := by
  unfold Obligations.WavesAreCreatedReassessedAndClosed
  exact ⟨zoneStowCreatesAWave, zoneStowReassessesAnOpenWave, waveClosesWithItsLastMember⟩

end

section
-- One declaration at a time: the check bounds memory, and every thread in flight takes its stack from it.
set_option Elab.async false

/-! The skeleton of the machine: the numbers of its records and the blocks that an order to a dish, a heater, a zone or a claim leaves
alone. Most operations of the model keep it whole, so one equation per operation carries every invariant that reads the skeleton only. -/

namespace Sys2Proof.Machine

open Sys2Proof.Claims

/-! ## The skeleton -/

/-- What the orders to dishes, heaters, zones and claims leave alone: the clock, the sizes of the tables, the move sequences, the
transaction in flight with the command count, and the blocks that other events own. -/
structure Skeleton where
  powered : Bool
  now : Nat
  moment : Nat
  pending : List Instr
  dishes : Nat
  seqs : List Nat
  commandCount : Nat
  flight : Option Transaction
  heaters : Nat
  wmn : Wmn
  zones : Nat
  bankA : List Row
  bankB : List Row
  records : Nat
  groups : List DishSet
  counters : Nat
  lkt : Lkt
  nvs : Nvs
  inbound : List Instr

def State.skeleton (s : State) : Skeleton where
  powered := s.powered
  now := s.now
  moment := s.moment
  pending := s.pending
  dishes := s.dsv.dishes.length
  seqs := s.pbc.slots.map (·.seq)
  commandCount := s.pbc.commandCount
  flight := s.pbc.flight
  heaters := s.mlc.heaters.length
  wmn := s.wmn
  zones := s.znc.zones.length
  bankA := s.znc.bankA
  bankB := s.znc.bankB
  records := s.sls.table.length
  groups := s.sls.groups
  counters := s.act.counters.length
  lkt := s.lkt
  nvs := s.nvs
  inbound := s.oli.inbound

/-- The sizes and bounds of `Shape`, read from the skeleton. -/
def Skeleton.Sound (k : Skeleton) : Prop :=
  k.dishes = 48 ∧ k.seqs.length = 48 ∧ k.heaters = 48 ∧ k.wmn.masts.length = 4 ∧ k.zones = 8 ∧ k.bankA.length = 8 ∧ k.bankB.length = 8
    ∧ k.groups.length = 16 ∧ k.lkt.entries.length = 64 ∧ k.nvs.slots.length = 63 ∧ k.counters = 8 ∧ k.inbound.length ≤ 8 ∧ k.records ≤ 32
    ∧ k.lkt.queue.length ≤ 8 ∧ k.commandCount ≤ 8 ∧ (∀ m ∈ k.wmn.masts, m.window.length ≤ 60) ∧ (∀ q ∈ k.seqs, q < 16)

theorem shape_iff_sound (s : State) : Shape s ↔ s.skeleton.Sound := by
  simp [Shape, Skeleton.Sound, State.skeleton]

/-- The invariant of the shape reads the skeleton only. -/
theorem Shape.of_skeleton {s t : State} (h : Shape s) (ht : t.skeleton = s.skeleton) : Shape t :=
  (shape_iff_sound t).mpr (ht ▸ (shape_iff_sound s).mp h)

theorem nvs_of_skeleton {s t : State} (h : t.skeleton = s.skeleton) : t.nvs = s.nvs := congrArg Skeleton.nvs h

theorem seqs_of_changes {l : Set Part} {s t : State} (h : Changes l s t) (hq : ∀ d, Part.slots .seq d ∉ l) :
    t.pbc.slots.map (·.seq) = s.pbc.slots.map (·.seq) := by
  apply List.ext_getElem (by simp [h.length_slots])
  intro i h1 h2
  have hd : (t.slots (i + 1)).seq = (s.slots (i + 1)).seq := h.same _ (hq (i + 1))
  have ht : i < t.pbc.slots.length := by simpa using h1
  have hs : i < s.pbc.slots.length := by simpa using h2
  simpa [State.slots, tget, ht, hs] using hd

/-- The parts that the skeleton reads. -/
def framing : Set Part :=
  {.clock, .bus, .wind, .banks, .table, .groups, .lockouts, .store, .link} ∪ {p | ∃ d, p = .slots .seq d}

@[simp] theorem mem_framing (p : Part) : p ∈ framing ↔ (p = .clock ∨ p = .bus ∨ p = .wind ∨ p = .banks ∨ p = .table ∨ p = .groups
    ∨ p = .lockouts ∨ p = .store ∨ p = .link) ∨ ∃ d, p = .slots .seq d := Iff.rfl

/-- An operation whose frame holds none of the skeleton's parts keeps the skeleton. -/
theorem Changes.skeleton {l : Set Part} {s t : State} (h : Changes l s t)
    (hl : ∀ p ∈ framing, p ∉ l := by simp [forall_and, or_imp]) : t.skeleton = s.skeleton := by
  obtain ⟨hp, hn, hm, hq⟩ : Part.Same s t .clock := h.same _ (hl _ (by simp))
  have hbus : t.pbc = { s.pbc with slots := t.pbc.slots } := h.bus (hl _ (by simp))
  have hwind : t.wmn = s.wmn := h.same .wind (hl _ (by simp))
  have hbanks : t.znc = { s.znc with zones := t.znc.zones } := h.same .banks (hl _ (by simp))
  have htable : t.sls.table = s.sls.table := h.table (hl _ (by simp))
  have hgroups : t.sls = { s.sls with table := t.sls.table } := h.same .groups (hl _ (by simp))
  have hlkt : t.lkt = s.lkt := h.lockouts (hl _ (by simp))
  have hnvs : t.nvs = s.nvs := h.store (hl _ (by simp))
  have hlink : t.oli = { s.oli with notices := t.oli.notices } := h.link (hl _ (by simp))
  have hseq := seqs_of_changes h fun d => hl _ (by simp)
  rw [State.skeleton, State.skeleton, hp, hn, hm, hq, h.length_dishes, hseq, h.length_heaters, hwind, h.length_zones, htable, h.length_counters,
    hlkt, hnvs, hlink, hbus, hbanks, hgroups]

@[simp] theorem ite_skeleton (c : Prop) [Decidable c] (s t : State) :
    (if c then s else t).skeleton = if c then s.skeleton else t.skeleton := apply_ite State.skeleton c s t

theorem foldl_skeleton {α : Type} (f : State → α → State) (xs : List α) (s : State) (h : ∀ t x, (f t x).skeleton = t.skeleton) :
    (xs.foldl f s).skeleton = s.skeleton :=
  List.foldlRecOn (motive := fun t : State => t.skeleton = s.skeleton) xs f rfl fun t ht x _ => (h t x).trans ht

section
variable (s : State)

/-! ## Records, notices, counters and orders -/

@[simp] theorem modDish_skeleton (d : Nat) (f : Dish → Dish) : (s.modDish d f).skeleton = s.skeleton := by
  simp [State.skeleton, State.modDish]

theorem modSlots_skeleton (d : Nat) (f : Slots → Slots) (h : (f (s.slots d)).seq = (s.slots d).seq) :
    (s.modSlots d f).skeleton = s.skeleton := by
  refine (modSlots_changes (l := {p | ∃ a, a ≠ .seq ∧ p = .slots a d}) s d f fun p hp => ?_).skeleton ?_
  swap
  · rintro p hp ⟨a, ha, rfl⟩
    simp_all
  have hp' : p = .seq := by simpa using hp
  rw [hp']
  exact h

@[simp] theorem modZone_skeleton (z : Nat) (f : Zone → Zone) : (s.modZone z f).skeleton = s.skeleton := (modZone_changes s z f).skeleton

@[simp] theorem modHeater_skeleton (d : Nat) (f : Heater → Heater) : (s.modHeater d f).skeleton = s.skeleton :=
  (modHeater_changes s d f).skeleton

@[simp] theorem modFeeder_skeleton (f : Feeder) (g : FeederRec → FeederRec) : (s.modFeeder f g).skeleton = s.skeleton :=
  (modFeeder_changes s f g).skeleton

@[simp] theorem modRecord_skeleton (id : Nat) (f : SlewRecord → SlewRecord) : (s.modRecord id f).skeleton = s.skeleton := by
  simp [State.skeleton, State.modRecord]

@[simp] theorem raise_skeleton (k : NoticeKey) : (s.raise k).skeleton = s.skeleton := (raise_changes s k).skeleton

@[simp] theorem trigger_skeleton : s.trigger.skeleton = s.skeleton := (trigger_changes s).skeleton

@[simp] theorem count_skeleton (k : EventClass) (q : Option Nat) : (s.count k q).skeleton = s.skeleton := (count_changes s k q).skeleton

@[simp] theorem countLock_skeleton (k : Option LockKind) : (s.countLock k).skeleton = s.skeleton := (countLock_changes s k).skeleton

@[simp] theorem monitorCreated_skeleton (ref : TrackRef) (b : Bool) : (s.monitorCreated ref b).skeleton = s.skeleton :=
  (monitorCreated_changes s ref b).skeleton

@[simp] theorem monitorAdmitted_skeleton (ref : TrackRef) : (s.monitorAdmitted ref).skeleton = s.skeleton :=
  (monitorAdmitted_changes s ref).skeleton

@[simp] theorem monitorCompleted_skeleton (ref : TrackRef) : (s.monitorCompleted ref).skeleton = s.skeleton :=
  (monitorCompleted_changes s ref).skeleton

@[simp] theorem syncStowOrder_skeleton : s.syncStowOrder.skeleton = s.skeleton := (syncStowOrder_changes s).skeleton

@[simp] theorem settleFrom_skeleton (f : Feeder) (b : Bool) : (s.settleFrom f b).skeleton = s.skeleton := (settleFrom_changes s f b).skeleton

@[simp] theorem settle_skeleton (f : Feeder) : (s.settle f).skeleton = s.skeleton := (settle_changes s f).skeleton

@[simp] theorem reserve_skeleton (d w : Nat) : (s.reserve d w).skeleton = s.skeleton := (reserve_changes s d w).skeleton

@[simp] theorem release_skeleton (d : Nat) : (s.release d).skeleton = s.skeleton := (release_changes s d).skeleton

@[simp] theorem orderMove_skeleton (d : Nat) (c : MoveCmd) : (s.orderMove d c).skeleton = s.skeleton := (orderMove_changes s d c).skeleton

@[simp] theorem orderStop_skeleton (d : Nat) : (s.orderStop d).skeleton = s.skeleton := (orderStop_changes s d).skeleton

@[simp] theorem removeMove_skeleton (d : Nat) : (s.removeMove d).skeleton = s.skeleton := (removeMove_changes s d).skeleton

@[simp] theorem removeMotion_skeleton (d : Nat) : (s.removeMotion d).skeleton = s.skeleton := (removeMotion_changes s d).skeleton

@[simp] theorem clearSlots_skeleton (d : Nat) : (s.clearSlots d).skeleton = s.skeleton := (clearSlots_changes s d).skeleton

@[simp] theorem flag_skeleton (d : Nat) (x : ChangeFlags) : (s.flag d x).skeleton = s.skeleton := (flag_changes s d x).skeleton

end

end Sys2Proof.Machine
end

section
-- One declaration at a time: the check bounds memory, and every thread in flight takes its stack from it.
set_option Elab.async false

/-! The operations on claims, heaters, dishes and zones keep the skeleton. -/

namespace Sys2Proof.Machine

open Sys2Proof.Claims

section
variable (s : State)

/-! ## Claims -/

@[simp] theorem completionTest_skeleton (id : Nat) : (s.completionTest id).skeleton = s.skeleton := by
  unfold State.completionTest
  split <;> simp

@[simp] theorem closeHost_skeleton (id d : Nat) (st : MemberState) : (s.closeHost id d st).skeleton = s.skeleton := by
  simp [State.closeHost]

@[simp] theorem waveTest_skeleton (z : Nat) : (s.waveTest z).skeleton = s.skeleton := (waveTest_changes s z).skeleton

@[simp] theorem setWaveMember_skeleton (z d : Nat) (st : WaveState) : (s.setWaveMember z d st).skeleton = s.skeleton :=
  (setWaveMember_changes s z d st).skeleton

@[simp] theorem openClaim_skeleton (d : Nat) (ref : ClaimRef) : (s.openClaim d ref).skeleton = s.skeleton :=
  (openClaim_changes s d ref).skeleton

@[simp] theorem openTask_skeleton (d : Nat) (k : Task) : (s.openTask d k).skeleton = s.skeleton := (openTask_changes s d k).skeleton

@[simp] theorem closeClaim_skeleton (d : Nat) (h : MemberState) (w : WaveState) : (s.closeClaim d h w).skeleton = s.skeleton := by
  unfold State.closeClaim
  split
  · rfl
  · simp only
    split <;> simp

@[simp] theorem abortClaim_skeleton (d : Nat) (why : Abort) : (s.abortClaim d why).skeleton = s.skeleton := closeClaim_skeleton s d _ _

@[simp] theorem excuseClaim_skeleton (d : Nat) (why : Excuse) : (s.excuseClaim d why).skeleton = s.skeleton := closeClaim_skeleton s d _ _

@[simp] theorem gain_skeleton (d : Nat) : (s.gain d).skeleton = s.skeleton := (gain_changes s d).skeleton

@[simp] theorem endPreempt_skeleton (d : Nat) : (s.endPreempt d).skeleton = s.skeleton := (endPreempt_changes s d).skeleton

@[simp] theorem enterReady_skeleton (d : Nat) : (s.enterReady d).skeleton = s.skeleton := (enterReady_changes s d).skeleton

@[simp] theorem enterUnreferenced_skeleton (d : Nat) : (s.enterUnreferenced d).skeleton = s.skeleton := (enterUnreferenced_changes s d).skeleton

@[simp] theorem enterFaulted_skeleton (d : Nat) (sup : Option SupFault) : (s.enterFaulted d sup).skeleton = s.skeleton := by
  simp [State.enterFaulted]

@[simp] theorem stopOrder_skeleton (d : Nat) (o : StopOutcome) : (s.stopOrder d o).skeleton = s.skeleton := by
  simp [State.stopOrder]

@[simp] theorem newMotionBlock_skeleton (d : Nat) (k : LockKind) : (s.newMotionBlock d k).skeleton = s.skeleton := by
  unfold State.newMotionBlock
  simp only
  split
  · rfl
  · split
    · simp
    · split <;> simp

/-! ## Heaters -/

@[simp] theorem allocateOn_skeleton (f : Feeder) : (s.allocateOn f).skeleton = s.skeleton := (allocateOn_heating s f).skeleton

@[simp] theorem gateHeater_skeleton (d : Nat) : (s.gateHeater d).skeleton = s.skeleton := (gateHeater_changes s d).skeleton

@[simp] theorem gateAndAllocate_skeleton (d : Nat) : (s.gateAndAllocate d).skeleton = s.skeleton := (gateAndAllocate_heating s d).skeleton

@[simp] theorem heaterReply_skeleton (d : Nat) (st : Status) : (s.heaterReply d st).skeleton = s.skeleton :=
  (heaterReply_changes s d st).skeleton

@[simp] theorem heaterAbsent_skeleton (d : Nat) : (s.heaterAbsent d).skeleton = s.skeleton := (heaterAbsent_heating s d).skeleton

@[simp] theorem dropWaitingShed_skeleton (d : Nat) : (s.dropWaitingShed d).skeleton = s.skeleton := by simp [State.dropWaitingShed]

@[simp] theorem holdExpires_skeleton (d : Nat) : (s.holdExpires d).skeleton = s.skeleton := by simp [State.holdExpires]

/-! ## The steps of a reply (R6) -/

@[simp] theorem enterLocal_skeleton (d : Nat) : (s.enterLocal d).skeleton = s.skeleton := by simp [State.enterLocal]

@[simp] theorem leaveLocal_skeleton (d : Nat) : (s.leaveLocal d).skeleton = s.skeleton := by simp [State.leaveLocal]

@[simp] theorem driveFault_skeleton (d : Nat) (moving : Bool) : (s.driveFault d moving).skeleton = s.skeleton := by
  simp [State.driveFault]

@[simp] theorem assessPresence_skeleton (d : Nat) : (s.assessPresence d).skeleton = s.skeleton := by simp [State.assessPresence]

@[simp] theorem assessOwner_skeleton (d : Nat) (prev : Option Status) (st : Status) : (s.assessOwner d prev st).skeleton = s.skeleton := by
  unfold State.assessOwner
  split
  · simp
  · simp only
    split <;> simp
  · simp

@[simp] theorem assessFault_skeleton (d : Nat) (prev : Option Status) (st : Status) : (s.assessFault d prev st).skeleton = s.skeleton := by
  unfold State.assessFault
  split
  · rfl
  · split <;> simp
  · simp

@[simp] theorem keyLeavesNone_skeleton (d : Nat) : (s.keyLeavesNone d).skeleton = s.skeleton := by
  unfold State.keyLeavesNone
  simp only
  split
  · rfl
  · split
    · simp
    · split <;> simp

@[simp] theorem keyReturns_skeleton (d : Nat) : (s.keyReturns d).skeleton = s.skeleton := by simp [State.keyReturns]

@[simp] theorem assessKey_skeleton (d : Nat) (prev : Option Status) (st : Status) : (s.assessKey d prev st).skeleton = s.skeleton := by
  unfold State.assessKey
  split <;> simp

@[simp] theorem iceHold_skeleton (d : Nat) (ice : Bool) : (s.iceHold d ice).skeleton = s.skeleton := by
  unfold State.iceHold
  split
  · split
    · refine (ite_skeleton _ _ _).trans ?_
      simp only [ite_skeleton]
      split
      · rfl
      · split
        · simp
        · split <;> simp
    · rfl
  · rfl

@[simp] theorem assessSurface_skeleton (d : Nat) (prev : Option Status) (st : Status) :
    (s.assessSurface d prev st).skeleton = s.skeleton := by
  unfold State.assessSurface
  split <;> simp

@[simp] theorem settleTest_skeleton (d : Nat) (st : Status) : (s.settleTest d st).skeleton = s.skeleton := (settleTest_changes s d st).skeleton

@[simp] theorem driveRefused_skeleton (d : Nat) : (s.driveRefused d).skeleton = s.skeleton := by simp [State.driveRefused]

@[simp] theorem homeDone_skeleton (d : Nat) : (s.homeDone d).skeleton = s.skeleton := by simp [State.homeDone]

@[simp] theorem moveAccepted_skeleton (d seq : Nat) : (s.moveAccepted d seq).skeleton = s.skeleton := by
  unfold State.moveAccepted
  simp only
  split <;> simp

@[simp] theorem referenceLost_skeleton (d : Nat) : (s.referenceLost d).skeleton = s.skeleton := by simp [State.referenceLost]

@[simp] theorem slewDone_skeleton (d : Nat) (st : Status) : (s.slewDone d st).skeleton = s.skeleton := by simp [State.slewDone]

@[simp] theorem stopEnds_skeleton (d : Nat) (st : Status) : (s.stopEnds d st).skeleton = s.skeleton := by simp [State.stopEnds]

@[simp] theorem assessMotion_skeleton (d : Nat) (st : Status) (a : Answer) : (s.assessMotion d st a).skeleton = s.skeleton := by
  unfold State.assessMotion
  simp only
  split
  · simp
  · split <;> simp [State.homeAccepted]
  · simp
  · split <;> simp
  · simp
  · simp
  · simp
  · rfl
  · rfl

/-! ## Replies, misses and timers -/

@[simp] theorem takeReply_skeleton (d : Nat) (st : Status) (a : Answer) : (s.takeReply d st a).skeleton = s.skeleton := by
  simp [State.takeReply]

@[simp] theorem declareAbsent_skeleton (d : Nat) : (s.declareAbsent d).skeleton = s.skeleton := by simp [State.declareAbsent]

@[simp] theorem takeMiss_skeleton (d : Nat) : (s.takeMiss d).skeleton = s.skeleton := by simp [State.takeMiss]

@[simp] theorem exhausted_skeleton (d : Nat) : (s.exhausted d).skeleton = s.skeleton := by
  unfold State.exhausted
  simp only
  split
  · simp [State.taskWaitsAgain]
  · simp
  · rfl

@[simp] theorem slewTimeoutOn_skeleton (d : Nat) : (s.slewTimeoutOn d).skeleton = s.skeleton := by simp [State.slewTimeoutOn]

@[simp] theorem homeTimeoutOn_skeleton (d : Nat) : (s.homeTimeoutOn d).skeleton = s.skeleton := by simp [State.homeTimeoutOn]

@[simp] theorem stopTimeoutOn_skeleton (d : Nat) : (s.stopTimeoutOn d).skeleton = s.skeleton := by simp [State.stopTimeoutOn]

/-! ## Zones -/

@[simp] theorem reselect_skeleton (z : Nat) : (s.reselect z).skeleton = s.skeleton := by simp [State.reselect]

@[simp] theorem assessAndOpen_skeleton (z d : Nat) : (s.assessAndOpen z d).1.skeleton = s.skeleton := by simp [State.assessAndOpen]

@[simp] theorem preempt_skeleton (d : Nat) : (s.preempt d).1.skeleton = s.skeleton := by
  unfold State.preempt
  split <;> simp

@[simp] theorem assessDish_skeleton (z d : Nat) : (s.assessDish z d).1.skeleton = s.skeleton := by
  unfold State.assessDish
  simp only
  split
  · split <;> simp
  · split
    · unfold State.takeOver
      simp only
      split <;> simp
    · simp

@[simp] theorem assessAll_skeleton (z : Nat) (ds : List Nat) : (s.assessAll z ds).1.skeleton = s.skeleton := by
  induction ds generalizing s with
  | nil => rfl
  | cons d ds ih => exact (ih _).trans (assessDish_skeleton s z d)

@[simp] theorem createWave_skeleton (z : Nat) : (s.createWave z).skeleton = s.skeleton := by simp [State.createWave]

@[simp] theorem reassessAll_skeleton (z : Nat) (ms : List WaveMember) : (s.reassessAll z ms).1.skeleton = s.skeleton := by
  induction ms generalizing s with
  | nil => rfl
  | cons m ms ih =>
    rw [reassessAll_cons]
    exact (ih _).trans (by simp [State.reassessed])

@[simp] theorem preemptJoined_skeleton (z : Nat) (listed : List Nat) : (s.preemptJoined z listed).skeleton = s.skeleton :=
  foldl_skeleton _ _ s fun t d => by simp

@[simp] theorem reassessWave_skeleton (z : Nat) (w : Wave) : (s.reassessWave z w).skeleton = s.skeleton := by simp [State.reassessWave]

@[simp] theorem enterZoneState_skeleton (z : Nat) (st : ZoneState) : (s.enterZoneState z st).skeleton = s.skeleton :=
  (enterZoneState_changes s z st).skeleton

@[simp] theorem dropStowTasks_skeleton (z : Nat) : (s.dropStowTasks z).skeleton = s.skeleton :=
  foldl_skeleton _ _ s fun t d => by simp

@[simp] theorem setCauses_skeleton (z : Nat) (new : Causes) : (s.setCauses z new).skeleton = s.skeleton := by
  unfold State.setCauses
  simp only
  split
  · rfl
  · split
    · split <;> simp
    · simp

@[simp] theorem cancelRelease_skeleton (z : Nat) : (s.cancelRelease z).skeleton = s.skeleton := by simp [State.cancelRelease]

@[simp] theorem startRelease_skeleton (z : Nat) : (s.startRelease z).skeleton = s.skeleton := by simp [State.startRelease]

@[simp] theorem evaluate_skeleton (z : Nat) : (s.evaluate z).skeleton = s.skeleton := by
  unfold State.evaluate
  split
  · split
    · simp [State.evaluateSourced]
    · rfl
  · simp

@[simp] theorem zoneUpdate_skeleton (m : Nat) (changed added awaiting : Bool) (z : Nat) :
    (s.zoneUpdate m changed added awaiting z).skeleton = s.skeleton := by simp [State.zoneUpdate]

@[simp] theorem mastUpdate_skeleton (before : State) (m : Nat) (added : Bool) : (s.mastUpdate before m added).skeleton = s.skeleton :=
  foldl_skeleton _ _ s fun t z => by simp

end

end Sys2Proof.Machine
end

section
-- One declaration at a time: the check bounds memory, and every thread in flight takes its stack from it.
set_option Elab.async false

/-! The owners of requests and events at the skeleton: those that keep it, and what the others write in it. -/

namespace Sys2Proof.Machine

@[simp] theorem ite_handled_skeleton (c : Prop) [Decidable c] (x y : Handled) :
    (if c then x else y).1.skeleton = if c then x.1.skeleton else y.1.skeleton := apply_ite (fun h : Handled => h.1.skeleton) c x y

@[simp] theorem refuse_skeleton (s : State) (r : Reason) : (s.refuse r).1.skeleton = s.skeleton := rfl

@[simp] theorem answer_skeleton (s : State) (x : Contents) : (s.answer x).1.skeleton = s.skeleton := rfl

section
variable (s : State)

/-! ## Owners that keep the skeleton -/

@[simp] theorem dishStatusOf_skeleton (ds : DishSet) : (s.dishStatusOf ds).1.skeleton = s.skeleton := by
  unfold State.dishStatusOf
  split <;> rfl

@[simp] theorem hostStops_skeleton (ds : List Nat) : (s.hostStops ds).1.skeleton = s.skeleton := by
  induction ds generalizing s with
  | nil => rfl
  | cons d ds ih => exact (ih _).trans (stopOrder_skeleton s d .stoppedByHost)

@[simp] theorem dishStopOf_skeleton (ds : DishSet) : (s.dishStopOf ds).1.skeleton = s.skeleton := by
  unfold State.dishStopOf
  split
  · rfl
  · exact hostStops_skeleton s _

@[simp] theorem rehome_skeleton (d : Nat) : (s.rehome d).1.skeleton = s.skeleton := by
  unfold State.rehome
  repeat' split
  all_goals simp [State.refuse, State.answer]

@[simp] theorem ackChanges_skeleton (ds : DishSet) (m : Mask) : (s.ackChanges ds m).1.skeleton = s.skeleton := by
  unfold State.ackChanges
  split
  · rfl
  · exact foldl_skeleton _ _ s fun t d => by simp

theorem writeSupervision_skeleton (v : SupervisionEdit) : (s.writeSupervision v).skeleton = s.skeleton := rfl

@[simp] theorem writeProfile_skeleton (e : ProfileEdit) (d : Nat) : (s.writeProfile e d).skeleton = s.skeleton := by
  simp [State.writeProfile]

@[simp] theorem writeEnablesOn_skeleton (heat shed : Option Bool) (d : Nat) : (s.writeEnablesOn heat shed d).skeleton = s.skeleton := by
  simp [State.writeEnablesOn]

@[simp] theorem writeEnables_skeleton (heat shed : Option Bool) (ds : List Nat) : (s.writeEnables heat shed ds).1.skeleton = s.skeleton :=
  (foldl_skeleton _ _ _ fun t f => by simp).trans (foldl_skeleton _ ds s fun t d => by simp)

@[simp] theorem setProfile_skeleton (ds : DishSet) (pe : ProfileEdit) (se : SupervisionEdit) :
    (s.setProfile ds pe se).1.skeleton = s.skeleton := by
  unfold State.setProfile
  split
  · rfl
  · have hw : ((members ds).foldl (fun (t : State) d => t.writeProfile (clampProfile pe).1 d)
        (s.writeSupervision (clampSupervision se).1)).skeleton = s.skeleton :=
      (foldl_skeleton _ _ _ fun t d => by simp).trans (writeSupervision_skeleton s _)
    simp [State.answer, hw]

@[simp] theorem assignDish_skeleton (feeder : Option Feeder) (zone : Option Nat) (d : Nat) :
    (s.assignDish feeder zone d).skeleton = s.skeleton := by simp [State.assignDish]

@[simp] theorem assign_skeleton (ds : DishSet) (feeder zone : Option Nat) : (s.assign ds feeder zone).1.skeleton = s.skeleton := by
  have hw : ((members ds).foldl (fun (t : State) d => t.assignDish (feeder.bind feederOf) zone d) s).skeleton = s.skeleton :=
    foldl_skeleton _ _ s fun t d => by simp
  simp [State.assign, hw]

@[simp] theorem cancelMember_skeleton (m : HostMember) : (s.cancelMember m).skeleton = s.skeleton := by
  unfold State.cancelMember
  split <;> simp

@[simp] theorem cancelOf_skeleton (id : Nat) (ds : Option DishSet) : (s.cancelOf id ds).1.skeleton = s.skeleton := by
  unfold State.cancelOf
  split
  · rfl
  split
  · rfl
  split
  · rfl
  split
  · rfl
  · exact foldl_skeleton _ _ s fun t m => by simp

@[simp] theorem slewStatusOf_skeleton (id : Nat) : (s.slewStatusOf id).1.skeleton = s.skeleton := by
  unfold State.slewStatusOf
  split
  · rfl
  split <;> rfl

@[simp] theorem groupReadOf_skeleton (m : BitVec 16) : (s.groupReadOf m).1.skeleton = s.skeleton := by
  unfold State.groupReadOf
  split <;> rfl

@[simp] theorem expireDeadline_skeleton (id : Nat) : (s.expireDeadline id).skeleton = s.skeleton := by
  unfold State.expireDeadline
  split
  · rfl
  · exact (foldl_skeleton _ _ _ fun t m => by simp).trans (modRecord_skeleton s id _)

@[simp] theorem feederSetOf_skeleton (b : Nat) (limit reserve heatCap : Option Nat) :
    (s.feederSetOf b limit reserve heatCap).1.skeleton = s.skeleton := by
  unfold State.feederSetOf
  split
  · rfl
  split
  · rfl
  · simp [State.answer, State.applyFeederSet]

@[simp] theorem feederStatusOf_skeleton (m : Mask) : (s.feederStatusOf m).1.skeleton = s.skeleton := by
  unfold State.feederStatusOf
  split
  · rfl
  split <;> rfl

@[simp] theorem zoneSetOf_skeleton (z : Nat) (e : ZoneEdit) : (s.zoneSetOf z e).1.skeleton = s.skeleton := by
  unfold State.zoneSetOf
  simp only
  split
  · rfl
  · simp [State.answer]

@[simp] theorem zoneStatusOf_skeleton (m : Mask) : (s.zoneStatusOf m).1.skeleton = s.skeleton := by
  unfold State.zoneStatusOf
  split <;> rfl

@[simp] theorem bankReadOf_skeleton (b : Nat) : (s.bankReadOf b).1.skeleton = s.skeleton := by
  unfold State.bankReadOf
  split <;> rfl

@[simp] theorem restartRelease_skeleton (z : Nat) : (s.restartRelease z).skeleton = s.skeleton := by simp [State.restartRelease]

@[simp] theorem bankSelectOf_skeleton (b : Nat) : (s.bankSelectOf b).1.skeleton = s.skeleton := by
  unfold State.bankSelectOf
  split
  · rfl
  split
  · rfl
  · exact foldl_skeleton _ _ _ fun t z => by simp

@[simp] theorem zoneStowOf_skeleton (z : Nat) : (s.zoneStowOf z).1.skeleton = s.skeleton := by
  unfold State.zoneStowOf
  split
  · rfl
  · simp [State.answer]

@[simp] theorem zoneReleaseOf_skeleton (z : Nat) : (s.zoneReleaseOf z).1.skeleton = s.skeleton := by
  unfold State.zoneReleaseOf
  split
  · rfl
  split
  · rfl
  · simp [State.answer]

@[simp] theorem releaseExpires_skeleton (z : Nat) : (s.releaseExpires z).skeleton = s.skeleton := by simp [State.releaseExpires]

@[simp] theorem heatPolicyOf_skeleton (e : PolicyEdit) : (s.heatPolicyOf e).1.skeleton = s.skeleton := by
  unfold State.heatPolicyOf
  simp only
  split <;> rfl

@[simp] theorem heatEnableOf_skeleton (ds : DishSet) (heat shed : Option Bool) : (s.heatEnableOf ds heat shed).1.skeleton = s.skeleton := by
  unfold State.heatEnableOf
  split
  · rfl
  · exact writeEnables_skeleton s heat shed _

@[simp] theorem heatStatusOf_skeleton (ds : DishSet) (m : Mask) : (s.heatStatusOf ds m).1.skeleton = s.skeleton := by
  unfold State.heatStatusOf
  split
  · rfl
  split <;> rfl

@[simp] theorem lockFindOf_skeleton (ds : Option DishSet) (kinds states : Option Mask) :
    (s.lockFindOf ds kinds states).1.skeleton = s.skeleton := by
  simp [State.lockFindOf]

@[simp] theorem lockReadOf_skeleton (m : BitVec 64) : (s.lockReadOf m).1.skeleton = s.skeleton := by
  unfold State.lockReadOf
  split <;> rfl

@[simp] theorem counterSetOf_skeleton (n : Nat) (a : CounterArgs) : (s.counterSetOf n a).1.skeleton = s.skeleton := by
  have hw (c : Counter) : ({ s with act.counters := tmod s.act.counters n (fun _ => c) } : State).skeleton = s.skeleton := by
    simp [State.skeleton]
  unfold State.counterSetOf
  split
  · rfl
  · simp [hw]

@[simp] theorem counterReadOf_skeleton (m : Mask) : (s.counterReadOf m).1.skeleton = s.skeleton := by
  unfold State.counterReadOf
  split <;> rfl

@[simp] theorem counterClearOf_skeleton (m : Mask) : (s.counterClearOf m).1.skeleton = s.skeleton := by
  have hlen (ns : List Nat) (l : List Counter) : (ns.foldl (fun l n => tmod l n Counter.cleared) l).length = l.length := by
    induction ns generalizing l with
    | nil => rfl
    | cons n ns ih => exact (ih _).trans (length_tmod l n _)
  have hw (cs : List Counter) (h : cs.length = s.act.counters.length) : ({ s with act.counters := cs } : State).skeleton = s.skeleton := by
    simp [State.skeleton, h]
  simp [State.counterClearOf, hw _ (hlen _ _)]

@[simp] theorem timingArmOf_skeleton (m : Mask) : (s.timingArmOf m).1.skeleton = s.skeleton := by
  unfold State.timingArmOf
  split <;> rfl

@[simp] theorem secondTick_skeleton : s.secondTick.skeleton = s.skeleton := by
  refine ((bumpWhere_raises s _).skeleton).trans ?_
  simp [State.skeleton]

theorem countExcusals_skeleton (ms : List HostMember) : (s.countExcusals ms).skeleton = s.skeleton :=
  foldl_skeleton _ _ s fun t m => by simp [State.countExcusal]

/-! ## The admission pass -/

@[simp] theorem markWait_skeleton (d : Nat) (cls : ClaimClass) : (s.markWait d cls).skeleton = s.skeleton := by
  unfold State.markWait
  split <;> simp

@[simp] theorem unmarkWait_skeleton (d : Nat) : (s.unmarkWait d).skeleton = s.skeleton := by simp [State.unmarkWait]

@[simp] theorem recordAdmission_skeleton (d w e : Nat) : (s.recordAdmission d w e).skeleton = s.skeleton := by
  unfold State.recordAdmission
  split <;> simp

@[simp] theorem admitClaim_skeleton (d : Nat) (cls : ClaimClass) : (s.admitClaim d cls).skeleton = s.skeleton := by
  simp [State.admitClaim]

@[simp] theorem passUnit_skeleton (m : Marks) (u : PassUnit) : (s.passUnit m u).1.skeleton = s.skeleton := by
  unfold State.passUnit
  split
  next d cls =>
    split
    · simp
    · split
      · unfold State.passStow
        simp only
        split
        · simp
        · split <;> simp
      · unfold State.passOther
        simp only
        split
        · simp
        · split <;> simp
  next ds =>
    split
    · exact foldl_skeleton _ _ s fun t d => by simp
    · unfold State.passGang
      simp only
      split
      · exact foldl_skeleton _ _ s fun t d => by simp
      · exact foldl_skeleton _ _ s fun t d => by simp

@[simp] theorem passWalk_skeleton (m : Marks) (us : List PassUnit) : (s.passWalk m us).1.skeleton = s.skeleton := by
  induction us generalizing s m with
  | nil => rfl
  | cons u us ih => exact (ih _ _).trans (passUnit_skeleton s m u)

@[simp] theorem closeFeeder_skeleton (m : Marks) (f : Feeder) : (s.closeFeeder m f).skeleton = s.skeleton := by
  simp [State.closeFeeder]

@[simp] theorem endPass_skeleton (m : Marks) : (s.endPass m).skeleton = s.skeleton := by
  have hclose : (allFeeders.foldl (fun (t : State) f => t.closeFeeder m f) s).skeleton = s.skeleton :=
    foldl_skeleton _ _ s fun t f => closeFeeder_skeleton t m f
  have hwrite (t : State) (w : Mask) : ({ t with act.conds.budgetWait := w, fbu.passDue := false } : State).skeleton = t.skeleton := rfl
  unfold State.endPass
  rw [foldl_skeleton _ allFeeders _ fun t f => allocateOn_skeleton t f, hwrite, hclose]

@[simp] theorem runPass_skeleton : s.runPass.skeleton = s.skeleton := by
  have hwalk := passWalk_skeleton s Marks.clear s.passUnits
  unfold State.runPass
  generalize s.passWalk Marks.clear s.passUnits = x at hwalk ⊢
  exact (endPass_skeleton x.1 x.2).trans hwalk

end

end Sys2Proof.Machine
end

section
-- One declaration at a time: the check bounds memory, and every thread in flight takes its stack from it.
set_option Elab.async false

/-! What the owners that write the skeleton write in it, and what that leaves of the shape and of the timers of a RESTART. -/

namespace Sys2Proof.Machine

open Sys2Proof.Claims

/-! ## The two invariants that the skeleton carries -/

/-- The operation keeps the shape and the phases of the RESTART timers. -/
structure KeepsForm (s t : State) : Prop where
  shape : Shape s → Shape t
  timers : PhaseTimers s → PhaseTimers t

theorem KeepsForm.refl (s : State) : KeepsForm s s := ⟨id, id⟩

theorem KeepsForm.trans {s t u : State} (h : KeepsForm s t) (h' : KeepsForm t u) : KeepsForm s u :=
  ⟨h'.shape ∘ h.shape, h'.timers ∘ h.timers⟩

theorem KeepsForm.ite {s t u : State} {c : Prop} [Decidable c] (ht : c → KeepsForm s t) (hu : ¬ c → KeepsForm s u) :
    KeepsForm s (if c then t else u) := by
  split
  · exact ht ‹_›
  · exact hu ‹_›

/-- What holds of both branches of a conditional owner. -/
theorem KeepsForm.handled {s : State} {c : Prop} [Decidable c] {x y : Handled} (hx : c → KeepsForm s x.1) (hy : ¬ c → KeepsForm s y.1) :
    KeepsForm s (if c then x else y).1 := handled_ite (P := KeepsForm s) hx hy

theorem PhaseTimers.of_nvs {s t : State} (h : PhaseTimers s) (ht : t.nvs = s.nvs) : PhaseTimers t := by
  rw [PhaseTimers, ht]
  exact h

theorem KeepsForm.of_skeleton {s t : State} (h : t.skeleton = s.skeleton) : KeepsForm s t :=
  ⟨fun hs => hs.of_skeleton h, fun hs => hs.of_nvs (nvs_of_skeleton h)⟩

/-- An operation that makes the skeleton `k` of its state. -/
theorem KeepsForm.of_sound {s t : State} {k : Skeleton} (h : t.skeleton = k) (hk : s.skeleton.Sound → k.Sound)
    (ht : PhaseTimers s → PhaseTimers t) : KeepsForm s t :=
  ⟨fun hs => (shape_iff_sound t).mpr (h ▸ hk ((shape_iff_sound s).mp hs)), ht⟩

/-! ### Writes to one block -/

/-- A write to the lockout table and to the store, but for the phases of a RESTART. -/
theorem KeepsForm.of_store {s t : State} (L : Lkt) (N : Nvs) (h : t.skeleton = { s.skeleton with lkt := L, nvs := N })
    (hentries : L.entries.length = s.lkt.entries.length) (hqueue : s.lkt.queue.length ≤ 8 → L.queue.length ≤ 8)
    (hslots : N.slots.length = s.nvs.slots.length)
    (htimers : N.phase = s.nvs.phase ∧ N.quietDue = s.nvs.quietDue ∧ N.resetDue = s.nvs.resetDue ∧ N.stopDue = s.nvs.stopDue) :
    KeepsForm s t := by
  refine KeepsForm.of_sound h (fun hk => ?_) (fun hs => ?_)
  · obtain ⟨h1, h2, h3, h4, h5, h6, h7, h8, h9, h10, h11, h12, h13, h14, h15, h16, h17⟩ := hk
    exact ⟨h1, h2, h3, h4, h5, h6, h7, h8, hentries.trans h9, hslots.trans h10, h11, h12, h13, hqueue h14, h15, h16, h17⟩
  · have hn : t.nvs = N := congrArg Skeleton.nvs h
    obtain ⟨hp, hq, hr, hd⟩ := htimers
    rw [PhaseTimers, hn, hp, hq, hr, hd]
    exact hs

theorem KeepsForm.of_lkt {s t : State} (L : Lkt) (h : t.skeleton = { s.skeleton with lkt := L })
    (hentries : L.entries.length = s.lkt.entries.length) (hqueue : s.lkt.queue.length ≤ 8 → L.queue.length ≤ 8) : KeepsForm s t :=
  KeepsForm.of_store L s.nvs h hentries hqueue rfl ⟨rfl, rfl, rfl, rfl⟩

theorem KeepsForm.of_wind {s t : State} (W : Wmn) (h : t.skeleton = { s.skeleton with wmn := W })
    (hmasts : W.masts.length = s.wmn.masts.length)
    (hwindow : (∀ m ∈ s.wmn.masts, m.window.length ≤ 60) → ∀ m ∈ W.masts, m.window.length ≤ 60) : KeepsForm s t := by
  refine KeepsForm.of_sound h (fun hk => ?_) (fun hs => hs.of_nvs (congrArg Skeleton.nvs h))
  obtain ⟨h1, h2, h3, h4, h5, h6, h7, h8, h9, h10, h11, h12, h13, h14, h15, h16, h17⟩ := hk
  exact ⟨h1, h2, h3, hmasts.trans h4, h5, h6, h7, h8, h9, h10, h11, h12, h13, h14, h15, hwindow h16, h17⟩

/-- The number of slew records moves within its bound. -/
theorem KeepsForm.of_records {s t : State} (n : Nat) (h : t.skeleton = { s.skeleton with records := n })
    (hn : s.sls.table.length ≤ 32 → n ≤ 32) : KeepsForm s t := by
  refine KeepsForm.of_sound h (fun hk => ?_) (fun hs => hs.of_nvs (congrArg Skeleton.nvs h))
  obtain ⟨h1, h2, h3, h4, h5, h6, h7, h8, h9, h10, h11, h12, h13, h14, h15, h16, h17⟩ := hk
  exact ⟨h1, h2, h3, h4, h5, h6, h7, h8, h9, h10, h11, h12, hn h13, h14, h15, h16, h17⟩

theorem KeepsForm.of_inbound {s t : State} (q : List Instr) (h : t.skeleton = { s.skeleton with inbound := q })
    (hq : s.oli.inbound.length ≤ 8 → q.length ≤ 8) : KeepsForm s t := by
  refine KeepsForm.of_sound h (fun hk => ?_) (fun hs => hs.of_nvs (congrArg Skeleton.nvs h))
  obtain ⟨h1, h2, h3, h4, h5, h6, h7, h8, h9, h10, h11, h12, h13, h14, h15, h16, h17⟩ := hk
  exact ⟨h1, h2, h3, h4, h5, h6, h7, h8, h9, h10, h11, hq h12, h13, h14, h15, h16, h17⟩

/-- What the bus writes in the skeleton: the transaction in flight, the command count and one move sequence. -/
theorem KeepsForm.of_bus {s t : State} (q : List Nat) (c : Nat) (x : Option Transaction)
    (h : t.skeleton = { s.skeleton with seqs := q, commandCount := c, flight := x }) (hlen : q.length = s.pbc.slots.length)
    (hq : (∀ sl ∈ s.pbc.slots, sl.seq < 16) → ∀ n ∈ q, n < 16) (hc : s.pbc.commandCount ≤ 8 → c ≤ 8) : KeepsForm s t := by
  refine KeepsForm.of_sound h (fun hk => ?_) (fun hs => hs.of_nvs (congrArg Skeleton.nvs h))
  obtain ⟨h1, h2, h3, h4, h5, h6, h7, h8, h9, h10, h11, h12, h13, h14, h15, h16, h17⟩ := hk
  refine ⟨h1, ?_, h3, h4, h5, h6, h7, h8, h9, h10, h11, h12, h13, h14, hc h15, h16, hq ?_⟩
  · simpa [State.skeleton, hlen] using h2
  · simpa [State.skeleton] using h17

/-- The transaction in flight and the command count. -/
theorem KeepsForm.of_flight {s t : State} (c : Nat) (x : Option Transaction)
    (h : t.skeleton = { s.skeleton with commandCount := c, flight := x }) (hc : s.pbc.commandCount ≤ 8 → c ≤ 8) : KeepsForm s t :=
  KeepsForm.of_bus (s.pbc.slots.map Slots.seq) c x h (List.length_map _) (fun hq => by simpa using hq) hc

section
variable (s : State)

/-! ## The lockout table -/

@[simp] theorem setEntry_skeleton (i : Nat) (f : Entry → Entry) : (s.setEntry i f).skeleton =
    { s.skeleton with lkt := { s.skeleton.lkt with entries := s.skeleton.lkt.entries.modify i f } } := raise_skeleton _ _

@[simp] theorem queueOp_skeleton (o : StoreOp) : (s.queueOp o).skeleton =
    { s.skeleton with lkt := { s.skeleton.lkt with queue := s.skeleton.lkt.queue ++ [o] } } := raise_skeleton _ _

@[simp] theorem coverDish_skeleton (kind : LockKind) (motion heat : DishSet) (d : Nat) :
    (s.coverDish kind motion heat d).skeleton = s.skeleton := by simp [State.coverDish]

@[simp] theorem coverAll_skeleton (kind : LockKind) (motion heat : DishSet) (ds : List Nat) :
    (s.coverAll kind motion heat ds).skeleton = s.skeleton := foldl_skeleton _ ds s fun t d => coverDish_skeleton t kind motion heat d

@[simp] theorem uncoverDish_skeleton (motion heat : DishSet) (d : Nat) : (s.uncoverDish motion heat d).skeleton = s.skeleton := by
  simp [State.uncoverDish]

@[simp] theorem uncoverAll_skeleton (motion heat scope : DishSet) : (s.uncoverAll motion heat scope).skeleton = s.skeleton :=
  (trigger_skeleton _).trans (foldl_skeleton _ _ s fun t d => uncoverDish_skeleton t motion heat d)

@[simp] theorem spend_skeleton (i : Nat) (f : Entry → Entry) : (s.spend i f).skeleton =
    { s.skeleton with lkt := { s.skeleton.lkt with
      entries := s.skeleton.lkt.entries.modify i (fun e => { f e with state := .spent, persisted := false }) } } := by
  simp [State.spend]

theorem not_storeFull (h : ¬ s.storeFull = true) : s.lkt.queue.length < 8 := by simpa [State.storeFull] using h

theorem setEntry_keepsForm (i : Nat) (f : Entry → Entry) : KeepsForm s (s.setEntry i f) :=
  KeepsForm.of_lkt { s.lkt with entries := s.lkt.entries.modify i f } (setEntry_skeleton s i f) (by simp) id

/-- An operation joins a queue that is not full (R171). -/
theorem queueOp_keepsForm (o : StoreOp) (h : s.lkt.queue.length < 8) : KeepsForm s (s.queueOp o) :=
  KeepsForm.of_lkt { s.lkt with queue := s.lkt.queue ++ [o] } (queueOp_skeleton s o) rfl
    (fun _ => by simp only [List.length_append, List.length_singleton]; omega)

/-- An entry is written and its operation joins a queue that is not full (R168, R172, R173). -/
theorem setEntry_queueOp_keepsForm (i : Nat) (f : Entry → Entry) (o : StoreOp) (h : s.lkt.queue.length < 8) :
    KeepsForm s ((s.setEntry i f).queueOp o) := by
  have hq : (s.setEntry i f).lkt.queue = s.lkt.queue := congrArg (fun k : Skeleton => k.lkt.queue) (setEntry_skeleton s i f)
  exact (setEntry_keepsForm s i f).trans (queueOp_keepsForm _ o (hq ▸ h))

theorem placeAt_keepsForm (tag : Nat) (k : LockKind) (a : PlaceArgs) (i : Nat) (hf : ¬ s.storeFull = true) :
    KeepsForm s (s.placeAt tag k a i) := by
  have h1 : (if (s.entry i).state == .spent then s.count .spentLost none else s).skeleton = s.skeleton := by simp
  have hq := congrArg (fun k : Skeleton => k.lkt.queue.length) h1
  unfold State.placeAt
  exact (KeepsForm.of_skeleton h1).trans ((setEntry_queueOp_keepsForm _ i _ _ (hq ▸ not_storeFull s hf)).trans
    (KeepsForm.of_skeleton (coverAll_skeleton _ _ _ _ _)))

theorem lockPlaceOf_keepsForm (tag : Nat) (a : PlaceArgs) : KeepsForm s (s.lockPlaceOf tag a).1 := by
  unfold State.lockPlaceOf
  split
  · exact KeepsForm.refl s
  refine KeepsForm.handled (fun _ => KeepsForm.refl s) fun _ => ?_
  split
  · exact KeepsForm.refl s
  split
  · exact KeepsForm.refl s
  next i _ =>
    refine KeepsForm.handled (fun _ => KeepsForm.refl s) fun hf => ?_
    exact placeAt_keepsForm s tag _ a i hf

theorem amendAt_keepsForm (tag i : Nat) (ds : DishSet) (hf : ¬ s.storeFull = true) : KeepsForm s (s.amendAt tag i ds) :=
  (setEntry_queueOp_keepsForm s i _ _ (not_storeFull s hf)).trans (KeepsForm.of_skeleton (coverAll_skeleton _ _ _ _ _))

theorem lockAmendOf_keepsForm (tag i : Nat) (holder : Option Nat) (ds : DishSet) : KeepsForm s (s.lockAmendOf tag i holder ds).1 :=
  KeepsForm.handled (fun _ => KeepsForm.refl s) fun _ => KeepsForm.handled (fun _ => KeepsForm.refl s) fun _ =>
    KeepsForm.handled (fun _ => KeepsForm.refl s) fun _ => KeepsForm.handled (fun _ => KeepsForm.refl s) fun _ =>
      KeepsForm.handled (fun _ => KeepsForm.refl s) fun _ => KeepsForm.handled (fun _ => KeepsForm.refl s) fun _ =>
        KeepsForm.handled (fun _ => KeepsForm.refl s) fun hf => amendAt_keepsForm s tag i ds hf

theorem beginRelease_keepsForm (tag i : Nat) (stamp : Option Nat) (hf : ¬ s.storeFull = true) : KeepsForm s (s.beginRelease tag i stamp) :=
  setEntry_queueOp_keepsForm s i _ _ (not_storeFull s hf)

theorem spend_keepsForm (i : Nat) (f : Entry → Entry) : KeepsForm s (s.spend i f) :=
  (setEntry_keepsForm s i _).trans (KeepsForm.of_skeleton (uncoverAll_skeleton _ _ _ _))

theorem lockReleaseOf_keepsForm (tag i : Nat) (holder stamp : Option Nat) : KeepsForm s (s.lockReleaseOf tag i holder stamp).1 :=
  KeepsForm.handled (fun _ => KeepsForm.refl s) fun _ => KeepsForm.handled (fun _ => KeepsForm.refl s) fun _ =>
    KeepsForm.handled (fun _ => KeepsForm.refl s) fun _ => KeepsForm.handled (fun _ => KeepsForm.refl s) fun _ =>
      KeepsForm.handled
        (fun _ => KeepsForm.handled (fun _ => KeepsForm.refl s) fun hf => beginRelease_keepsForm s tag i stamp hf)
        fun _ => spend_keepsForm s i _

theorem lockRetireOf_keepsForm (i : Nat) : KeepsForm s (s.lockRetireOf i).1 :=
  KeepsForm.handled (fun _ => KeepsForm.refl s) fun _ => KeepsForm.handled (fun _ => KeepsForm.refl s) fun _ => setEntry_keepsForm s i _

theorem estopClearOf_keepsForm : KeepsForm s s.estopClearOf.1 :=
  KeepsForm.handled (fun _ => KeepsForm.refl s) fun _ => KeepsForm.handled (fun _ => KeepsForm.refl s) fun _ =>
    (setEntry_keepsForm s 0 _).trans (KeepsForm.of_skeleton (uncoverAll_skeleton _ _ _ _))

theorem orderAllStop_skeleton : s.orderAllStop.skeleton = s.skeleton := rfl

theorem withLine_keepsForm (b : Bool) : KeepsForm s { s with lkt.estopLevel := b } := KeepsForm.of_lkt _ rfl rfl id

theorem estopAsserted_keepsForm : KeepsForm s s.estopAsserted := by
  have h1 : KeepsForm s ({ s with lkt.estopLevel := true } : State).orderAllStop :=
    (withLine_keepsForm s true).trans (KeepsForm.of_skeleton rfl)
  refine KeepsForm.ite (fun _ => ?_) (fun _ => h1.trans (KeepsForm.of_skeleton (raise_skeleton _ _)))
  exact (h1.trans (setEntry_keepsForm _ 0 _)).trans (KeepsForm.of_skeleton (coverAll_skeleton _ _ _ _ _))

theorem estopDeasserted_keepsForm : KeepsForm s s.estopDeasserted :=
  (withLine_keepsForm s false).trans (KeepsForm.of_skeleton (raise_skeleton _ _))

/-! ## The store -/

theorem settingsSaveOf_keepsForm (tag : Nat) : KeepsForm s (s.settingsSaveOf tag).1 :=
  KeepsForm.handled (fun _ => KeepsForm.refl s) fun _ => KeepsForm.of_store _ _ rfl rfl id rfl ⟨rfl, rfl, rfl, rfl⟩

/-- R207: a RESTART begins in the IDLE phase, where none of its timers is there. -/
theorem restartOf_keepsForm (tag : Nat) (hp : s.nvs.phase = .idle) : KeepsForm s (s.restartOf tag).1 := by
  refine ⟨fun h => h, fun ⟨hq, hr, hd⟩ => ⟨fun h => ?_, fun h => ?_, fun h => ?_⟩⟩
  · simp [hq h] at hp
  · simp [hr h] at hp
  · simp [hd h] at hp

theorem startWrite_keepsForm : KeepsForm s s.startWrite := by
  unfold State.startWrite
  split
  · exact KeepsForm.of_store _ _ (raise_skeleton _ _) rfl (fun h => by simpa using h) rfl ⟨rfl, rfl, rfl, rfl⟩
  · exact KeepsForm.of_store _ _ rfl rfl id rfl ⟨rfl, rfl, rfl, rfl⟩

@[simp] theorem owe_skeleton (o : Option Owed) (r : Result) : (s.owe o r).skeleton = s.skeleton := by
  unfold State.owe
  split <;> rfl

theorem completeOp_keepsForm (o : StoreOp) (result : StoreResult) : KeepsForm s (s.completeOp o result) := by
  unfold State.completeOp
  split
  · exact (setEntry_keepsForm s _ _).trans (KeepsForm.of_skeleton (owe_skeleton _ _ _))
  · exact (spend_keepsForm s _ _).trans (KeepsForm.of_skeleton (owe_skeleton _ _ _))
  · exact KeepsForm.of_skeleton (by simp)

theorem takeWriteBack_keepsForm : KeepsForm s s.takeWriteBack := by
  unfold State.takeWriteBack
  split
  next i rest _ =>
    have h1 : KeepsForm s { s with lkt.writeBacks := rest } := KeepsForm.of_lkt _ rfl rfl id
    exact KeepsForm.ite (fun hlt => h1.trans (queueOp_keepsForm _ _ hlt)) (fun _ => KeepsForm.refl s)
  · exact KeepsForm.refl s

theorem lockComplete_keepsForm (i : Nat) (c : Slot) (result : StoreResult) : KeepsForm s (s.lockComplete i c result) := by
  have h1 : KeepsForm s { s with nvs.path := .free, nvs.slots := tmod s.nvs.slots i (fun old => old.after c result),
                                 lkt.queue := s.lkt.queue.filter (fun o => o.index != i) } :=
    KeepsForm.of_store _ _ rfl rfl (fun h => (List.length_filter_le _ _).trans h) (by simp) ⟨rfl, rfl, rfl, rfl⟩
  unfold State.lockComplete
  simp only
  split
  · exact (h1.trans (completeOp_keepsForm _ _ _)).trans (takeWriteBack_keepsForm _)
  · exact h1

theorem saveComplete_keepsForm (st : Settings) (crc : BitVec 16) (result : StoreResult) : KeepsForm s (s.saveComplete st crc result) :=
  KeepsForm.of_store _ _ (owe_skeleton _ _ _) rfl id rfl ⟨rfl, rfl, rfl, rfl⟩

/-! ## Slews, groups and banks -/

theorem acceptSlew_keepsForm (mode : SlewMode) (sel : Selector) (a : SlewArgs) (ms : List HostMember) (h : s.sls.table.length < 32) :
    KeepsForm s (s.acceptSlew mode sel a ms).1 := by
  refine KeepsForm.of_records (s.sls.table.length + 1) ?_ (fun _ => h)
  unfold State.acceptSlew
  refine (monitorCreated_skeleton _ _ _).trans ((countExcusals_skeleton _ ms).trans ((trigger_skeleton _).trans
    ((foldl_skeleton _ _ _ fun t d => ?_).trans ?_)))
  · simp [State.claimFor]
  · simp [State.skeleton]

theorem requestSlew_keepsForm (mode : SlewMode) (sel : Selector) (ds : List Nat) (a : SlewArgs) :
    KeepsForm s (s.requestSlew mode sel ds a).1 :=
  KeepsForm.handled (fun _ => KeepsForm.refl s) fun _ => KeepsForm.handled (fun _ => KeepsForm.refl s) fun _ =>
    KeepsForm.handled (fun _ => KeepsForm.refl s) fun hn => KeepsForm.handled
      (fun _ => KeepsForm.of_skeleton (countExcusals_skeleton s _)) fun _ => acceptSlew_keepsForm s mode sel a _ (by omega)

theorem slewOf_keepsForm (d : Nat) (a : SlewArgs) : KeepsForm s (s.slewOf d a).1 :=
  KeepsForm.handled (fun _ => KeepsForm.refl s) fun _ => requestSlew_keepsForm s _ _ _ a

theorem jointSlewOf_keepsForm (sel : Selector) (mode : Nat) (a : SlewArgs) : KeepsForm s (s.jointSlewOf sel mode a).1 := by
  unfold State.jointSlewOf
  split
  · exact requestSlew_keepsForm s _ _ _ a
  · exact KeepsForm.refl s

theorem groupSetOf_keepsForm (n : Nat) (ds : DishSet) : KeepsForm s (s.groupSetOf n ds).1 :=
  KeepsForm.handled (fun _ => KeepsForm.refl s) fun _ => ⟨fun h => by simpa [Shape, State.answer] using h, fun h => h⟩

theorem writeRow_keepsForm (k : Bank) (z : Nat) (r : Row) : KeepsForm s (s.writeRow k z r) := by
  cases k <;> exact ⟨fun h => by simpa [Shape, State.writeRow] using h, fun h => h⟩

theorem bankWriteOf_keepsForm (b z : Nat) (r : Row) : KeepsForm s (s.bankWriteOf b z r).1 := by
  unfold State.bankWriteOf
  split
  · exact KeepsForm.refl s
  next k _ =>
    exact KeepsForm.handled (fun _ => KeepsForm.refl s) fun _ => KeepsForm.handled (fun _ => KeepsForm.refl s) fun _ =>
      (writeRow_keepsForm s k z r).trans (KeepsForm.of_skeleton (by simp))

/-! ## Masts -/

/-- A write to a mast record that keeps its window within 60 samples (R55). -/
theorem modMast_keepsForm (m : Nat) (f : Mast → Mast) (hf : ∀ x : Mast, x.window.length ≤ 60 → (f x).window.length ≤ 60) :
    KeepsForm s (s.modMast m f) := by
  refine KeepsForm.of_wind { masts := tmod s.wmn.masts m f } rfl (length_tmod _ _ _) fun h x hx => ?_
  cases m with
  | zero => exact h x hx
  | succ k =>
    obtain ⟨i, hi, rfl⟩ := List.getElem_of_mem hx
    have hi' : i < s.wmn.masts.length := by simpa [tmod] using hi
    simp only [tmod, List.getElem_modify]
    split
    · exact hf _ (h _ (List.getElem_mem hi'))
    · exact h _ (List.getElem_mem hi')

theorem length_pushSample (w : List Nat) (v : Nat) (h : w.length ≤ 60) : (pushSample w v).length ≤ 60 := by
  unfold pushSample
  split <;> simp <;> omega

theorem length_window_sample (x : Mast) (v : Nat) (h : x.window.length ≤ 60) : (x.sample v).window.length ≤ 60 := by
  have hp := length_pushSample x.window v h
  unfold Mast.sample
  simp only
  split
  · split <;> exact hp
  · exact hp
  · split <;> exact hp

theorem length_window_miss (x : Mast) (h : x.window.length ≤ 60) : x.miss.window.length ≤ 60 := by
  unfold Mast.miss
  simp only
  split
  · exact Nat.zero_le _
  · split
    · exact Nat.zero_le _
    · exact h

/-- A mast event is the write to its mast record, at the skeleton. -/
theorem mastEvent_skeleton (m : Nat) (added : Bool) (f : Mast → Mast) : (s.mastEvent m added f).skeleton = (s.modMast m f).skeleton := by
  have hsync (t : State) : t.syncStale.skeleton = t.skeleton := rfl
  simp [State.mastEvent, hsync]

theorem mastEvent_keepsForm (m : Nat) (added : Bool) (f : Mast → Mast)
    (hf : ∀ x : Mast, x.window.length ≤ 60 → (f x).window.length ≤ 60) : KeepsForm s (s.mastEvent m added f) :=
  (modMast_keepsForm s m f hf).trans (KeepsForm.of_skeleton (mastEvent_skeleton s m added f))

theorem rejectMast_keepsForm (m : Nat) : KeepsForm s (s.rejectMast m) := modMast_keepsForm s m _ fun _ h => h

theorem acceptMast_keepsForm (m seq n : Nat) (st : MastReport) : KeepsForm s (s.acceptMast m seq n st) := by
  have h1 := modMast_keepsForm s m
    (fun r => { r with lastSeq := some seq, lastReport := some st, lastTime := some s.now, slotDue := s.now + 1500 }) fun _ h => h
  unfold State.acceptMast
  exact KeepsForm.ite (fun _ => h1.trans (mastEvent_keepsForm _ m true _ fun x h => length_window_sample x _ h))
    (fun _ => h1.trans (mastEvent_keepsForm _ m false _ length_window_miss))

theorem takeMastFrame_keepsForm (m : Nat) (bytes : List Byte) : KeepsForm s (s.takeMastFrame m bytes) := by
  unfold State.takeMastFrame
  simp only
  split
  · exact rejectMast_keepsForm s m
  split
  · exact rejectMast_keepsForm s m
  split
  · exact modMast_keepsForm s m _ fun _ h => h
  · exact acceptMast_keepsForm s m _ _ _

theorem missedSlot_keepsForm (m : Nat) : KeepsForm s (s.missedSlot m) :=
  (modMast_keepsForm s m (fun r => { r with slotDue := s.now + 1000 }) fun _ h => h).trans
    (mastEvent_keepsForm _ m false _ length_window_miss)

theorem mastSetOf_keepsForm (m : Nat) (gain offset : Option Nat) : KeepsForm s (s.mastSetOf m gain offset).1 :=
  KeepsForm.handled (fun _ => KeepsForm.refl s) fun _ => modMast_keepsForm s m _ fun _ h => h

theorem mastStatusOf_keepsForm (m : Mask) (window : Bool) : KeepsForm s (s.mastStatusOf m window).1 :=
  KeepsForm.handled (fun _ => KeepsForm.refl s) fun _ => KeepsForm.handled (fun _ => KeepsForm.refl s) fun _ =>
    List.foldlRecOn (motive := KeepsForm s) (bitsOf m 4 1) _ (KeepsForm.refl s) fun t ht k _ =>
      ht.trans (modMast_keepsForm t k _ fun _ h => h)

/-! ## The Observatory link -/

theorem refuseArrival_skeleton (kind tag : Nat) (why : Reason) : (s.refuseArrival kind tag why).skeleton = s.skeleton := by
  unfold State.refuseArrival
  split <;> rfl

theorem dropFrame_skeleton (cause : DropCause) : (s.dropFrame cause).skeleton = s.skeleton := by cases cause <;> rfl

theorem join_inbound (o : Oli) (c : Instr) : (o.join c).inbound = o.inbound ++ [c] := by
  unfold Oli.join
  simp only
  split <;> rfl

theorem arrive_keepsForm (kind tag : Nat) (body : List Byte) : KeepsForm s (s.arrive kind tag body) := by
  unfold State.arrive
  simp only
  split
  · exact KeepsForm.of_skeleton rfl
  split
  · exact KeepsForm.of_skeleton (refuseArrival_skeleton _ _ _ _)
  split
  · exact KeepsForm.of_skeleton (refuseArrival_skeleton _ _ _ _)
  split
  · exact KeepsForm.of_skeleton (refuseArrival_skeleton _ _ _ _)
  next c _ hn =>
    refine KeepsForm.of_inbound (s.oli.inbound ++ [c]) ?_ (fun _ => ?_)
    · rw [State.skeleton, join_inbound]
      rfl
    · simp only [List.length_append, List.length_singleton]
      omega

theorem frameIn_keepsForm (kind tag : Byte) (body : List Byte) (crc : BitVec 16) : KeepsForm s (s.frameIn kind tag body crc) :=
  KeepsForm.ite (fun _ => KeepsForm.of_skeleton (dropFrame_skeleton s _)) fun _ =>
    KeepsForm.ite (fun _ => KeepsForm.of_skeleton (dropFrame_skeleton s _)) fun _ => arrive_keepsForm s _ _ _

theorem freeRecord_keepsForm (k : NoticeKey) : KeepsForm s (s.freeRecord k) := by
  unfold State.freeRecord
  split
  · exact KeepsForm.of_records _ rfl fun h => (List.length_filter_le _ _).trans h
  · exact KeepsForm.refl s

theorem withLink_keepsForm (o : Oli) (h : o.inbound = s.oli.inbound) : KeepsForm s { s with oli := o } :=
  KeepsForm.of_skeleton (by rw [State.skeleton, State.skeleton, h])

theorem sent_keepsForm (out : Outgoing) : KeepsForm s (s.sent out) := by
  cases out with
  | flow _ => exact KeepsForm.refl s
  | reply _ _ => exact withLink_keepsForm s _ rfl
  | notice k _ live =>
    cases live with
    | true =>
      refine KeepsForm.trans ?_ (freeRecord_keepsForm _ k)
      exact withLink_keepsForm s _ rfl
    | false => exact withLink_keepsForm s _ rfl

theorem frameEnd_keepsForm : KeepsForm s s.frameEnd := by
  unfold State.frameEnd
  split
  · exact KeepsForm.refl s
  · split
    · exact withLink_keepsForm s _ rfl
    · refine KeepsForm.trans ?_ (sent_keepsForm _ _)
      exact withLink_keepsForm s _ rfl

end

end Sys2Proof.Machine
end

section
-- One declaration at a time: the check bounds memory, and every thread in flight takes its stack from it.
set_option Elab.async false

/-! O4: the shape, and with it the phases of the RESTART timers, after every step. -/

namespace Sys2Proof.Machine

open Sys2Proof.Claims

section
variable (s : State)

/-! ## The bus -/

@[simp] theorem countRetry_skeleton : s.countRetry.skeleton = s.skeleton := count_skeleton _ _ _

theorem putInFlight_keepsForm (k : TxKind) (station : Nat) (frame : List PlChar) : KeepsForm s (s.putInFlight k station frame) :=
  KeepsForm.of_flight _ _ rfl id

/-- R208: an ALL_STOP burst in QUIET takes the quiet timer away; in any other phase it finds none. -/
theorem startAllStop_keepsForm : KeepsForm s s.startAllStop := by
  have h1 : KeepsForm s { s with
      pbc.allStop := false, nvs.quietDue := if s.nvs.phase == RestartPhase.quiet then none else s.nvs.quietDue } := by
    refine ⟨fun h => h, fun ⟨hq, hr, hd⟩ => ⟨fun h => ?_, hr, hd⟩⟩
    by_cases hp : s.nvs.phase = .quiet
    · exact hp
    · simp only [beq_iff_eq, hp, if_false] at h
      exact hq h
  exact h1.trans (putInFlight_keepsForm _ _ _ _)

@[simp] theorem startRound_skeleton : s.startRound.skeleton = s.skeleton := by
  simp [State.skeleton, State.startRound, Function.comp_def]

theorem startPoll_keepsForm : KeepsForm s s.startPoll := by
  have polled (t : State) (n d : Nat) (ht : t.skeleton = s.skeleton) :
      KeepsForm s (({ t with pbc.pollPtr := n } : State).putInFlight .poll d (plFrame d 0x01 [])) :=
    (KeepsForm.of_skeleton (t := { t with pbc.pollPtr := n }) ht).trans (putInFlight_keepsForm _ _ _ _)
  unfold State.startPoll State.choosePoll
  cases s.pollTarget with
  | some d => exact polled s _ _ rfl
  | none =>
    dsimp only
    cases s.startRound.pollTarget with
    | some d => exact polled _ _ _ (startRound_skeleton s)
    | none => exact KeepsForm.refl s

theorem startStop_keepsForm (d : Nat) : KeepsForm s (s.startStop d) := by
  have h1 := modSlots_skeleton s d (fun sl => { sl with stopPending := none, stopFlight := some false }) rfl
  unfold State.startStop
  refine (KeepsForm.of_skeleton ?_).trans (putInFlight_keepsForm _ _ _ _)
  simp [h1]

theorem mem_tmod {α : Type} {l : List α} {n : Nat} {f : α → α} {y : α} (h : y ∈ tmod l n f) : y ∈ l ∨ ∃ x ∈ l, y = f x := by
  cases n with
  | zero => exact .inl h
  | succ k =>
    obtain ⟨i, hi, rfl⟩ := List.getElem_of_mem h
    have hi' : i < l.length := by simpa [tmod] using hi
    simp only [tmod, List.getElem_modify]
    split
    · exact .inr ⟨_, List.getElem_mem hi', rfl⟩
    · exact .inl (List.getElem_mem hi')

/-- R43: a move sequence below 16. -/
theorem advanceSeq_keepsForm (d n : Nat) (hn : n < 16) : KeepsForm s (s.modSlots d (fun sl => { sl with seq := n })) := by
  refine KeepsForm.of_bus ((tmod s.pbc.slots d (fun sl => { sl with seq := n })).map (·.seq)) _ _ rfl (by simp) (fun h q hq => ?_) id
  obtain ⟨sl, hsl, rfl⟩ := List.mem_map.mp hq
  rcases mem_tmod hsl with hm | ⟨x, -, rfl⟩
  · exact h sl hm
  · exact hn

theorem startMove_keepsForm (d : Nat) : KeepsForm s (s.startMove d) := by
  unfold State.startMove
  split
  · exact KeepsForm.refl s
  next p _ =>
    have h1 := modSlots_skeleton s d (fun sl => { sl with
      movePending := none, moveFlight := some { cmd := p.cmd, attempts := p.attempts + 1, withdrawn := false } }) rfl
    have h2 : KeepsForm s (if p.isRetry then (s.modSlots d (fun sl => { sl with
        movePending := none, moveFlight := some { cmd := p.cmd, attempts := p.attempts + 1, withdrawn := false } })).countRetry
      else s.modSlots d (fun sl => { sl with
        movePending := none, moveFlight := some { cmd := p.cmd, attempts := p.attempts + 1, withdrawn := false } })) :=
      KeepsForm.of_skeleton (by simp [h1])
    dsimp only
    split
    · exact h2.trans (putInFlight_keepsForm _ _ _ _)
    · exact (h2.trans (advanceSeq_keepsForm _ d _ (Nat.mod_lt _ (by omega)))).trans (putInFlight_keepsForm _ _ _ _)

theorem startHeat_keepsForm (d : Nat) : KeepsForm s (s.startHeat d) := by
  unfold State.startHeat
  split
  · exact KeepsForm.refl s
  next p _ =>
    have h1 := modSlots_skeleton s d (fun sl => { sl with heatPending := none, heatFlight := some { stage := p.stage, withdrawn := false } }) rfl
    refine (KeepsForm.of_skeleton ?_).trans (putInFlight_keepsForm _ _ _ _)
    simp [h1]

theorem startTransaction_keepsForm : KeepsForm s s.startTransaction := by
  refine KeepsForm.ite (fun _ => startAllStop_keepsForm s) fun _ => KeepsForm.ite (fun _ => ?_) fun _ =>
    KeepsForm.ite (fun _ => startPoll_keepsForm s) fun _ => ?_
  · refine KeepsForm.trans ?_ (putInFlight_keepsForm _ _ _ _)
    exact KeepsForm.of_skeleton rfl
  · split
    · exact startStop_keepsForm s _
    split
    · exact startMove_keepsForm s _
    split
    · exact startHeat_keepsForm s _
    · exact startPoll_keepsForm s

/-! ## The reset and the end of a transaction -/

/-- A store in which no RESTART timer is there. -/
theorem phaseTimers_of_none {t : State} (hq : t.nvs.quietDue = none) (hr : t.nvs.resetDue = false) (hd : t.nvs.stopDue = none) :
    PhaseTimers t := by
  simp [PhaseTimers, hq, hr, hd]

theorem restartReset_phaseTimers : PhaseTimers s.restartReset := phaseTimers_of_none rfl rfl rfl

theorem length_heatersAtReset (ds : List Dish) (b : DishSet) : (heatersAtReset ds b).length = ds.length := by
  simp [heatersAtReset]

theorem restartReset_keepsForm : KeepsForm s s.restartReset := by
  refine ⟨fun h => ?_, fun _ => restartReset_phaseTimers s⟩
  obtain ⟨h1, h2, h3, h4, h5, h6, h7, h8, h9, h10, h11, h12, h13, h14, h15, h16, h17⟩ := h
  refine ⟨?_, ?_, ?_, h4, ?_, h6, h7, h8, h9, h10, ?_, ?_, ?_, h14, ?_, h16, ?_⟩
  all_goals simp [State.restartReset, State.syncStale, State.syncStowOrder, pbcAtPowerUp, length_heatersAtReset, Act.restarted,
    actAtPowerUp, Oli.restarted, h1, h5]

theorem afterTransaction_keepsForm : KeepsForm s s.afterTransaction := by
  refine KeepsForm.ite (fun hp => KeepsForm.ite (fun _ => restartReset_keepsForm s) fun _ => KeepsForm.ite (fun _ => ?_) fun _ =>
    KeepsForm.refl s) fun _ => KeepsForm.refl s
  have hq : s.nvs.phase = .quiet := by simpa using hp
  exact ⟨fun h => h, fun ⟨_, hr, hd⟩ => ⟨fun _ => hq, hr, hd⟩⟩

@[simp] theorem endOf_seq (sl : Slots) (k : TxKind) (valid : Bool) (m : Nat) : (sl.endOf k valid m).1.seq = sl.seq := by
  have move : (sl.endMove valid m).1.seq = sl.seq := by
    unfold Slots.endMove
    split
    · rfl
    · simp only
      split
      · rfl
      · split <;> rfl
  have stop : (sl.endStop valid m).seq = sl.seq := by
    unfold Slots.endStop
    split
    · rfl
    · split <;> rfl
  have heat : (sl.endHeat valid m).seq = sl.seq := by
    unfold Slots.endHeat
    split
    · rfl
    · simp only
      split <;> rfl
  cases k with
  | move _ => exact move
  | home => exact move
  | stop => exact stop
  | heat _ => exact heat
  | poll => rfl
  | allStop => rfl
  | heatAllOff => rfl

theorem clearFlight_keepsForm : KeepsForm s s.clearFlight :=
  KeepsForm.of_flight _ _ rfl id

/-- What the end of an addressed transaction leaves of the skeleton, before what DSV does with it (R39). -/
theorem ended_keepsForm (x : Transaction) (valid : Bool) : KeepsForm s (s.ended x valid) := by
  have h1 : KeepsForm s (s.modSlots x.station (fun _ => s.slotsAfter x valid)) :=
    KeepsForm.of_skeleton (modSlots_skeleton s _ _ (endOf_seq _ _ _ _))
  have count (t : State) : KeepsForm t (t.countCommand x.kind) := by
    refine KeepsForm.of_flight (if x.kind = .poll then 0 else min 8 (t.pbc.commandCount + 1)) _ rfl fun _ => ?_
    split <;> omega
  have h2 := (h1.trans (clearFlight_keepsForm _)).trans (count _)
  unfold State.ended
  exact KeepsForm.ite (fun _ => h2.trans (KeepsForm.of_skeleton rfl)) (fun _ => h2)

@[simp] theorem withdrawalStop_skeleton (d : Nat) : (s.withdrawalStop d).skeleton = s.skeleton := (withdrawalStop_changes s d).skeleton

@[simp] theorem countMiss_skeleton (k : MissKind) : (s.countMiss k).skeleton = s.skeleton := by
  cases k <;> exact count_skeleton _ _ _

theorem endAddressed_keepsForm (x : Transaction) (e : Ending) : KeepsForm s (s.endAddressed x e) := by
  cases e with
  | valid st r =>
    rw [endAddressed_valid]
    exact ((ended_keepsForm s x true).trans (KeepsForm.of_skeleton (by simp))).trans (afterTransaction_keepsForm _)
  | miss k =>
    rw [endAddressed_miss]
    exact ((ended_keepsForm s x false).trans (KeepsForm.of_skeleton (by simp))).trans (afterTransaction_keepsForm _)

/-! ## The end of an event -/

theorem transmit_skeleton : s.transmit.skeleton = s.skeleton := by
  obtain ⟨x, fp, lf, ht, -⟩ := transmit_frame s
  rw [ht]
  rfl

theorem orderHeatAllOff_skeleton : s.orderHeatAllOff.skeleton = s.skeleton := by
  simp [State.skeleton, State.orderHeatAllOff, Function.comp_def, Slots.removeMove, Slots.removeHeat]

/-- The stop orders with which STOPPING begins (R208). -/
def State.arrayStopped (s : State) : State :=
  s.orderAllStop.orderHeatAllOff.dishNumbers.foldl (fun t d => t.stopOrder d .stoppedByHost) s.orderAllStop.orderHeatAllOff

theorem enterStopping_eq : s.enterStopping =
    { s.arrayStopped with nvs.phase := .stopping, nvs.stopDue := some (s.arrayStopped.now + 10000) } := rfl

theorem arrayStopped_skeleton : s.arrayStopped.skeleton = s.skeleton :=
  (foldl_skeleton _ _ _ fun t d => stopOrder_skeleton t d _).trans (orderHeatAllOff_skeleton s.orderAllStop)

theorem enterStopping_keepsForm (hp : s.nvs.phase = .draining) : KeepsForm s s.enterStopping := by
  have h1 := KeepsForm.of_skeleton (arrayStopped_skeleton s)
  rw [enterStopping_eq]
  refine ⟨fun h => h1.shape h, fun h => ?_⟩
  have hn := nvs_of_skeleton (arrayStopped_skeleton s)
  obtain ⟨hq, hr, -⟩ := h1.timers h
  rw [hn] at hq hr
  refine ⟨fun hx => ?_, fun hx => ?_, fun _ => rfl⟩
  · simp [hq (hn ▸ hx)] at hp
  · simp [hr (hn ▸ hx)] at hp

theorem enterQuiet_keepsForm : KeepsForm s s.enterQuiet :=
  ⟨fun h => h, fun _ => ⟨fun _ => rfl, fun _ => rfl, fun h => absurd h (by simp [State.enterQuiet])⟩⟩

theorem restartProgress_keepsForm : KeepsForm s s.restartProgress := by
  have h1 : KeepsForm s (if s.nvs.phase == .draining && s.drained then s.enterStopping else s) :=
    KeepsForm.ite (fun h => enterStopping_keepsForm s (by simp_all)) (fun _ => KeepsForm.refl s)
  exact KeepsForm.ite (fun _ => h1.trans (enterQuiet_keepsForm _)) (fun _ => h1)

theorem finish_keepsForm : KeepsForm s s.finish :=
  (restartProgress_keepsForm s).trans (KeepsForm.of_skeleton (transmit_skeleton _))

theorem begin_keepsForm : KeepsForm s s.begin := ⟨fun h => h, fun h => h⟩

theorem beginAt_keepsForm (due : Nat) : KeepsForm s (s.beginAt due) := ⟨fun h => h, fun h => h⟩

theorem onEvent_keepsForm (occurs : Bool) (f : State → State) (hf : ∀ t, KeepsForm t (f t)) : KeepsForm s (s.onEvent occurs f) :=
  KeepsForm.ite (fun _ => ((begin_keepsForm s).trans (hf _)).trans (finish_keepsForm _)) (fun _ => KeepsForm.refl s)

theorem onEvent_keepsForm_of_skeleton (occurs : Bool) (f : State → State) (hf : ∀ t, (f t).skeleton = t.skeleton) :
    KeepsForm s (s.onEvent occurs f) := onEvent_keepsForm s occurs f fun t => KeepsForm.of_skeleton (hf t)

theorem onTimer_keepsForm (due : Option Nat) (f : State → State) 
    (hf : ∀ x, due = some x → KeepsForm (s.beginAt x) (f (s.beginAt x))) : KeepsForm s (s.onTimer due f) := by
  unfold State.onTimer
  split
  · exact KeepsForm.ite (fun _ => ((beginAt_keepsForm s _).trans (hf _ rfl)).trans (finish_keepsForm _)) (fun _ => KeepsForm.refl s)
  · exact KeepsForm.refl s

theorem onTimer_keepsForm_of_skeleton (due : Option Nat) (f : State → State) (hf : ∀ t, (f t).skeleton = t.skeleton) :
    KeepsForm s (s.onTimer due f) := onTimer_keepsForm s due f fun _ _ => KeepsForm.of_skeleton (hf _)

theorem handOver_keepsForm (c : Instr) (b : Bool) (owner : State → Handled)
    (ho : b = true ∨ s.nvs.phase = .idle → KeepsForm s (owner s).1) : KeepsForm s (s.handOver c b owner) := by
  unfold State.handOver
  split
  · exact KeepsForm.refl s
  · refine KeepsForm.ite (fun _ => KeepsForm.of_skeleton rfl) (fun hb => ?_)
    have hx := ho (by
      cases b with
      | true => exact .inl rfl
      | false => exact .inr (by simpa using hb))
    split
    next ht => rw [ht] at hx; exact hx.trans (KeepsForm.of_skeleton rfl)
    next ht => rw [ht] at hx; exact hx

theorem queued_keepsForm (c : Instr) : KeepsForm s (s.queued c) :=
  KeepsForm.ite (fun _ => KeepsForm.of_inbound [c] rfl (fun _ => by simp)) (fun _ => KeepsForm.refl s)

theorem taken_keepsForm : KeepsForm s s.taken :=
  (KeepsForm.of_inbound (t := { s with oli := s.oli.leave }) s.oli.inbound.tail (by rw [State.skeleton, leave_inbound]; rfl)
    (fun h => by rw [List.length_tail]; omega)).trans (begin_keepsForm _)

/-- A request that its owner takes in the IDLE phase, or always. -/
theorem onRequest_keepsForm (c : Instr) (owner : State → Handled) (b : Bool)
    (ho : ∀ t, (b = true ∨ t.nvs.phase = .idle) → KeepsForm t (owner t).1) : KeepsForm s (s.onRequest c owner b) :=
  KeepsForm.ite (fun _ => (((queued_keepsForm s c).trans (taken_keepsForm _)).trans (handOver_keepsForm _ c b owner (ho _))).trans
    (finish_keepsForm _)) (fun _ => KeepsForm.refl s)

theorem onRequest_keepsForm_of_skeleton (c : Instr) (owner : State → Handled) (b : Bool) (ho : ∀ t, (owner t).1.skeleton = t.skeleton) :
    KeepsForm s (s.onRequest c owner b) := onRequest_keepsForm s c owner b fun t _ => KeepsForm.of_skeleton (ho t)

/-! ## Power -/

/-- The lists of the settings that power-up takes have the sizes of the tables: the image is checked for them (R203). -/
theorem read_sizes (area : SettingsArea) : area.read.1.dishes.length = 48 ∧ area.read.1.masts.length = 4 ∧ area.read.1.zones.length = 8
    ∧ area.read.1.bankA.length = 8 ∧ area.read.1.bankB.length = 8 ∧ area.read.1.groups.length = 16 := by
  have hdefault : defaultSettings.dishes.length = 48 ∧ defaultSettings.masts.length = 4 ∧ defaultSettings.zones.length = 8
      ∧ defaultSettings.bankA.length = 8 ∧ defaultSettings.bankB.length = 8 ∧ defaultSettings.groups.length = 16 := by decide
  cases area with
  | damaged => exact hdefault
  | image st crc =>
    rw [show SettingsArea.read (.image st crc)
      = if crc == imageCrc st && settingsOk st then (st, false) else (defaultSettings, true) from rfl]
    split
    next h =>
      simp only [settingsOk, Bool.and_eq_true, beq_iff_eq] at h
      obtain ⟨-, ⟨⟨⟨⟨⟨⟨⟨⟨⟨⟨⟨⟨⟨⟨⟨hd, -⟩, -⟩, -⟩, -⟩, -⟩, hm⟩, -⟩, hz⟩, -⟩, ha⟩, -⟩, hb⟩, -⟩, hg⟩, -⟩, -⟩ := h
      exact ⟨hd, hm, hz, ha, hb, hg⟩
    · exact hdefault

/-- A part that loads settings of the tables' sizes over 63 lockout slots has the shape. -/
theorem loaded_shape (st : Settings) (nvs : Nvs) (estop : Bool) (q : List Instr)
    (hst : st.dishes.length = 48 ∧ st.masts.length = 4 ∧ st.zones.length = 8 ∧ st.bankA.length = 8 ∧ st.bankB.length = 8
      ∧ st.groups.length = 16) (hslots : nvs.slots.length = 63) : Shape (State.loaded st nvs estop q) := by
  obtain ⟨hd, hm, hz, ha, hb, hg⟩ := hst
  refine ⟨?_, ?_, ?_, ?_, ?_, ha, hb, hg, ?_, hslots, ?_, ?_, ?_, ?_, ?_, ?_, ?_⟩
  all_goals simp [State.loaded, dsvAtPowerUp, pbcAtPowerUp, wmnAtPowerUp, zncAtPowerUp, slsAtPowerUp, actAtPowerUp, oliAtPowerUp, lktAtPowerUp,
    entriesAtPowerUp, length_heatersAtReset, hd, hm, hz, hslots]

theorem powerUp_keepsForm (estop : Bool) : KeepsForm s (s.powerUp estop) := by
  refine ⟨fun h => loaded_shape _ _ _ _ (read_sizes s.nvs.area) ?_, fun _ => phaseTimers_of_none rfl rfl rfl⟩
  obtain ⟨-, -, -, -, -, -, -, -, -, h10, -⟩ := h
  exact h10

theorem length_abandoned (n : Nvs) (remains : WriteRemains) : (n.abandoned remains).2.length = n.slots.length := by
  unfold Nvs.abandoned
  split <;> simp

theorem inactive_keepsForm (remains : WriteRemains) :
    KeepsForm s (State.inactive (s.nvs.abandoned remains).1 (s.nvs.abandoned remains).2 s.pending) := by
  refine ⟨fun h => ?_, fun _ => phaseTimers_of_none rfl rfl rfl⟩
  obtain ⟨-, -, -, -, -, -, -, -, -, h10, -⟩ := h
  obtain ⟨h1, h2, -, h4, h5, h6, h7, h8, -, h10', h11, h12, h13, -, h15, h16, h17⟩ := loaded_shape defaultSettings
    { area := (s.nvs.abandoned remains).1, slots := (s.nvs.abandoned remains).2 } false s.pending (read_sizes .damaged)
    ((length_abandoned _ _).trans h10)
  exact ⟨h1, h2, List.length_replicate, h4, h5, h6, h7, h8, List.length_replicate, h10', h11, h12, h13, Nat.zero_le _, h15, h16, h17⟩

/-! ## Every command -/

/-- R209: the quiet timer runs in QUIET alone, so the reset that it makes due is due in QUIET (R49). -/
theorem quietExpires_keepsForm (hq : s.nvs.quietDue.isSome = true) : KeepsForm s s.quietExpires := by
  refine KeepsForm.ite (fun _ => ⟨fun h => h, fun ⟨hp, hr, hd⟩ => ⟨fun h => absurd h (by simp), fun _ => hp hq, hd⟩⟩)
    (fun _ => restartReset_keepsForm s)

/-- What is said of the state of an outcome is said of the state that the step goes to. -/
theorem next_keepsForm {u t : State} (ht : (Host.Outcome.next u : Step) = .next t) (hu : KeepsForm s u) : KeepsForm s t := by
  injection ht with ht
  exact ht ▸ hu

theorem plReply_keepsForm (chars : List PlChar) {t : State} (ht : execPlReplyReceived chars s = .next t) : KeepsForm s t := by
  refine next_keepsForm s ht ?_
  split
  · exact onTimer_keepsForm s _ _ fun _ _ => endAddressed_keepsForm _ _ _
  · exact KeepsForm.refl s

theorem plWindow_keepsForm {t : State} (ht : execPlReplyWindowExpiry s = .next t) : KeepsForm s t := by
  refine next_keepsForm s ht ?_
  split
  · exact onTimer_keepsForm s _ _ fun _ _ => endAddressed_keepsForm _ _ _
  · exact KeepsForm.refl s

theorem plGap_keepsForm (chars : List PlChar) {t : State} (ht : execPlReplyGap chars s = .next t) : KeepsForm s t := by
  refine next_keepsForm s ht ?_
  split
  · exact onTimer_keepsForm s _ _ fun _ _ => endAddressed_keepsForm _ _ _
  · exact KeepsForm.refl s

theorem lockStore_keepsForm (r : StoreResult) {t : State} (ht : execLockStoreComplete r s = .next t) : KeepsForm s t := by
  refine next_keepsForm s ht ?_
  split
  · exact onEvent_keepsForm s _ _ fun u => lockComplete_keepsForm u _ _ _
  · exact KeepsForm.refl s

theorem settingsStore_keepsForm (r : StoreResult) {t : State} (ht : execSettingsSaveComplete r s = .next t) : KeepsForm s t := by
  refine next_keepsForm s ht ?_
  split
  · exact onEvent_keepsForm s _ _ fun u => saveComplete_keepsForm u _ _ _
  · exact KeepsForm.refl s

theorem exec_keepsForm (c : Instr) {t : State} (ht : exec c s = .next t) : KeepsForm s t := by
  cases c with
  | powerUp x => exact next_keepsForm s ht (KeepsForm.ite (fun _ => KeepsForm.refl s) fun _ => (powerUp_keepsForm s x).trans (finish_keepsForm _))
  | powerFail x => exact next_keepsForm s ht (KeepsForm.ite (fun _ => inactive_keepsForm s x) fun _ => KeepsForm.refl s)
  | olFrameArrival x y z u => exact next_keepsForm s ht (onEvent_keepsForm s _ _ fun t => frameIn_keepsForm t x y z u)
  | olFrameDrop x => exact next_keepsForm s ht (onEvent_keepsForm_of_skeleton s _ _ fun t => dropFrame_skeleton t x)
  | olRxGapTimeout => exact next_keepsForm s ht (onEvent_keepsForm_of_skeleton s _ _ fun _ => rfl)
  | olFrameSent => exact next_keepsForm s ht (onEvent_keepsForm s _ _ frameEnd_keepsForm)
  | identify x => exact next_keepsForm s ht (onRequest_keepsForm_of_skeleton s _ _ _ fun _ => rfl)
  | linkStatus x => exact next_keepsForm s ht (onRequest_keepsForm_of_skeleton s _ _ _ fun _ => rfl)
  | noticeEnable x y => exact next_keepsForm s ht (onRequest_keepsForm_of_skeleton s _ _ _ fun _ => rfl)
  | dishStatus x y => exact next_keepsForm s ht (onRequest_keepsForm_of_skeleton s _ _ _ fun t => dishStatusOf_skeleton t y)
  | dishStop x y => exact next_keepsForm s ht (onRequest_keepsForm_of_skeleton s _ _ _ fun t => dishStopOf_skeleton t y)
  | dishRehome x y => exact next_keepsForm s ht (onRequest_keepsForm_of_skeleton s _ _ _ fun t => rehome_skeleton t y)
  | dishAckChanges x y z => exact next_keepsForm s ht (onRequest_keepsForm_of_skeleton s _ _ _ fun t => ackChanges_skeleton t y z)
  | dishSetProfile x y z u => exact next_keepsForm s ht (onRequest_keepsForm_of_skeleton s _ _ _ fun t => setProfile_skeleton t y z u)
  | dishAssign x y z u => exact next_keepsForm s ht (onRequest_keepsForm_of_skeleton s _ _ _ fun t => assign_skeleton t y z u)
  | slew x y z => exact next_keepsForm s ht (onRequest_keepsForm s _ _ _ fun t _ => slewOf_keepsForm t y z)
  | jointSlew x y z u => exact next_keepsForm s ht (onRequest_keepsForm s _ _ _ fun t _ => jointSlewOf_keepsForm t y z u)
  | slewCancel x y z => exact next_keepsForm s ht (onRequest_keepsForm_of_skeleton s _ _ _ fun t => cancelOf_skeleton t y z)
  | slewStatus x y => exact next_keepsForm s ht (onRequest_keepsForm_of_skeleton s _ _ _ fun t => slewStatusOf_skeleton t y)
  | queueStatus x => exact next_keepsForm s ht (onRequest_keepsForm_of_skeleton s _ _ _ fun _ => rfl)
  | groupSet x y z => exact next_keepsForm s ht (onRequest_keepsForm s _ _ _ fun t _ => groupSetOf_keepsForm t y z)
  | groupRead x y => exact next_keepsForm s ht (onRequest_keepsForm_of_skeleton s _ _ _ fun t => groupReadOf_skeleton t y)
  | feederSet x y z u v => exact next_keepsForm s ht (onRequest_keepsForm_of_skeleton s _ _ _ fun t => feederSetOf_skeleton t y z u v)
  | feederStatus x y => exact next_keepsForm s ht (onRequest_keepsForm_of_skeleton s _ _ _ fun t => feederStatusOf_skeleton t y)
  | mastSet x y z u => exact next_keepsForm s ht (onRequest_keepsForm s _ _ _ fun t _ => mastSetOf_keepsForm t y z u)
  | mastStatus x y z => exact next_keepsForm s ht (onRequest_keepsForm s _ _ _ fun t _ => mastStatusOf_keepsForm t y z)
  | zoneSet x y z => exact next_keepsForm s ht (onRequest_keepsForm_of_skeleton s _ _ _ fun t => zoneSetOf_skeleton t y z)
  | zoneStatus x y => exact next_keepsForm s ht (onRequest_keepsForm_of_skeleton s _ _ _ fun t => zoneStatusOf_skeleton t y)
  | bankWriteRow x y z u => exact next_keepsForm s ht (onRequest_keepsForm s _ _ _ fun t _ => bankWriteOf_keepsForm t y z u)
  | bankRead x y => exact next_keepsForm s ht (onRequest_keepsForm_of_skeleton s _ _ _ fun t => bankReadOf_skeleton t y)
  | bankSelect x y => exact next_keepsForm s ht (onRequest_keepsForm_of_skeleton s _ _ _ fun t => bankSelectOf_skeleton t y)
  | zoneStow x y => exact next_keepsForm s ht (onRequest_keepsForm_of_skeleton s _ _ _ fun t => zoneStowOf_skeleton t y)
  | zoneRelease x y => exact next_keepsForm s ht (onRequest_keepsForm_of_skeleton s _ _ _ fun t => zoneReleaseOf_skeleton t y)
  | heatPolicySet x y => exact next_keepsForm s ht (onRequest_keepsForm_of_skeleton s _ _ _ fun t => heatPolicyOf_skeleton t y)
  | heatEnable x y z u => exact next_keepsForm s ht (onRequest_keepsForm_of_skeleton s _ _ _ fun t => heatEnableOf_skeleton t y z u)
  | heatStatus x y z => exact next_keepsForm s ht (onRequest_keepsForm_of_skeleton s _ _ _ fun t => heatStatusOf_skeleton t y z)
  | lockPlace x y => exact next_keepsForm s ht (onRequest_keepsForm s _ _ _ fun t _ => lockPlaceOf_keepsForm t x y)
  | lockAmend x y z u => exact next_keepsForm s ht (onRequest_keepsForm s _ _ _ fun t _ => lockAmendOf_keepsForm t x y z u)
  | lockRelease x y z u => exact next_keepsForm s ht (onRequest_keepsForm s _ _ _ fun t _ => lockReleaseOf_keepsForm t x y z u)
  | lockRetire x y => exact next_keepsForm s ht (onRequest_keepsForm s _ _ _ fun t _ => lockRetireOf_keepsForm t y)
  | lockFind x y z u => exact next_keepsForm s ht (onRequest_keepsForm_of_skeleton s _ _ _ fun t => lockFindOf_skeleton t y z u)
  | lockRead x y => exact next_keepsForm s ht (onRequest_keepsForm_of_skeleton s _ _ _ fun t => lockReadOf_skeleton t y)
  | estopClear x => exact next_keepsForm s ht (onRequest_keepsForm s _ _ _ fun t _ => estopClearOf_keepsForm t)
  | counterSet x y z => exact next_keepsForm s ht (onRequest_keepsForm_of_skeleton s _ _ _ fun t => counterSetOf_skeleton t y z)
  | counterRead x y => exact next_keepsForm s ht (onRequest_keepsForm_of_skeleton s _ _ _ fun t => counterReadOf_skeleton t y)
  | counterClear x y => exact next_keepsForm s ht (onRequest_keepsForm_of_skeleton s _ _ _ fun t => counterClearOf_skeleton t y)
  | timingArm x y => exact next_keepsForm s ht (onRequest_keepsForm_of_skeleton s _ _ _ fun t => timingArmOf_skeleton t y)
  | timingRead x => exact next_keepsForm s ht (onRequest_keepsForm_of_skeleton s _ _ _ fun _ => rfl)
  | settingsSave x => exact next_keepsForm s ht (onRequest_keepsForm s _ _ _ fun t _ => settingsSaveOf_keepsForm t x)
  | restart x => exact next_keepsForm s ht (onRequest_keepsForm s _ _ _ fun t ht => restartOf_keepsForm t x (ht.resolve_left (by simp)))
  | storeWriteStart => exact next_keepsForm s ht (onEvent_keepsForm s _ _ startWrite_keepsForm)
  | lockStoreComplete x => exact lockStore_keepsForm s x ht
  | settingsSaveComplete x => exact settingsStore_keepsForm s x ht
  | restartStopTimerExpiry => exact next_keepsForm s ht (onTimer_keepsForm s _ _ fun _ _ => enterQuiet_keepsForm _)
  | quietTimerExpiry => exact next_keepsForm s ht (onTimer_keepsForm s _ _ fun x hx => quietExpires_keepsForm (s.beginAt x) (by rw [show (s.beginAt x).nvs = s.nvs from rfl, hx]; rfl))
  | estopAssert => exact next_keepsForm s ht (onEvent_keepsForm s _ _ estopAsserted_keepsForm)
  | estopDeassert => exact next_keepsForm s ht (onEvent_keepsForm s _ _ estopDeasserted_keepsForm)
  | plTransactionStart => exact next_keepsForm s ht (onEvent_keepsForm s _ _ startTransaction_keepsForm)
  | plReplyReceived x => exact plReply_keepsForm s x ht
  | plReplyWindowExpiry => exact plWindow_keepsForm s ht
  | plReplyGap x => exact plGap_keepsForm s x ht
  | plBroadcastEnd => exact next_keepsForm s ht (onTimer_keepsForm s _ _ fun _ _ => (clearFlight_keepsForm _).trans (afterTransaction_keepsForm _))
  | slewTimerExpiry x => exact next_keepsForm s ht (onTimer_keepsForm_of_skeleton s _ _ fun t => slewTimeoutOn_skeleton t x)
  | homeTimerExpiry x => exact next_keepsForm s ht (onTimer_keepsForm_of_skeleton s _ _ fun t => homeTimeoutOn_skeleton t x)
  | stopTimerExpiry x => exact next_keepsForm s ht (onTimer_keepsForm_of_skeleton s _ _ fun t => stopTimeoutOn_skeleton t x)
  | mastReportFrame x y z =>
    exact next_keepsForm s ht (onEvent_keepsForm s _ _ fun t => KeepsForm.ite (fun _ => rejectMast_keepsForm t x) fun _ => takeMastFrame_keepsForm t x y)
  | mastFrameGapTimeout x => exact next_keepsForm s ht (onEvent_keepsForm s _ _ fun t => rejectMast_keepsForm t x)
  | slotTimerExpiry x => exact next_keepsForm s ht (onTimer_keepsForm s _ _ fun _ _ => missedSlot_keepsForm _ x)
  | releaseTimerExpiry x => exact next_keepsForm s ht (onTimer_keepsForm_of_skeleton s _ _ fun t => releaseExpires_skeleton t x)
  | admissionPass => exact next_keepsForm s ht (onEvent_keepsForm_of_skeleton s _ _ runPass_skeleton)
  | sensorHoldExpiry x => exact next_keepsForm s ht (onTimer_keepsForm_of_skeleton s _ _ fun t => holdExpires_skeleton t x)
  | deadlineExpiry x => exact next_keepsForm s ht (onTimer_keepsForm_of_skeleton s _ _ fun t => expireDeadline_skeleton t x)
  | oneSecondTick => exact next_keepsForm s ht (onTimer_keepsForm_of_skeleton s _ _ fun t => secondTick_skeleton t)

theorem step_keepsForm {t : State} (ht : step s = .next t) : KeepsForm s t := by
  unfold step at ht
  split at ht
  · refine next_keepsForm s ht (KeepsForm.ite (fun _ => ⟨fun h => h, fun h => h⟩) fun _ => KeepsForm.refl s)
  next c rest _ =>
    have hrest : KeepsForm s (s.withPending rest) := ⟨fun h => h, fun h => h⟩
    exact hrest.trans (exec_keepsForm _ c ht)

end

end Sys2Proof.Machine

open Sys2Proof.Machine in
/-- Settles O4: the shape reads the skeleton of the machine, which most operations keep whole; the others write one table within its
bound. -/
theorem everyStepKeepsTheShape : Obligations.EveryStepKeepsTheShape := by
  unfold Obligations.EveryStepKeepsTheShape
  exact fun s t h ht => (step_keepsForm s ht).shape h

end

section
-- One declaration at a time: the check bounds memory, and every thread in flight takes its stack from it.
set_option Elab.async false

/-! O20: the STATUS layout is read back field by field. -/

namespace Sys2Proof.Machine

open Sys2Proof.Claims

/-- The STATUS layout with every field as the number that it is sent as. -/
def statusLayout (az el : Int) (flags echo key fault : Nat) (temp : Int) (surface applied result : Nat) : List Byte :=
  leInt 4 az ++ leInt 4 el ++ le 1 flags ++ le 1 echo ++ le 1 key ++ le 1 fault ++ leInt 2 temp ++ le 1 surface ++ le 1 applied
    ++ le 1 result

theorem length_statusLayout (az el temp : Int) (flags echo key fault surface applied result : Nat) :
    (statusLayout az el flags echo key fault temp surface applied result).length = 17 := by
  simp [statusLayout, length_le, length_leInt]

theorem toNat_byte {n : Nat} (h : n ≤ 255) : (BitVec.ofNat 8 n).toNat = n := by
  rw [BitVec.toNat_ofNat]; omega

/-- A layout with its numbers in range is read as the fields that the numbers stand for. -/
theorem readStatus_layout {az el temp : Int} {flags echo key fault surface applied result : Nat} {k : Key} {sf : Surface}
    {r : CommandResult} (hflags : flags < 16) (haz : -270000 ≤ az ∧ az ≤ 270000) (hel : 5000 ≤ el ∧ el ≤ 90000) (hecho : echo ≤ 15)
    (hfault : fault ≤ 255) (htemp : -400 ≤ temp ∧ temp ≤ 600) (happlied : applied ≤ 4) (hk : keyOf key = some k)
    (hs : surfaceOf surface = some sf) (hr : resultOf result = some r) :
    readStatus (statusLayout az el flags echo key fault temp surface applied result) =
      some ({ az := az, el := el, moving := flags.testBit 0, inPosition := flags.testBit 1, echo := echo, referenced := flags.testBit 2,
              owner := if flags.testBit 3 then .handset else .remote, key := k, fault := fault, temp := temp, surface := sf,
              applied := applied }, r) := by
  have haz' : unLeInt (leInt 4 az) = az := unLeInt_leInt 4 (by omega) az (by norm_num; omega) (by norm_num; omega)
  have hel' : unLeInt (leInt 4 el) = el := unLeInt_leInt 4 (by omega) el (by norm_num; omega) (by norm_num; omega)
  have htemp' : unLeInt (leInt 2 temp) = temp := unLeInt_leInt 2 (by omega) temp (by norm_num; omega) (by norm_num; omega)
  have hbit (i : Nat) (hi : i < 8) : (BitVec.ofNat 8 flags).getLsbD i = flags.testBit i := by
    rw [BitVec.getLsbD_ofNat]; simp [hi]
  have hsurface := surfaceOf_some hs
  have hkey := keyOf_some hk
  have hresult := resultOf_some hr
  generalize hb : statusLayout az el flags echo key fault temp surface applied result = body
  unfold readStatus
  simp only [show body.take 4 = leInt 4 az from hb ▸ rfl, show (body.drop 4).take 4 = leInt 4 el from hb ▸ rfl,
    show (body.drop 12).take 2 = leInt 2 temp from hb ▸ rfl, show body.getD 8 0 = BitVec.ofNat 8 flags from hb ▸ rfl,
    show body.getD 9 0 = BitVec.ofNat 8 echo from hb ▸ rfl, show body.getD 10 0 = BitVec.ofNat 8 key from hb ▸ rfl,
    show body.getD 11 0 = BitVec.ofNat 8 fault from hb ▸ rfl, show body.getD 14 0 = BitVec.ofNat 8 surface from hb ▸ rfl,
    show body.getD 15 0 = BitVec.ofNat 8 applied from hb ▸ rfl, show body.getD 16 0 = BitVec.ofNat 8 result from hb ▸ rfl,
    haz', hel', htemp', toNat_byte (show flags ≤ 255 by omega), toNat_byte (show echo ≤ 255 by omega),
    toNat_byte (show key ≤ 255 by omega), toNat_byte hfault, toNat_byte (show surface ≤ 255 by omega),
    toNat_byte (show applied ≤ 255 by omega), toNat_byte (show result ≤ 255 by omega), hk, hs, hr,
    hbit 0 (by omega), hbit 1 (by omega), hbit 2 (by omega), hbit 3 (by omega)]
  rw [if_pos (by simp [azOk, elOk, tempOk, hflags, hecho, happlied, haz, hel, htemp])]

/-- The flags byte is four independent bits. -/
theorem testBit_flags (a b c d : Bool) :
    let n := (if a then 1 else 0) + (if b then 2 else 0) + (if c then 4 else 0) + (if d then 8 else 0)
    n < 16 ∧ n.testBit 0 = a ∧ n.testBit 1 = b ∧ n.testBit 2 = c ∧ n.testBit 3 = d := by
  cases a <;> cases b <;> cases c <;> cases d <;> decide

end Sys2Proof.Machine

open Sys2Proof.Machine Sys2Proof.Claims in
/-- Settles O20: the layout is seventeen bytes of known places, and each field's code is read as the field. -/
theorem statusBodyReadsBackEveryField : Obligations.StatusBodyReadsBackEveryField := by
  unfold Obligations.StatusBodyReadsBackEveryField
  intro st r ⟨haz, haz', hel, hel', hecho, hfault, htemp, htemp', happlied⟩
  obtain ⟨az, el, moving, inPosition, echo, referenced, owner, key, fault, temp, surface, applied⟩ := st
  obtain ⟨hflags, hmoving, hposition, hreferenced, howner⟩ := testBit_flags moving inPosition referenced (owner == .handset)
  refine ⟨length_statusLayout .., ?_⟩
  refine (readStatus_layout (k := key) (sf := surface) (r := r) ?_ ⟨haz, haz'⟩ ⟨hel, hel'⟩ hecho hfault ⟨htemp, htemp'⟩ happlied
    (by cases key <;> rfl) (by cases surface <;> rfl) (by cases r <;> rfl)).trans ?_
  · cases owner <;> exact hflags
  · cases owner <;> simp_all

end

section
-- One declaration at a time: the check bounds memory, and every thread in flight takes its stack from it.
set_option Elab.async false

/-! O3: the guards of the events and of the taking of a request. -/

namespace Sys2Proof.Machine

open Sys2Proof.Claims

/-! ## The guards -/

theorem onEvent_of_not_occurs {s : State} {occurs : Bool} (f : State → State) (h : occurs = false) : s.onEvent occurs f = s := by
  simp [State.onEvent, h]

theorem onEvent_of_unpowered {s : State} (h : s.powered = false) (occurs : Bool) (f : State → State) : s.onEvent occurs f = s := by
  simp [State.onEvent, h]

theorem onTimer_of_none {s : State} {due : Option Nat} (f : State → State) (h : due = none) : s.onTimer due f = s := by
  subst h; rfl

theorem onTimer_of_unpowered {s : State} (h : s.powered = false) (due : Option Nat) (f : State → State) : s.onTimer due f = s := by
  cases due <;> simp [State.onTimer, h]

theorem onRequest_of_not_takes {s : State} {c : Instr} (owner : State → Handled) (b : Bool) (h : (s.queued c).takes c = false) :
    s.onRequest c owner b = s := by
  simp [State.onRequest, h]

theorem queued_powered (s : State) (c : Instr) : (s.queued c).powered = s.powered := by
  unfold State.queued
  split <;> rfl

theorem takes_of_unpowered {s : State} (h : s.powered = false) (c : Instr) : (s.queued c).takes c = false := by
  simp [State.takes, queued_powered, h]

/-- R195: behind another request, or with 16 replies waiting, a request is not taken. -/
theorem takes_of_waits {s : State} {c : Instr} (hne : s.oli.inbound ≠ []) (h : s.oli.inbound.head? ≠ some c ∨ 16 ≤ s.oli.replies.length) :
    (s.queued c).takes c = false := by
  rw [State.queued, if_neg (by simpa using hne)]
  rcases h with h | h <;> simp [State.takes, h]

/-- The meaning of every request is its taking. Only the owner of IDENTIFY, which changes nothing, is asked in every phase. -/
theorem exec_request {c : Instr} (h : (requestOf c).isSome = true) : ∃ (owner : State → Handled) (always : Bool),
    (∀ s : State, exec c s = .next (s.onRequest c owner always)) ∧ (always = true → ∀ s : State, (owner s).1 = s) := by
  cases c
  case powerUp | powerFail | olFrameArrival | olFrameDrop | olRxGapTimeout | olFrameSent | storeWriteStart | lockStoreComplete
    | settingsSaveComplete | restartStopTimerExpiry | quietTimerExpiry | estopAssert | estopDeassert | plTransactionStart
    | plReplyReceived | plReplyWindowExpiry | plReplyGap | plBroadcastEnd | slewTimerExpiry | homeTimerExpiry | stopTimerExpiry
    | mastReportFrame | mastFrameGapTimeout | slotTimerExpiry | releaseTimerExpiry | admissionPass | sensorHoldExpiry | deadlineExpiry
    | oneSecondTick => simp [requestOf] at h
  case identify => exact ⟨_, true, fun _ => rfl, fun _ _ => rfl⟩
  all_goals exact ⟨_, false, fun _ => rfl, fun h => absurd h Bool.false_ne_true⟩

/-! ## Without power -/

/-- A reply, a gap or a window's close waits for the addressed transaction in flight. -/
theorem awaiting_of_unpowered {s : State} (h : s.powered = false) (x : Option Transaction) (due : Transaction → Option Nat)
    (f : Transaction → State → State) : (match x with | some y => s.onTimer (due y) (f y) | none => s) = s := by
  cases x with
  | none => rfl
  | some y => exact onTimer_of_unpowered h _ _

theorem unpoweredPartTakesNoEventButPowerUp : UnpoweredPartTakesNoEventButPowerUp := by
  intro c s h hc
  cases hr : (requestOf c).isSome with
  | true =>
    obtain ⟨owner, b, hexec, -⟩ := exec_request hr
    rw [hexec, onRequest_of_not_takes owner b (takes_of_unpowered h c)]
  | false =>
    have event (occurs : Bool) (f : State → State) : (Host.Outcome.next (s.onEvent occurs f) : Step) = .next s :=
      congrArg _ (onEvent_of_unpowered h occurs f)
    have timer (due : Option Nat) (f : State → State) : (Host.Outcome.next (s.onTimer due f) : Step) = .next s :=
      congrArg _ (onTimer_of_unpowered h due f)
    cases c
    case powerUp e => exact absurd rfl (hc e)
    case powerFail => exact congrArg _ (if_neg (by simp [h]))
    case olFrameArrival | olFrameDrop | olRxGapTimeout | olFrameSent | storeWriteStart | estopAssert | estopDeassert
      | plTransactionStart | mastReportFrame | mastFrameGapTimeout | admissionPass => exact event _ _
    case restartStopTimerExpiry | quietTimerExpiry | plBroadcastEnd | slewTimerExpiry | homeTimerExpiry | stopTimerExpiry
      | slotTimerExpiry | releaseTimerExpiry | sensorHoldExpiry | deadlineExpiry | oneSecondTick => exact timer _ _
    case plReplyReceived | plReplyWindowExpiry | plReplyGap => exact congrArg _ (awaiting_of_unpowered h _ _ _)
    case lockStoreComplete =>
      simp only [exec, execLockStoreComplete, onEvent_of_unpowered h]
      cases s.nvs.path <;> rfl
    case settingsSaveComplete =>
      simp only [exec, execSettingsSaveComplete, onEvent_of_unpowered h]
      cases s.nvs.path <;> rfl
    all_goals simp [requestOf] at hr

theorem requestWaitsItsTurnAndForRoom : RequestWaitsItsTurnAndForRoom := by
  intro c s hr hne h
  obtain ⟨owner, b, hexec, -⟩ := exec_request hr
  rw [hexec, onRequest_of_not_takes owner b (takes_of_waits hne h)]

/-! ## Events that the state rules out -/

/-- R204: no write is due while one runs, nor with nothing to write. -/
theorem writeDue_eq_false {s : State} (h : s.nvs.path ≠ .free ∨ ((∀ o ∈ s.lkt.queue, o.running = true) ∧ s.nvs.save ≠ .pending)) :
    s.writeDue = false := by
  rcases h with h | ⟨hq, hs⟩
  · simp [State.writeDue, h]
  · have hn : s.lkt.nextOp = none := by simpa [Lkt.nextOp] using hq
    simp [State.writeDue, hn, hs]

/-- R31: nothing is awaited with no frame in flight, nor with a broadcast or a burst. -/
theorem awaiting_eq_none {s : State} (h : ∀ x, s.pbc.flight = some x → x.kind = .allStop ∨ x.kind = .heatAllOff) :
    s.pbc.awaiting = none := by
  rw [Pbc.awaiting, Option.filter_eq_none_iff]
  intro x hx
  rcases h x hx with hk | hk <;> simp [hk, TxKind.isAddressed]

theorem broadcasting_eq_none {s : State} (h : ∀ x, s.pbc.flight = some x → x.kind ≠ .allStop ∧ x.kind ≠ .heatAllOff) :
    s.pbc.broadcasting = none := by
  rw [Pbc.broadcasting, Option.filter_eq_none_iff]
  intro x hx
  obtain ⟨h1, h2⟩ := h x hx
  cases hk : x.kind <;> simp_all [TxKind.isAddressed]

theorem timerDue_eq_none {s : State} {d : Nat} {k : TimerKind} (h : ∀ due, (s.dish d).timer ≠ some { kind := k, due := due }) :
    s.timerDue d k = none := by
  unfold State.timerDue
  split
  next x hx => exact if_neg fun hk => h x.due (by rw [hx, ← hk])
  · rfl

theorem thas_eq_false {α : Type} {l : List α} {n : Nat} (h : n = 0 ∨ l.length < n) : thas l n = false := by
  simp only [thas, Bool.and_eq_false_iff, decide_eq_false_iff_not]
  omega

/-- R31: no reply and no gap is heard where none is awaited, where the window has closed, or where the number of characters does not
fit. -/
theorem heard_eq {s : State} {ok : Bool} (f : Transaction → State → State)
    (h : s.pbc.awaiting = none ∨ ok = false ∨ ∃ x, s.pbc.flight = some x ∧ x.windowDue < s.now) :
    (match s.pbc.awaiting with | some y => s.onTimer (if ok then s.replyMoment y else none) (f y) | none => s) = s := by
  cases hx : s.pbc.awaiting with
  | none => rfl
  | some y =>
    refine onTimer_of_none _ ?_
    rcases h with h | rfl | ⟨x, hf, hlate⟩
    · simp [h] at hx
    · rfl
    · have hxy : x = y := by
        have := Option.eq_some_of_filter_eq_some hx
        simpa [hf] using this
      subst hxy
      simp [State.replyMoment, Nat.not_le.mpr hlate]

theorem eventThatCannotOccurChangesNothing : EventThatCannotOccurChangesNothing := by
  intro s c h
  have event {occurs : Bool} (f : State → State) (h : occurs = false) : (Host.Outcome.next (s.onEvent occurs f) : Step) = .next s :=
    congrArg _ (onEvent_of_not_occurs f h)
  have timer {due : Option Nat} (f : State → State) (h : due = none) : (Host.Outcome.next (s.onTimer due f) : Step) = .next s :=
    congrArg _ (onTimer_of_none f h)
  cases h with
  | powerUp e h => exact congrArg _ (if_pos h)
  | frameSent h => exact event _ (by simp [h])
  | writeStart h => exact event _ (writeDue_eq_false h)
  | lockComplete r h =>
    refine congrArg Host.Outcome.next ?_
    split
    next hp => exact absurd hp (h _ _)
    next => rfl
  | saveComplete r h =>
    refine congrArg Host.Outcome.next ?_
    split
    next hp => exact absurd hp (h _ _)
    next => rfl
  | stopTimer h => exact timer _ h
  | quietTimer h => exact timer _ h
  | lineUp h => exact event _ (by simp [h])
  | lineDown h => exact event _ h
  | busTaken h => exact event _ (by simp [State.canTransact, h])
  | busQuiet hq ha hh => exact event _ (by simp [State.canTransact, hq, ha, hh])
  | unasked _ h hc =>
    have hn := awaiting_eq_none h
    rcases hc with rfl | ⟨l, rfl | rfl⟩
    · simp [exec, execPlReplyWindowExpiry, hn]
    · exact congrArg _ (heard_eq _ (.inl hn))
    · exact congrArg _ (heard_eq _ (.inl hn))
  | late _ x hx hlate hc =>
    rcases hc with ⟨l, rfl | rfl⟩ <;> exact congrArg _ (heard_eq _ (.inr (.inr ⟨x, hx, hlate⟩)))
  | wrongLength l h => exact congrArg _ (heard_eq _ (.inr (.inl (by simpa [replyLength] using h))))
  | noGap l h =>
    refine congrArg _ (heard_eq _ (.inr (.inl ?_)))
    rcases h with rfl | h
    · rfl
    · simp [replyLength, show ¬l.length < 21 by omega]
  | noBroadcast h => exact timer _ (by simp [broadcasting_eq_none h])
  | slewTimer d h => exact timer _ (timerDue_eq_none h)
  | homeTimer d h => exact timer _ (timerDue_eq_none h)
  | stopTimerOf d h => exact timer _ (timerDue_eq_none h)
  | noMast _ m h hc =>
    have hm := thas_eq_false h
    rcases hc with rfl | rfl | ⟨b, f, rfl⟩
    · exact event _ hm
    · exact timer _ (by simp [hm])
    · exact event _ (by simp [hm])
  | noStart m bytes f h => exact event _ (by cases f <;> simp [isBegunFrame, isMastFrame, show ¬bytes.head? = some 165#8 from h])
  | noFrame m bytes h => exact event _ (by simp [isMastFrame, h])
  | releaseTimer z h =>
    refine timer _ ?_
    rcases h with h | h | h
    · simp [thas_eq_false (.inl h)]
    · simp [thas_eq_false (.inr h)]
    · simp [h]
  | pass h => exact event _ h
  | holdTimer d h => exact timer _ (by cases hh : (s.heater d).hold <;> simp_all [SensorHold.due])
  | deadline id h => exact timer _ (by cases hr : s.record id <;> simp_all)

end Sys2Proof.Machine

open Sys2Proof.Machine in
/-- Settles O3: every event stands behind a guard, and so does the taking of a request; each guard fails as the statement says. -/
theorem commandsThatCannotOccurChangeNothing : Obligations.CommandsThatCannotOccurChangeNothing := by
  unfold Obligations.CommandsThatCannotOccurChangeNothing
  exact ⟨unpoweredPartTakesNoEventButPowerUp, requestWaitsItsTurnAndForRoom, eventThatCannotOccurChangesNothing⟩

end

section
-- One declaration at a time: the check bounds memory, and every thread in flight takes its stack from it.
set_option Elab.async false

/-! The choice of the next transaction (R38 to R40) and the frame of its start; O18: the polls. -/

namespace Sys2Proof.Machine

open Sys2Proof.Claims

/-! ## The first dish of a kind -/

/-- The search through the dishes finds the first that meets the test. -/
theorem find_allDishes_eq_some {p : Nat → Bool} {d : Nat} (h1 : 1 ≤ d) (h48 : d ≤ 48) (hp : p d = true)
    (hfirst : ∀ e, 1 ≤ e → e < d → p e = false) : allDishes.find? p = some d := by
  have hfind : (List.range 48).find? (p ∘ (· + 1)) = some (d - 1) := by
    refine List.find?_range_eq_some.mpr ⟨?_, List.mem_range.mpr (by omega), fun j hj => ?_⟩
    · simpa [Nat.sub_add_cancel h1] using hp
    · simpa using hfirst (j + 1) (by omega) (by omega)
  rw [allDishes, List.find?_map, hfind]
  simp [Nat.sub_add_cancel h1]

theorem find_allDishes_spec {p : Nat → Bool} {d : Nat} (h : allDishes.find? p = some d) :
    1 ≤ d ∧ d ≤ 48 ∧ p d = true ∧ ∀ e, 1 ≤ e → e < d → p e = false := by
  obtain ⟨i, hi, rfl⟩ : ∃ i, (List.range 48).find? (p ∘ (· + 1)) = some i ∧ i + 1 = d := by
    simpa [allDishes, List.find?_map] using h
  obtain ⟨hp, hm, hfirst⟩ := List.find?_range_eq_some.mp hi
  have hlt := List.mem_range.mp hm
  refine ⟨by omega, by omega, hp, fun e h1 he => ?_⟩
  have := hfirst (e - 1) (by omega)
  simpa [Nat.sub_add_cancel h1] using this

/-- R40: the test of the walk, at a dish. -/
def State.isPollable (s : State) (start : Nat) (candidate : Option Nat) (marked : Nat → Bool) (d : Nat) : Bool :=
  start ≤ d && !marked d && ((s.dish d).state != .absent || candidate == some d)

theorem isPollable_iff (s : State) (start : Nat) (candidate : Option Nat) (marked : Nat → Bool) (d : Nat) :
    s.isPollable start candidate marked d = true
      ↔ start ≤ d ∧ marked d = false ∧ ((s.dish d).state ≠ .absent ∨ candidate = some d) := by
  simp [State.isPollable, and_assoc]

theorem find_of_firstToPoll {s : State} {start : Nat} {candidate : Option Nat} {marked : Nat → Bool} {d : Nat}
    (h : FirstToPoll s start candidate marked d) : allDishes.find? (s.isPollable start candidate marked) = some d := by
  obtain ⟨hstart, h1, h48, ⟨hm, hc⟩, hfirst⟩ := h
  refine find_allDishes_eq_some h1 h48 ((isPollable_iff ..).mpr ⟨hstart, hm, hc⟩) fun e he1 he => ?_
  refine Bool.not_eq_true _ ▸ fun hp => ?_
  obtain ⟨hs, hdue⟩ := (isPollable_iff ..).mp hp
  exact hfirst e hs he1 he hdue

theorem find_of_noneToPoll {s : State} {start : Nat} {candidate : Option Nat} {marked : Nat → Bool}
    (h : ∀ d, ¬ FirstToPoll s start candidate marked d) : allDishes.find? (s.isPollable start candidate marked) = none := by
  cases hf : allDishes.find? (s.isPollable start candidate marked) with
  | none => rfl
  | some d =>
    obtain ⟨h1, h48, hp, hfirst⟩ := find_allDishes_spec hf
    obtain ⟨hs, hdue⟩ := (isPollable_iff ..).mp hp
    refine absurd ⟨hs, h1, h48, hdue, fun e hse he1 he hdue' => ?_⟩ (h d)
    have := hfirst e he1 he
    rw [(isPollable_iff ..).mpr ⟨hse, hdue'⟩] at this
    cases this

theorem pollTarget_eq {s : State} (hs : Shape s) :
    s.pollTarget = allDishes.find? (s.isPollable s.pbc.pollPtr s.pbc.candidate (fun e => (s.slots e).polled)) := by
  unfold State.pollTarget
  rw [hs.dishNumbers]
  rfl

/-- R40: the candidate of the next round is the first ABSENT dish from the absent pointer on. -/
theorem absentCandidate_of_first {s : State} (hs : Shape s) {c : Nat} (h : FirstAbsent s c) : s.absentCandidate = some c := by
  obtain ⟨i, hi, rfl, hc, hfirst⟩ := h
  have hlen : s.dsv.dishes.length = 48 := hs.1
  have hfind : (List.range 48).find? ((fun d => (s.dish d).state == .absent) ∘ fun i => (s.pbc.absentPtr - 1 + i) % 48 + 1) = some i :=
    List.find?_range_eq_some.mpr ⟨by simpa using hc, List.mem_range.mpr hi, fun j hj => by simpa using hfirst j hj⟩
  simp only [State.absentCandidate, hlen, List.find?_map, hfind, Option.map_some]

theorem absentCandidate_of_none {s : State} (hs : Shape s) (h : ∀ e, 1 ≤ e → e ≤ 48 → (s.dish e).state ≠ .absent) :
    s.absentCandidate = none := by
  have hlen : s.dsv.dishes.length = 48 := hs.1
  simp only [State.absentCandidate, hlen, List.find?_eq_none, List.mem_map]
  rintro _ ⟨i, -, rfl⟩
  have := h ((s.pbc.absentPtr - 1 + i) % 48 + 1) (by omega) (by omega)
  simpa using this

/-! ## The oldest command of a kind -/

/-- The better of the best dish so far and the next one. -/
def State.older (s : State) (age : Slots → Option Nat) (best : Option (Nat × Nat)) (d : Nat) : Option (Nat × Nat) :=
  match age (s.slots d), best with
  | some a, some (b, x) => if a < b then some (a, d) else some (b, x)
  | some a, none => some (a, d)
  | none, best => best

/-- The best of the dishes in `l`: none where no dish has a command, or the oldest, first of equal ones. -/
def BestOf (s : State) (age : Slots → Option Nat) (l : List Nat) : Option (Nat × Nat) → Prop
  | none => ∀ e ∈ l, age (s.slots e) = none
  | some (a, d) => d ∈ l ∧ age (s.slots d) = some a ∧ ∀ e ∈ l, ∀ b, age (s.slots e) = some b → a < b ∨ (a = b ∧ d ≤ e)

theorem bestOf_older {s : State} {age : Slots → Option Nat} {l : List Nat} {x : Nat} {best : Option (Nat × Nat)}
    (hx : ∀ e ∈ l, e < x) (h : BestOf s age l best) : BestOf s age (l ++ [x]) (s.older age best x) := by
  unfold State.older
  cases ha : age (s.slots x) with
  | none =>
    rcases best with _ | ⟨b, d⟩
    · intro e he
      rcases List.mem_append.mp he with he | he
      · exact h e he
      · rw [List.mem_singleton.mp he, ha]
    · obtain ⟨hd, hb, hbest⟩ := h
      refine ⟨List.mem_append_left _ hd, hb, fun e he c hc => ?_⟩
      rcases List.mem_append.mp he with he | he
      · exact hbest e he c hc
      · rw [List.mem_singleton.mp he, ha] at hc
        cases hc
  | some a =>
    have hown : ∀ c, age (s.slots x) = some c → c = a := fun c hc => by simpa [ha] using hc.symm
    rcases best with _ | ⟨b, d⟩
    · refine ⟨List.mem_append_right _ List.mem_cons_self, ha, fun e he c hc => ?_⟩
      rcases List.mem_append.mp he with he | he
      · rw [h e he] at hc
        cases hc
      · obtain rfl := List.mem_singleton.mp he
        exact .inr ⟨(hown c hc).symm, Nat.le_refl _⟩
    · obtain ⟨hd, hb, hbest⟩ := h
      dsimp only
      split
      next hlt =>
        refine ⟨List.mem_append_right _ List.mem_cons_self, ha, fun e he c hc => ?_⟩
        rcases List.mem_append.mp he with he | he
        · have := hbest e he c hc
          omega
        · obtain rfl := List.mem_singleton.mp he
          exact .inr ⟨(hown c hc).symm, Nat.le_refl _⟩
      next hge =>
        refine ⟨List.mem_append_left _ hd, hb, fun e he c hc => ?_⟩
        rcases List.mem_append.mp he with he | he
        · exact hbest e he c hc
        · obtain rfl := List.mem_singleton.mp he
          have := hown c hc
          have := hx d hd
          omega

theorem bestOf_foldl (s : State) (age : Slots → Option Nat) (n : Nat) :
    BestOf s age ((List.range n).map (· + 1)) (((List.range n).map (· + 1)).foldl (s.older age) none) := by
  induction n with
  | zero => simp [BestOf]
  | succ n ih =>
    rw [List.range_succ, List.map_append, List.foldl_append]
    refine bestOf_older (fun e he => ?_) ih
    obtain ⟨i, hi, rfl⟩ := List.mem_map.mp he
    exact Nat.succ_lt_succ (List.mem_range.mp hi)

theorem oldest_eq {s : State} (hs : Shape s) (age : Slots → Option Nat) :
    s.oldest age = (allDishes.foldl (s.older age) none).map (·.2) := by
  unfold State.oldest
  rw [hs.dishNumbers]
  rfl

theorem oldest_of_none {s : State} (hs : Shape s) {age : Slots → Option Nat} (h : NonePending s age) : s.oldest age = none := by
  rw [oldest_eq hs]
  have hbest : BestOf s age allDishes (allDishes.foldl (s.older age) none) := bestOf_foldl s age 48
  cases hf : allDishes.foldl (s.older age) none with
  | none => rfl
  | some x =>
    obtain ⟨a, d⟩ := x
    rw [hf] at hbest
    obtain ⟨hd, ha, -⟩ := hbest
    obtain ⟨h1, h48⟩ := (mem_allDishes d).mp hd
    rw [h d h1 h48] at ha
    cases ha

/-- R38: the search finds the dish that holds the oldest command. -/
theorem oldest_of_holds {s : State} (hs : Shape s) {age : Slots → Option Nat} {d : Nat} (h : HoldsOldest s age d) :
    s.oldest age = some d := by
  rw [oldest_eq hs]
  have hbest : BestOf s age allDishes (allDishes.foldl (s.older age) none) := bestOf_foldl s age 48
  obtain ⟨h1, h48, a, ha, hold⟩ := h
  have hmem := (mem_allDishes d).mpr ⟨h1, h48⟩
  cases hf : allDishes.foldl (s.older age) none with
  | none =>
    rw [hf] at hbest
    rw [hbest d hmem] at ha
    cases ha
  | some x =>
    obtain ⟨b, e⟩ := x
    rw [hf] at hbest
    obtain ⟨he, hb, hbest⟩ := hbest
    obtain ⟨he1, he48⟩ := (mem_allDishes e).mp he
    have hde := hold e b he1 he48 hb
    have hed := hbest d hmem a ha
    exact congrArg some (show e = d by omega)

/-! ## The frame of a start -/

/-- What the Pedestal Bus Controller may change in its own block. -/
def onBus : Set Part := {.bus} ∪ {p | ∃ a d, p = .slots a d}

/-- What the start of a transaction may change. -/
def starting : Set Part := {.counters (some .commandRetry)} ∪ onBus

@[simp] theorem mem_onBus (p : Part) : p ∈ onBus ↔ p = .bus ∨ ∃ a d, p = .slots a d := Iff.rfl

@[simp] theorem mem_starting (p : Part) : p ∈ starting ↔ p = .counters (some .commandRetry) ∨ p ∈ onBus := Iff.rfl

theorem within_onBus {bs : List Block} {q : Part} (hq : q ∈ onBus) (h : .pbc ∈ bs := by simp) : q.within bs := by
  rcases hq with rfl | ⟨a, d, rfl⟩ <;> simp [Part.within, Part.block, h]

theorem within_starting {q : Part} (hq : q ∈ starting) : q.within [.pbc, .act] := by
  rcases hq with rfl | hq
  · simp [Part.within, Part.block]
  · exact within_onBus hq

/-- A new bus with the same number of slots. -/
theorem setBus_changes (s : State) (p : Pbc) (hp : p.slots.length = s.pbc.slots.length) : Changes onBus s { s with pbc := p } := by
  refine ⟨fun q hq => ?_, by simp [State.sizes, hp], fun _ hk => hk, id⟩
  cases q with
  | bus => exact absurd (.inl rfl) hq
  | slots a d => exact absurd (.inr ⟨a, d, rfl⟩) hq
  | _ => simp [Part.Same, State.dish, State.zone, State.heater, State.counterAt]

/-- An event of a running part that has no moment of its own happens at the present time. -/
theorem onEvent_eq_onTimer {s : State} (h : Running s) {occurs : Bool} (ho : occurs = true) (f : State → State) :
    s.onEvent occurs f = s.onTimer (some s.now) f := by
  have hb : s.beginAt s.now = s.begin := by simp [State.beginAt, State.begin]
  simp [State.onEvent, State.onTimer, h.1, ho, hb]

/-- A transaction that starts, from the state that the arbiter makes. -/
theorem starts_of {s : State} {v : State} {l : Set Part} {bs : List Block} {p : State → Prop} (h : Running s) (hf : s.pbc.flight = none)
    (hv : s.begin.startTransaction = v) (hc : Changes l s.begin v) (hl : ∀ q ∈ l, q.within bs)
    (hp : ∀ o : Oli, o.notices = v.oli.notices → p { v with oli := o }) :
    Happens .plTransactionStart s s.now bs (fun t => KeepsLink s t ∧ p t) := by
  have hcan : s.canTransact = true := by
    have : s.nvs.phase = .idle := h.2
    simp [State.canTransact, hf, this]
  have hb : s.beginAt s.now = s.begin := by simp [State.beginAt, State.begin]
  have happens := happens_of_timer (s := s) (c := .plTransactionStart) (due := s.now) (f := (·.startTransaction)) (bs := bs)
    (p := fun t => KeepsLink s t ∧ p t) l h (congrArg Host.Outcome.next (onEvent_eq_onTimer h hcan _)) (by rw [hb, hv]; exact hc) hl
    (fun o ho hlink => ⟨hlink, by rw [hb, hv] at ho ⊢; exact hp o ho⟩)
  rwa [Nat.max_self] at happens

/-- A frame of at least one character takes time (R29). -/
theorem charTime_pos {n : Nat} (h : 0 < n) : 0 < charTime n := by
  unfold charTime
  omega

theorem length_plFrame_pos (a k : Nat) (body : List Byte) : 0 < (plFrame a k body).length := by simp [plFrame]

/-- What stands in flight after a start. -/
theorem inFlight_of {s u : State} (hn : u.now = s.now) (hw : u.pbc.replyWindow = s.pbc.replyWindow) (k : TxKind) (station : Nat)
    {frame : List PlChar} (hf : 0 < frame.length) (o : Oli) : InFlight s { u.putInFlight k station frame with oli := o } k station frame := by
  refine ⟨?_, ?_⟩
  · show some (u.transaction k station frame) = _
    rw [State.transaction, hn, hw]
    rfl
  · show decide (u.now < u.now + charTime frame.length) = true
    have := charTime_pos hf
    simp
    omega

/-! ## Polls -/

theorem startPoll_of_target {s : State} {d : Nat} (h : s.pollTarget = some d) :
    s.startPoll = ({ s with pbc.pollPtr := d + 1 } : State).putInFlight .poll d (plFrame d 0x01 []) := by
  simp [State.startPoll, State.choosePoll, h]

theorem startPoll_of_round {s : State} {d : Nat} (h : s.pollTarget = none) (hd : s.startRound.pollTarget = some d) :
    s.startPoll = ({ s.startRound with pbc.pollPtr := d + 1 } : State).putInFlight .poll d (plFrame d 0x01 []) := by
  simp [State.startPoll, State.choosePoll, h, hd]

/-- R40: a new round takes every mark away. -/
theorem startRound_slots (s : State) (e : Nat) : s.startRound.slots e = { s.slots e with polled := false } := by
  cases e with
  | zero => rfl
  | succ k =>
    show ((s.pbc.slots.map (fun sl => { sl with polled := false }))[k]?).getD {} = { (s.pbc.slots[k]?).getD {} with polled := false }
    rw [List.getElem?_map]
    cases s.pbc.slots[k]? <;> rfl

theorem startRound_shape {s : State} (h : Shape s) : Shape s.startRound := h.of_skeleton (startRound_skeleton s)

theorem pollTarget_startRound {s : State} (hs : Shape s) :
    s.startRound.pollTarget = allDishes.find? (s.isPollable 1 s.absentCandidate (fun _ => false)) := by
  rw [pollTarget_eq (startRound_shape hs)]
  congr 1
  funext d
  simp only [startRound_slots]
  rfl

/-- R38, R39: where no command goes first, the transaction that starts is a POLL. -/
theorem startTransaction_poll {s : State} (hs : Shape s) (ha : s.pbc.allStop = false) (hh : s.pbc.heatAllOff = false)
    (h : s.pbc.commandCount = 8 ∨ ∀ e, 1 ≤ e → e ≤ 48 →
      (s.slots e).stopPending = none ∧ (s.slots e).movePending = none ∧ (s.slots e).heatPending = none) :
    s.startTransaction = s.startPoll := by
  unfold State.startTransaction
  rw [if_neg (by simp [ha]), if_neg (by simp [hh])]
  split
  · rfl
  next hc =>
    have hnone := h.resolve_left (by omega)
    rw [oldest_of_none hs fun e h1 h48 => by simp [(hnone e h1 h48).1], oldest_of_none hs fun e h1 h48 => by simp [(hnone e h1 h48).2.1],
      oldest_of_none hs fun e h1 h48 => by simp [(hnone e h1 h48).2.2]]

/-- Dish 1 begins a round in which no dish is ABSENT. -/
theorem firstToPoll_one {s : State} {c : Option Nat} (h : (s.dish 1).state ≠ .absent) : FirstToPoll s 1 c (fun _ => false) 1 :=
  ⟨Nat.le_refl _, Nat.le_refl _, by omega, ⟨rfl, .inl h⟩, fun e _ h1 he => absurd he (by omega)⟩

end Sys2Proof.Machine

open Sys2Proof.Machine Sys2Proof.Claims in
/-- Settles O18: the arbiter comes to the poll, whose walk and whose new round are searches through the dishes in order. -/
theorem pollsFollowRounds : Obligations.PollsFollowRounds := by
  unfold Obligations.PollsFollowRounds
  intro s hs hr hf ha hh hpoll
  have hsb : Shape s.begin := hs
  have hstart : s.begin.startTransaction = s.begin.startPoll := startTransaction_poll hsb ha hh hpoll
  have walk (d : Nat) (h : FirstToPoll s s.pbc.pollPtr s.pbc.candidate (fun e => (s.slots e).polled) d) :
      s.begin.pollTarget = some d := (pollTarget_eq hsb).trans (find_of_firstToPoll h)
  have round (c : Option Nat) (d : Nat) (hnone : ∀ d, ¬ FirstToPoll s s.pbc.pollPtr s.pbc.candidate (fun e => (s.slots e).polled) d)
      (hc : s.begin.absentCandidate = c) (h : FirstToPoll s 1 c (fun _ => false) d) :
      Happens .plTransactionStart s s.now [.pbc] (fun t => KeepsLink s t ∧ InFlight s t .poll d (plFrame d 1 []) ∧ t.pbc.pollPtr = d + 1
        ∧ t.pbc.commandCount = s.pbc.commandCount ∧ (∀ e, t.slots e = { s.slots e with polled := false }) ∧ t.pbc.candidate = c
        ∧ t.pbc.absentPtr = c.elim s.pbc.absentPtr (· % 48 + 1)) := by
    have htarget : s.begin.startRound.pollTarget = some d := by
      rw [pollTarget_startRound hsb, hc]
      exact find_of_firstToPoll h
    have hlen : s.begin.dsv.dishes.length = 48 := hs.1
    refine starts_of hr hf (hstart.trans (startPoll_of_round ((pollTarget_eq hsb).trans (find_of_noneToPoll hnone)) htarget))
      (setBus_changes _ _ (List.length_map _)) (fun q hq => within_onBus hq) fun o _ => ?_
    refine ⟨inFlight_of rfl rfl _ _ (length_plFrame_pos ..) o, rfl, rfl, startRound_slots s.begin, hc, ?_⟩
    show (match s.begin.absentCandidate with | some d => d % s.begin.dsv.dishes.length + 1 | none => s.pbc.absentPtr) = _
    rw [hc, hlen]
    cases c <;> rfl
  refine ⟨fun d h => ?_, fun hnone => ⟨fun c d hc h => ?_, fun hpresent => ?_⟩⟩
  · exact starts_of hr hf (hstart.trans (startPoll_of_target (walk d h))) (setBus_changes _ _ rfl) (fun q hq => within_onBus hq)
      fun o _ => ⟨inFlight_of rfl rfl _ _ (length_plFrame_pos ..) o, rfl, rfl, rfl, rfl, rfl⟩
  · have happens := round (some c) d hnone (absentCandidate_of_first hsb hc) h
    have hptr : c % 48 + 1 = if c = 48 then 1 else c + 1 := by
      obtain ⟨i, -, rfl, -⟩ := hc
      split <;> omega
    simp only [Option.elim_some] at happens
    rw [hptr] at happens
    exact happens
  · exact round none 1 hnone (absentCandidate_of_none hsb hpresent) (firstToPoll_one (hpresent 1 (by omega) (by omega)))

end

section
-- One declaration at a time: the check bounds memory, and every thread in flight takes its stack from it.
set_option Elab.async false

/-! O19: the lines of Table 13, the end of a broadcast, and PL_DE. -/

namespace Sys2Proof.Machine

open Sys2Proof.Claims

/-! ## A command's transmission -/

/-- R46: a command kept after a miss is counted when it is sent again. -/
def State.retried (s : State) (retry : Bool) : State := if retry then s.countRetry else s

theorem retried_changes (s : State) (retry : Bool) : Changes {.bus, .counters (some .commandRetry)} s (s.retried retry) := by
  cases retry with
  | false => exact Changes.refl _ s
  | true =>
    exact ((withBus_changes s { s.pbc with totals.retries := inc32 s.pbc.totals.retries } rfl).mono).trans
      ((count_changes _ .commandRetry none).mono)

theorem retried_pbc (s : State) (retry : Bool) : (s.retried retry).pbc = { s.pbc with totals := { s.pbc.totals with
    retries := if retry then min 4294967295 (s.pbc.totals.retries + 1) else s.pbc.totals.retries } } := by
  cases retry with
  | false => rfl
  | true => exact (count_changes _ .commandRetry none).pbc

theorem retried_countsOnly (s : State) (retry : Bool) : CountsOnly s (s.retried retry) .commandRetry (if retry then [none] else []) := by
  have hc := retried_changes s retry
  refine ⟨?_, hc.length_counters, fun n _ _ hne => hc.counterAt (i := n - 1) (by simpa [State.counterAt] using hne)⟩
  cases retry with
  | false => exact (Changes.refl ∅ s).countsOf .commandRetry
  | true => exact countsOf_congr (count_countsOf { s with pbc.totals.retries := inc32 s.pbc.totals.retries } .commandRetry none) rfl rfl rfl

/-- The state in which a command of dish `d` has gone into flight: `f` is what becomes of the dish's slots, before the retry is counted and
`g` after it. -/
def State.commanded (s : State) (d : Nat) (f g : Slots → Slots) (retry : Bool) (k : TxKind) (frame : List PlChar) : State :=
  (((s.modSlots d f).retried retry).modSlots d g).putInFlight k d frame

theorem modSlots_onBus (s : State) (d : Nat) (f : Slots → Slots) : Changes onBus s (s.modSlots d f) :=
  modSlots_changes s d f fun p hp => absurd (.inr ⟨p, d, rfl⟩) hp

theorem putInFlight_changes (s : State) (k : TxKind) (d : Nat) (frame : List PlChar) : Changes {.bus} s (s.putInFlight k d frame) :=
  withBus_changes s _ rfl

theorem commanded_changes (s : State) (d : Nat) (f g : Slots → Slots) (retry : Bool) (k : TxKind) (frame : List PlChar) :
    Changes starting s (s.commanded d f g retry k frame) :=
  ((((modSlots_onBus s d f).mono Set.subset_union_right).trans ((retried_changes _ retry).mono (by simp [Set.insert_subset_iff]))).trans
    ((modSlots_onBus _ d g).mono Set.subset_union_right)).trans ((putInFlight_changes _ k d frame).mono)

theorem commanded_countsOnly (s : State) (d : Nat) (f g : Slots → Slots) (retry : Bool) (k : TxKind) (frame : List PlChar) :
    CountsOnly s (s.commanded d f g retry k frame) .commandRetry (if retry then [none] else []) :=
  countsOnly_congr (retried_countsOnly (s.modSlots d f) retry) rfl rfl rfl

/-- The bus beside the slots and the flight. -/
theorem commanded_bus (s : State) (d : Nat) (f g : Slots → Slots) (retry : Bool) (k : TxKind) (frame : List PlChar) :
    (s.commanded d f g retry k frame).pbc.commandCount = s.pbc.commandCount
      ∧ (s.commanded d f g retry k frame).pbc.totals = { s.pbc.totals with
          retries := if retry then min 4294967295 (s.pbc.totals.retries + 1) else s.pbc.totals.retries } :=
  ⟨(congrArg Pbc.commandCount (retried_pbc (s.modSlots d f) retry) :), (congrArg Pbc.totals (retried_pbc (s.modSlots d f) retry) :)⟩

theorem commanded_slots_other (s : State) {d e : Nat} (he : e ≠ d) (f g : Slots → Slots) (retry : Bool) (k : TxKind)
    (frame : List PlChar) : (s.commanded d f g retry k frame).slots e = s.slots e := by
  have hretried : ((s.modSlots d f).retried retry).slots e = (s.modSlots d f).slots e :=
    (congrArg (fun p : Pbc => tget p.slots e ({} : Slots)) (retried_pbc (s.modSlots d f) retry) :)
  exact (modSlots_slots_other _ d e g he).trans (hretried.trans (modSlots_slots_other s d e f he))

theorem commanded_slots_same (s : State) {d : Nat} (hd : thas s.pbc.slots d = true) (f g : Slots → Slots) (retry : Bool) (k : TxKind)
    (frame : List PlChar) : (s.commanded d f g retry k frame).slots d = g (f (s.slots d)) := by
  have hretried : ((s.modSlots d f).retried retry).slots d = (s.modSlots d f).slots d :=
    (congrArg (fun p : Pbc => tget p.slots d ({} : Slots)) (retried_pbc (s.modSlots d f) retry) :)
  have hthas : thas ((s.modSlots d f).retried retry).pbc.slots d = true :=
    ((retried_changes _ retry).hasSlots d).trans (((modSlots_onBus s d f).hasSlots d).trans hd)
  exact (modSlots_slots_same _ d g hthas).trans (congrArg g (hretried.trans (modSlots_slots_same s d f hd)))

/-- The slots are written once where nothing of them changes after the retry is counted. -/
theorem modSlots_id (s : State) (d : Nat) : s.modSlots d id = s := by
  have : tmod s.pbc.slots d id = s.pbc.slots := by
    cases d with
    | zero => rfl
    | succ k => simp [tmod]
  simp [State.modSlots, this]

theorem startStop_eq (s : State) {d : Nat} {p : StopPending} (h : (s.slots d).stopPending = some p) :
    s.startStop d = s.commanded d (fun sl => { sl with stopPending := none, stopFlight := some false }) id p.retry .stop (plFrame d 4 []) := by
  simp only [State.startStop, State.commanded, h, modSlots_id]
  rfl

theorem startHome_eq (s : State) {d : Nat} {p : MovePending} (h : (s.slots d).movePending = some p) (hp : p.cmd = .home) :
    s.startMove d = s.commanded d (fun sl => { sl with
      movePending := none, moveFlight := some { cmd := p.cmd, attempts := p.attempts + 1, withdrawn := false } }) id p.isRetry .home
      (plFrame d 3 []) := by
  simp only [State.startMove, State.commanded, h, modSlots_id]
  rw [hp]
  rfl

theorem startMove_eq (s : State) {d : Nat} {p : MovePending} {az el : Int} {rAz rEl aAz aEl : Nat}
    (h : (s.slots d).movePending = some p) (hp : p.cmd = .move az el rAz rEl aAz aEl) :
    s.startMove d = s.commanded d (fun sl => { sl with
        movePending := none, moveFlight := some { cmd := p.cmd, attempts := p.attempts + 1, withdrawn := false } })
      (fun sl => { sl with seq := ((s.slots d).seq + 1) % 16 }) p.isRetry (.move (((s.slots d).seq + 1) % 16))
      (plFrame d 2 (moveBody (((s.slots d).seq + 1) % 16) az el rAz rEl aAz aEl)) := by
  simp only [State.startMove, State.commanded, h]
  rw [hp]
  rfl

theorem startHeat_eq (s : State) {d : Nat} {p : HeatPending} (h : (s.slots d).heatPending = some p) :
    s.startHeat d = s.commanded d (fun sl => { sl with heatPending := none, heatFlight := some { stage := p.stage, withdrawn := false } }) id
      p.retry (.heat p.stage) (plFrame d 5 (le 1 p.stage)) := by
  simp only [State.startHeat, State.commanded, h, modSlots_id]
  rfl

/-! ## Table 13 -/

/-- What stands after a command has gone into flight from `s`. -/
theorem starts_of_commanded {s : State} {d : Nat} {f g : Slots → Slots} {retry : Bool} {k : TxKind} {frame : List PlChar} (hs : Shape s)
    (hr : Running s) (hf : s.pbc.flight = none) (h1 : 1 ≤ d) (h48 : d ≤ 48) (hframe : 0 < frame.length)
    (h : s.begin.startTransaction = s.begin.commanded d f g retry k frame) :
    Happens .plTransactionStart s s.now [.pbc, .act] (fun t => KeepsLink s t ∧ InFlight s t k d frame
      ∧ (t.pbc.commandCount = s.pbc.commandCount ∧ (∀ e, e ≠ d → t.slots e = s.slots e)
        ∧ t.pbc.totals = { s.pbc.totals with
            retries := if retry then min 4294967295 (s.pbc.totals.retries + 1) else s.pbc.totals.retries }
        ∧ CountsOnly s t .commandRetry (if retry then [none] else []))
      ∧ t.slots d = g (f (s.slots d))) := by
  have hd : thas s.begin.pbc.slots d = true := hs.hasSlots_of_isDish ((hs.isDish d).mpr ⟨h1, h48⟩)
  obtain ⟨hcount, htotals⟩ := commanded_bus s.begin d f g retry k frame
  refine starts_of hr hf h (commanded_changes ..) (fun q => within_starting) fun o ho => ?_
  refine ⟨?_, ⟨hcount, fun e he => commanded_slots_other s.begin he f g retry k frame, htotals, ?_⟩, commanded_slots_same s.begin hd f g retry k frame⟩
  · have hb := retried_changes (s.begin.modSlots d f) retry
    exact inFlight_of hb.now (congrArg Pbc.replyWindow (retried_pbc (s.begin.modSlots d f) retry) :) k d hframe o
  · exact countsOnly_congr (commanded_countsOnly s.begin d f g retry k frame) rfl rfl ho

section
variable {s : State} (hs : Shape s) (ha : s.pbc.allStop = false) (hh : s.pbc.heatAllOff = false) (hc : s.pbc.commandCount < 8)
include hs ha hh hc

theorem startTransaction_stop {d : Nat} (h : HoldsOldest s (fun sl => sl.stopPending.map (·.age)) d) :
    s.startTransaction = s.startStop d := by
  simp [State.startTransaction, ha, hh, Nat.not_le.mpr hc, oldest_of_holds hs h]

theorem startTransaction_move {d : Nat} (hstop : NonePending s (fun sl => sl.stopPending.map (·.age)))
    (h : HoldsOldest s (fun sl => sl.movePending.map (·.age)) d) : s.startTransaction = s.startMove d := by
  simp [State.startTransaction, ha, hh, Nat.not_le.mpr hc, oldest_of_none hs hstop, oldest_of_holds hs h]

theorem startTransaction_heat {d : Nat} (hstop : NonePending s (fun sl => sl.stopPending.map (·.age)))
    (hmove : NonePending s (fun sl => sl.movePending.map (·.age))) (h : HoldsOldest s (fun sl => sl.heatPending.map (·.age)) d) :
    s.startTransaction = s.startHeat d := by
  simp [State.startTransaction, ha, hh, Nat.not_le.mpr hc, oldest_of_none hs hstop, oldest_of_none hs hmove, oldest_of_holds hs h]

end

theorem transactionStartTakesTheFirstPendingLine : TransactionStartTakesTheFirstPendingLine := by
  intro s hs hr hf
  have hsb : Shape s.begin := hs
  refine ⟨fun ha => ?_, fun ha hh => ?_, fun ha hh hc => ⟨fun d p hold hp => ?_, fun hstop d p hold hp hcmd => ?_,
    fun hstop d p az el rAz rEl aAz aEl hold hp hcmd => ?_, fun hstop hmove d p hold hp => ?_⟩⟩
  · have hstart : s.begin.startTransaction = s.begin.startAllStop := if_pos ha
    have hidle : s.nvs.phase = .idle := hr.2
    have hquiet : (if s.begin.nvs.phase == RestartPhase.quiet then none else s.begin.nvs.quietDue) = s.nvs.quietDue :=
      if_neg (by simp [State.begin, hidle])
    have heq : s.begin.startAllStop = ({ s.begin with pbc.allStop := false } : State).putInFlight .allStop 127
        (plFrame 127 6 [] ++ plFrame 127 6 [] ++ plFrame 127 6 []) := by
      simp only [State.startAllStop, hquiet]
      rfl
    exact starts_of hr hf (hstart.trans heq) (setBus_changes _ _ rfl) (fun q hq => within_onBus hq) fun o _ =>
      ⟨inFlight_of rfl rfl _ _ (by simp [plFrame]) o, rfl, rfl, rfl⟩
  · have hstart : s.begin.startTransaction = s.begin.startHeatAllOff := (if_neg (by simp [State.begin, ha])).trans (if_pos hh)
    exact starts_of hr hf hstart (setBus_changes _ _ rfl) (fun q hq => within_onBus hq) fun o _ =>
      ⟨inFlight_of rfl rfl _ _ (length_plFrame_pos ..) o, rfl, rfl⟩
  · have ⟨h1, h48, _⟩ := hold
    exact starts_of_commanded hs hr hf h1 h48 (length_plFrame_pos ..)
      ((startTransaction_stop hsb ha hh hc hold).trans (startStop_eq s.begin hp))
  · have ⟨h1, h48, _⟩ := hold
    have := starts_of_commanded hs hr hf h1 h48 (length_plFrame_pos ..)
      ((startTransaction_move hsb ha hh hc hstop hold).trans (startHome_eq s.begin hp hcmd))
    rw [hcmd] at this
    exact this
  · have ⟨h1, h48, _⟩ := hold
    exact starts_of_commanded hs hr hf h1 h48 (length_plFrame_pos ..)
      ((startTransaction_move hsb ha hh hc hstop hold).trans (startMove_eq s.begin hp hcmd))
  · have ⟨h1, h48, _⟩ := hold
    exact starts_of_commanded hs hr hf h1 h48 (length_plFrame_pos ..)
      ((startTransaction_heat hsb ha hh hc hstop hmove hold).trans (startHeat_eq s.begin hp))

/-! ## The end of a broadcast, and PL_DE -/

theorem broadcasting_of_flight {s : State} {x : Transaction} (h : s.pbc.flight = some x) (hk : x.kind = .allStop ∨ x.kind = .heatAllOff) :
    s.pbc.broadcasting = some x := by
  rcases hk with hk | hk <;> simp [Pbc.broadcasting, h, hk, TxKind.isAddressed]

theorem exec_plBroadcastEnd {s : State} {x : Transaction} (h : s.pbc.flight = some x) (hk : x.kind = .allStop ∨ x.kind = .heatAllOff) :
    exec .plBroadcastEnd s = .next (s.onTimer (some x.frameEnd) (fun t => t.clearFlight.afterTransaction)) := by
  show execPlBroadcastEnd s = _
  rw [execPlBroadcastEnd, broadcasting_of_flight h hk]
  rfl

theorem broadcastEndFreesTheBus : BroadcastEndFreesTheBus := by
  intro s x hr hf hk
  have heq : (s.beginAt x.frameEnd).clearFlight.afterTransaction = (s.beginAt x.frameEnd).clearFlight := afterTransaction_of_idle hr.2
  refine happens_of_timer (f := fun t => t.clearFlight.afterTransaction) {.bus} hr (exec_plBroadcastEnd hf hk) ?_
    (fun q hq => by rcases hq with rfl; simp [Part.within, Part.block]) fun o ho hlink => ?_
  · rw [heq]
    exact clearFlight_changes _
  · rw [heq] at ho hlink ⊢
    exact ⟨hlink, ho, rfl, rfl⟩

theorem driverIsReleasedAtTheEndOfTheFrame : DriverIsReleasedAtTheEndOfTheFrame := by
  intro s hq hp
  refine ⟨{ s with now := s.now + 1 }, ?_, rfl, fun x hx => ?_, fun hn => ?_⟩
  · simp [step, hq, State.tick, hp]
  · simp [State.plDe, hx]
  · simp [State.plDe, hn]

end Sys2Proof.Machine

open Sys2Proof.Machine in
/-- Settles O19: a search per line of Table 13, one frame for the three kinds of command, and the end of a broadcast outside a RESTART. -/
theorem transactionsStartByPriorityAndBroadcastsEnd : Obligations.TransactionsStartByPriorityAndBroadcastsEnd := by
  unfold Obligations.TransactionsStartByPriorityAndBroadcastsEnd
  exact ⟨transactionStartTakesTheFirstPendingLine, broadcastEndFreesTheBus, driverIsReleasedAtTheEndOfTheFrame⟩

end

section
-- One declaration at a time: the check bounds memory, and every thread in flight takes its stack from it.
set_option Elab.async false

/-! The two timers of a RESTART and the reset that ends it (R208, R209). -/

namespace Sys2Proof.Machine

open Sys2Proof.Claims

/-! ## The end of an event in a RESTART -/

/-- After an event only the line is chosen anew, once the phase has made its changes. -/
theorem finish_frame_of_progress {s v : State} (h : s.restartProgress = v) : SameBesideLine v s.finish := by
  rw [State.finish, h]
  exact transmit_frame v

/-- In QUIET and outside a RESTART no phase change is due at the end of an event. -/
theorem restartProgress_of_settled {s : State} (h : s.nvs.phase = .idle ∨ s.nvs.phase = .quiet) : s.restartProgress = s := by
  rcases h with h | h <;> simp [State.restartProgress, h]

/-- A timer expiry of a powered part. -/
theorem exec_timer {s : State} {c : Instr} {due : Nat} {f : State → State} (hp : s.powered = true)
    (he : exec c s = .next (s.onTimer (some due) f)) : exec c s = .next (f (s.beginAt due)).finish := by
  rw [he, State.onTimer, if_pos hp]

theorem exec_event {s : State} {c : Instr} {occurs : Bool} {f : State → State} (hp : s.powered = true) (ho : occurs = true)
    (he : exec c s = .next (s.onEvent occurs f)) : exec c s = .next (f s.begin).finish := by
  rw [he, State.onEvent, hp, ho]
  rfl

/-- An event leaves OLI alone beside the notices and the line. -/
theorem keepsLink_of {s v t : State} (hv : v.oli = { s.oli with notices := v.oli.notices }) (h : SameBesideLine v t) : KeepsLink s t := by
  obtain ⟨x, fp, lf, rfl, hx⟩ := h
  have hsend : v.oli.sending = s.oli.sending := by rw [hv]
  refine ⟨(congrArg Oli.inbound hv :), (congrArg Oli.flow hv :), (congrArg Oli.replies hv :), (congrArg Oli.counts hv :),
    (congrArg Oli.enables hv :), fun hs => ?_⟩
  rw [← hsend] at hs ⊢
  exact hx hs

/-! ## The records after the reset -/

theorem tget_map {α β : Type} (f : α → β) (l : List α) {n : Nat} (x : α) (y : β) (h : thas l n = true) :
    tget (l.map f) n y = f (tget l n x) := by
  cases n with
  | zero => simp [thas] at h
  | succ k =>
    have hk : k < l.length := by simpa [thas] using h
    simp [tget, hk]

theorem tget_of_absent {α : Type} {l : List α} {n : Nat} (x : α) (h : thas l n = false) : tget l n x = x := by
  cases n with
  | zero => rfl
  | succ k =>
    have hk : l.length ≤ k := by simpa [thas] using h
    simp [tget, List.getElem?_eq_none hk]

section
variable {s : State}

theorem restartReset_dish {d : Nat} (hd : s.isDish d = true) :
    s.restartReset.dish d = { profile := (s.dish d).profile, feeder := (s.dish d).feeder, zone := (s.dish d).zone } :=
  tget_map Dish.restarted _ _ _ hd

theorem restartReset_slots (d : Nat) : s.restartReset.slots d = {} := by
  show tget (List.replicate 48 ({} : Slots)) d {} = {}
  rcases tget_mem_or_default (List.replicate 48 ({} : Slots)) d {} with h | h
  · exact List.eq_of_mem_replicate h
  · exact h

/-- R163: after the reset a heater is DISABLED with its enable off, BLOCKED where an entry covers its heat, and OFF otherwise. -/
theorem restartReset_heater {d : Nat} (hd : s.isDish d = true) : s.restartReset.heater d =
    { state := if (s.dish d).profile.heatEnable = false then .disabled else if covered s (·.heat) d then .blocked else .off } := by
  cases d with
  | zero => simp [State.isDish, thas] at hd
  | succ k =>
    have hk : k < s.dsv.dishes.length := by simpa [State.isDish, thas] using hd
    have hdish : s.dish (k + 1) = s.dsv.dishes[k] := by simp [State.dish, tget, hk]
    show tget (heatersAtReset (s.dsv.dishes.map Dish.restarted) s.heatBlocked) (k + 1) {} = _
    simp only [tget, heatersAtReset, List.getD_eq_getElem?_getD, List.getElem?_map, List.length_map, List.getElem?_range hk,
      Option.map_some, Option.getD_some, hdish, List.getElem?_eq_getElem hk, Dish.restarted, heaterAtReset, State.heatBlocked,
      inSet_coveredBy]
    simp [covered]

/-- R91: a zone without an open wave is kept. -/
theorem restartReset_zone (z : Nat) : s.restartReset.zone z = (s.zone z).restarted := by
  cases h : thas s.znc.zones z with
  | true => exact tget_map Zone.restarted _ _ _ h
  | false =>
    have h' : thas s.restartReset.znc.zones z = false := by
      show thas (s.znc.zones.map Zone.restarted) z = false
      simpa [thas] using h
    rw [State.zone, State.zone, tget_of_absent _ h, tget_of_absent _ h']
    rfl

theorem restarted_of_wave {r : Zone} {w : Wave} (h : r.wave = some w) :
    r.restarted.wave = none ∧ r.restarted.causes = r.causes ∧ r.restarted.lastOutcome = some (w.members.map (fun m =>
      if m.state = .waiting ∨ m.state = .preemptWait ∨ m.state = .admitted then { m with state := .aborted .restart } else m)) := by
  have hopen (m : WaveMember) : m.state.isOpen = true ↔ m.state = .waiting ∨ m.state = .preemptWait ∨ m.state = .admitted := by
    cases m.state <;> simp [WaveState.isOpen]
  simp only [Zone.restarted, h, Wave.restarted, hopen]
  exact ⟨trivial, trivial, trivial⟩

theorem restartReset_feeder (f : Feeder) : s.restartReset.feeder f =
    { limit := (s.feeder f).limit, reserve := (s.feeder f).reserve, heatCap := (s.feeder f).heatCap, ceiling := (s.feeder f).limit,
      slewCommitted := 0, heatCommitted := 0, allowance := min (s.feeder f).heatCap ((s.feeder f).limit - (s.feeder f).reserve),
      shedDemand := none } := by
  cases f <;> rfl

end

/-- R209: the reset of a RESTART, whatever the line then sends. -/
theorem resetByRestart_of {s t : State} (hs : Shape s) (h : SameBesideLine s.restartReset t) : ResetByRestart s t s.now := by
  obtain ⟨x, fp, lf, rfl, -⟩ := h
  refine ⟨fun d h1 h48 => ?_, rfl, rfl, rfl, rfl, rfl, rfl, rfl, rfl, rfl, fun z hz => ?_, fun z w hw => ?_, rfl, restartReset_feeder, rfl,
    rfl, rfl, fun k hk => List.eq_of_mem_replicate hk, rfl, rfl, rfl, rfl, rfl, rfl, fun tag htag => ?_⟩
  · have hd : s.isDish d = true := (hs.isDish d).mpr ⟨h1, h48⟩
    exact ⟨restartReset_dish hd, restartReset_slots d, restartReset_heater hd⟩
  · exact (restartReset_zone z).trans (by simp [Zone.restarted, hz])
  · have hr := restartReset_zone (s := s) z
    obtain ⟨h1, h2, h3⟩ := restarted_of_wave hw
    exact ⟨(congrArg Zone.wave hr).trans h1, (congrArg Zone.causes hr).trans h2, (congrArg Zone.lastOutcome hr).trans h3⟩
  · show s.oli.replies.filter (·.deferred) ++ s.oli.inbound.filterMap restartingReply ++ (match s.nvs.restartTag with
      | some tag => [_] | none => []) = _
    rw [htag]
    rfl

theorem restartReset_sameBut {s u : State} (hw : u.wmn = s.wmn) (hl : u.lkt = s.lkt) :
    SameBut [.dsv, .pbc, .znc, .sls, .fbu, .mlc, .nvs, .act] s u.restartReset := by
  refine ⟨.inl ?_, .inl ?_, .inr hw, .inl ?_, .inl ?_, .inl ?_, .inl ?_, .inr hl, .inl ?_, .inl ?_⟩ <;> simp

/-! ## The timers -/

theorem restartTimersLeadToTheReset : RestartTimersLeadToTheReset := by
  intro s due hs hp
  refine ⟨fun hphase hdue => ?_, fun hphase hdue hf => ?_, fun hphase hdue hf => ?_⟩
  · have he := exec_timer (c := .restartStopTimerExpiry) (f := (·.enterQuiet)) hp (by rw [← hdue]; rfl)
    have hprog : (s.beginAt due).enterQuiet.restartProgress = (s.beginAt due).enterQuiet := restartProgress_of_settled (.inr rfl)
    refine happens_of _ s (s.beginAt due).enterQuiet _ _ _ ⟨_, he, finish_frame_of_progress hprog⟩ ⟨hp, rfl, rfl, rfl⟩
      (by simp [SameBut, State.enterQuiet, State.beginAt]) fun t ht => ⟨?_, keepsLink_of (v := (s.beginAt due).enterQuiet) rfl ht⟩
    obtain ⟨x, fp, lf, rfl, -⟩ := ht
    simp [State.enterQuiet, State.beginAt]
  · have he := exec_timer (c := .quietTimerExpiry) (f := (·.quietExpires)) hp (by rw [← hdue]; rfl)
    have hflight : s.pbc.flight.isSome = true := Option.isSome_iff_ne_none.mpr hf
    have hq : (s.beginAt due).quietExpires = { s.beginAt due with nvs.quietDue := none, nvs.resetDue := true } := if_pos hflight
    rw [hq] at he
    refine happens_of _ s _ _ _ _ ⟨_, he, finish_frame_of_progress (restartProgress_of_settled (.inr hphase))⟩ ⟨hp, rfl, rfl, rfl⟩
      (by simp [SameBut, State.beginAt]) fun t ht => ⟨?_, keepsLink_of (v := { s.beginAt due with nvs.quietDue := none, nvs.resetDue := true }) rfl ht⟩
    obtain ⟨x, fp, lf, rfl, -⟩ := ht
    rfl
  · have he := exec_timer (c := .quietTimerExpiry) (f := (·.quietExpires)) hp (by rw [← hdue]; rfl)
    have hq : (s.beginAt due).quietExpires = (s.beginAt due).restartReset := if_neg (by simp [State.beginAt, hf])
    rw [hq] at he
    exact happens_of _ s (s.beginAt due).restartReset _ _ _ ⟨_, he, finish_frame_of_progress (restartProgress_of_settled (.inl rfl))⟩
      ⟨hp, rfl, rfl, rfl⟩ (restartReset_sameBut rfl rfl) fun t ht => resetByRestart_of (s := s.beginAt due) hs ht

theorem phaseTimersRunOnlyInTheirPhases : PhaseTimersRunOnlyInTheirPhases :=
  ⟨phaseTimers_of_none rfl rfl rfl, fun s _ h ht => (step_keepsForm s ht).timers h⟩

end Sys2Proof.Machine

end

section
-- One declaration at a time: the check bounds memory, and every thread in flight takes its stack from it.
set_option Elab.async false

/-! The end of DRAINING: the array is stopped (R208), and RESTART itself (R207). -/

namespace Sys2Proof.Machine

open Sys2Proof.Claims

/-! ## The orders with which STOPPING begins -/

theorem withStore_changes (s : State) (n : Nvs) : Changes {.store} s { s with nvs := n } := by
  refine ⟨fun q hq => ?_, rfl, fun _ hk => hk, id⟩
  cases q with
  | store => exact absurd rfl hq
  | _ => simp [Part.Same, State.dish, State.slots, State.zone, State.heater, State.counterAt]

/-- What the end of DRAINING may change. -/
def arrayStopping : Set Part := {.store} ∪ onBus ∪ ({p | ∃ d, p ∈ stopping d} ∪ closing)

@[simp] theorem mem_arrayStopping (p : Part) :
    p ∈ arrayStopping ↔ (p = .store ∨ p ∈ onBus) ∨ (∃ d, p ∈ stopping d) ∨ p ∈ closing := Iff.rfl

theorem arrayStopping_sameBut {s t : State} (h : Changes arrayStopping s t) : SameBut [.dsv, .pbc, .znc, .sls, .fbu, .nvs, .act] s t := by
  refine h.sameBut ?_
  rintro p ((rfl | hp) | ⟨d, hp⟩ | hp)
  · simp [Part.block]
  · exact (within_onBus hp).2.2.2
  · exact (within_stopping hp).2.2.2
  · exact (within_closing hp).2.2.2

section
variable {u : State} (hs : Shape u)

/-- R45: the bus with both broadcasts ordered and no move or heat command left. -/
def State.arrayOrdered (u : State) : State := u.orderAllStop.orderHeatAllOff

theorem arrayOrdered_changes (u : State) : Changes onBus u u.arrayOrdered := setBus_changes u _ (List.length_map _)

theorem arrayOrdered_slots (u : State) (d : Nat) : u.arrayOrdered.slots d = (u.slots d).removeMove.removeHeat := by
  cases d with
  | zero => rfl
  | succ k =>
    show ((u.pbc.slots.map (fun sl => sl.removeMove.removeHeat))[k]?).getD {} = ((u.pbc.slots[k]?).getD {}).removeMove.removeHeat
    rw [List.getElem?_map]
    cases u.pbc.slots[k]? <;> rfl

theorem arrayOrdered_shape {u : State} (hs : Shape u) : Shape u.arrayOrdered :=
  hs.of_skeleton (orderHeatAllOff_skeleton u.orderAllStop)

include hs in
theorem arrayStopped_eq : u.arrayStopped = u.arrayOrdered.stoppedAll allDishes := by
  show u.arrayOrdered.stoppedAll u.arrayOrdered.dishNumbers = _
  rw [(arrayOrdered_shape hs).dishNumbers]

include hs in
theorem stopOrders_changes : Changes ({p | ∃ d, p ∈ stopping d} ∪ closing) u.arrayOrdered u.arrayStopped := by
  rw [arrayStopped_eq hs]
  refine (stoppedAll_changes u.arrayOrdered allDishes).mono ?_
  rintro p ⟨d, -, hp | hp⟩
  · exact .inl ⟨d, hp⟩
  · exact .inr hp

include hs in
theorem arrayStopped_changes : Changes (onBus ∪ ({p | ∃ d, p ∈ stopping d} ∪ closing)) u u.arrayStopped :=
  (arrayOrdered_changes u).andThen (stopOrders_changes hs)

theorem nodup_allDishes : allDishes.Nodup := List.nodup_range.map fun _ _ h => Nat.succ.inj h

include hs in
theorem arrayStopped_pbc : u.arrayStopped.pbc.allStop = true ∧ u.arrayStopped.pbc.heatAllOff = true ∧ u.arrayStopped.pbc.heatOff = true
    ∧ u.arrayStopped.pbc.flight = u.pbc.flight := by
  have hb : u.arrayStopped.pbc = { u.arrayOrdered.pbc with slots := u.arrayStopped.pbc.slots } :=
    (stopOrders_changes hs).same .bus (by simp)
  exact ⟨(congrArg Pbc.allStop hb :), (congrArg Pbc.heatAllOff hb :), (congrArg Pbc.heatOff hb :), (congrArg Pbc.flight hb :)⟩

include hs in
/-- A dish that its stop order does not act on keeps its record. -/
theorem arrayStopped_dish_of_not {d : Nat} (h : ¬ StopActs (u.dish d)) : u.arrayStopped.dish d = u.dish d := by
  rw [arrayStopped_eq hs]
  by_cases hd : d ∈ allDishes
  · exact ((stoppedAll_of_mem (arrayOrdered_shape hs) nodup_allDishes hd).2 h).1
  · refine ((stoppedAll_changes u.arrayOrdered allDishes).dish ?_).trans rfl
    rintro p ⟨e, he, hp⟩
    have : d = e := by cases p <;> simp_all
    exact hd (this ▸ he)

include hs in
theorem arrayStopped_dish_of_acts {d : Nat} (h : StopActs (u.dish d)) : u.arrayStopped.dish d = (u.dish d).stopped u.now := by
  rw [arrayStopped_eq hs]
  have hd : d ∈ allDishes := (mem_allDishes d).mpr ((hs.isDish d).mp (stopActs_isDish h))
  exact ((stoppedAll_of_mem (arrayOrdered_shape hs) nodup_allDishes hd).1 h).1

include hs in
theorem arrayStopped_slots {d : Nat} (h1 : 1 ≤ d) (h48 : d ≤ 48) :
    (u.arrayStopped.slots d).movePending = none ∧ (u.arrayStopped.slots d).heatPending = none := by
  rw [arrayStopped_eq hs]
  obtain ⟨hacts, hnot⟩ := stoppedAll_of_mem (arrayOrdered_shape hs) nodup_allDishes ((mem_allDishes d).mpr ⟨h1, h48⟩)
  by_cases h : StopActs (u.arrayOrdered.dish d)
  · rw [(hacts h).2, arrayOrdered_slots]
    obtain ⟨hm, -, hh⟩ := stopped_slots (u.slots d).removeMove.removeHeat u.arrayOrdered.moment
    exact ⟨hm, hh⟩
  · rw [(hnot h).2, arrayOrdered_slots]
    exact ⟨rfl, rfl⟩

/-- The dish moves or is made to stop. -/
def MovesOrStops (r : Dish) : Prop := StopActs r ∨ r.state = .stopping

theorem isMoving_iff (x : DishState) : x.isMoving = true ↔ x = .slewing ∨ x = .homing ∨ x = .stopping := by
  cases x <;> simp [DishState.isMoving]

include hs in
/-- R208: after the orders the dishes that keep STOPPING open are those that moved or were stopping. -/
theorem arrayStopped_isMoving (d : Nat) : (u.arrayStopped.dish d).state.isMoving = true ↔ MovesOrStops (u.dish d) := by
  by_cases h : StopActs (u.dish d)
  · rw [arrayStopped_dish_of_acts hs h]
    exact ⟨fun _ => .inl h, fun _ => rfl⟩
  · rw [arrayStopped_dish_of_not hs h, isMoving_iff]
    constructor
    · rintro (hx | hx | hx)
      · exact absurd (.inl hx) h
      · exact absurd (.inr (.inl hx)) h
      · exact .inr hx
    · rintro (hx | hx)
      · exact absurd hx h
      · exact .inr (.inr hx)

/-- R208: STOPPING is open while a dish moves. -/
theorem atRest_iff {s : State} (hs : Shape s) : s.atRest = true ↔ ∀ d, 1 ≤ d → d ≤ 48 → (s.dish d).state.isMoving = false := by
  have hlen : s.dsv.dishes.length = 48 := hs.1
  simp only [State.atRest, List.all_eq_true, Bool.not_eq_true']
  constructor
  · intro h d h1 h48
    obtain ⟨k, rfl⟩ := Nat.exists_eq_succ_of_ne_zero (Nat.one_le_iff_ne_zero.mp h1)
    have hk : k < s.dsv.dishes.length := by omega
    exact h (s.dish (k + 1)) (by simp [State.dish, tget, hk])
  · intro h r hr
    obtain ⟨i, hi, rfl⟩ := List.getElem_of_mem hr
    have := h (i + 1) (by omega) (by omega)
    simpa [State.dish, tget, hi] using this

end

/-! ## The phase after DRAINING -/

theorem restartProgress_of_busy {u : State} (hp : u.nvs.phase = .draining) (hd : u.drained = false) : u.restartProgress = u := by
  have h1 : (if u.nvs.phase == .draining && u.drained then u.enterStopping else u) = u := if_neg (by simp [hd])
  have h2 : (u.nvs.phase == .stopping) = false := by rw [hp]; rfl
  simp only [State.restartProgress, h1, h2, Bool.false_and, Bool.false_eq_true, if_false]

section
variable {u : State} (hs : Shape u) (hp : u.nvs.phase = .draining) (hd : u.drained = true)
include hp hd

theorem restartProgress_of_drained :
    u.restartProgress = if u.enterStopping.atRest then u.enterStopping.enterQuiet else u.enterStopping := by
  have h1 : (if u.nvs.phase == .draining && u.drained then u.enterStopping else u) = u.enterStopping := if_pos (by simp [hp, hd])
  have h2 : (u.enterStopping.nvs.phase == .stopping) = true := rfl
  simp only [State.restartProgress, h1, h2, Bool.true_and]

include hs

theorem restartProgress_changes : Changes arrayStopping u u.restartProgress := by
  rw [restartProgress_of_drained hp hd]
  have h1 : Changes arrayStopping u u.enterStopping := by
    rw [enterStopping_eq]
    exact ((arrayStopped_changes hs).mono (Set.union_subset_union_left _ Set.subset_union_right)).trans
      ((withStore_changes _ _).mono (by simp))
  exact Changes.ite (fun _ => h1.trans ((withStore_changes _ _).mono (by simp))) (fun _ => h1)

/-- R208: what the end of DRAINING makes of a state, whatever the line then sends. -/
theorem stopsTheArray_of {s : State} (hnow : u.now = s.now) (hflight : u.pbc.flight = s.pbc.flight) (o : Oli) :
    StopsTheArray s { u.restartProgress with oli := o } u.dish u.nvs := by
  have hc := arrayStopped_changes hs
  obtain ⟨ha, hh, ho, hf⟩ := arrayStopped_pbc hs
  have hn : u.arrayStopped.nvs = u.nvs := hc.store
  have hsw : Shape u.enterStopping := (enterStopping_keepsForm u hp).shape hs
  have hnvs : u.enterStopping.nvs = { u.nvs with phase := .stopping, stopDue := some (s.now + 10000) } := by
    show ({ u.arrayStopped.nvs with phase := .stopping, stopDue := some (u.arrayStopped.now + 10000) } : Nvs) = _
    rw [hn, hc.now, hnow]
  have hbeside : u.restartProgress.pbc = u.arrayStopped.pbc ∧ u.restartProgress.dsv = u.arrayStopped.dsv := by
    rw [restartProgress_of_drained hp hd]
    split <;> exact ⟨rfl, rfl⟩
  have hdish (d : Nat) : u.restartProgress.dish d = u.arrayStopped.dish d := congrArg (fun x : Dsv => tget x.dishes d Dish.initial) hbeside.2
  have hslots (d : Nat) : u.restartProgress.slots d = u.arrayStopped.slots d := congrArg (fun x : Pbc => tget x.slots d ({} : Slots)) hbeside.1
  refine ⟨(congrArg Pbc.allStop hbeside.1).trans ha, (congrArg Pbc.heatAllOff hbeside.1).trans hh, (congrArg Pbc.heatOff hbeside.1).trans ho,
    fun d h1 h48 => ?_, fun d hna => (hdish d).trans (arrayStopped_dish_of_not hs hna), fun d h1 h48 hact => ?_, fun hmove => ?_,
    fun hrest => ?_⟩
  · have := arrayStopped_slots hs h1 h48
    rwa [← hslots] at this
  · have := (hdish d).trans (arrayStopped_dish_of_acts hs hact)
    refine ⟨congrArg Dish.state this, congrArg Dish.claim this, (congrArg Dish.timer this).trans ?_, (congrArg Dish.reservation this :)⟩
    rw [← hnow]
    rfl
  · have hopen : ¬ u.enterStopping.atRest = true := by
      rw [atRest_iff hsw]
      obtain ⟨d, h1, h48, hm⟩ := hmove
      intro h
      have := (arrayStopped_isMoving hs d).mpr hm
      rw [show (u.arrayStopped.dish d).state.isMoving = false from h d h1 h48] at this
      cases this
    show u.restartProgress.nvs = _
    rw [restartProgress_of_drained hp hd, if_neg hopen, hnvs]
  · have hclosed : u.enterStopping.atRest = true := by
      rw [atRest_iff hsw]
      exact fun d h1 h48 => Bool.not_eq_true _ ▸ fun h => hrest d h1 h48 ((arrayStopped_isMoving hs d).mp h)
    show u.restartProgress.nvs = _
    rw [restartProgress_of_drained hp hd, if_pos hclosed]
    have hpbc : u.enterStopping.pbc.flight = s.pbc.flight := hf.trans hflight
    have hnow' : u.enterStopping.now = s.now := hc.now.trans hnow
    simp only [State.enterQuiet, hnvs, hpbc, hnow', Option.isNone_iff_eq_none]

end

/-! ## RESTART -/

/-- R194, R195: a request whose reply is deferred, from what its owner and the phase make of the state. -/
theorem defers_of_frame {s v t : State} {c : Instr} {l : List Block} {p : State → Prop} (h : Ready s c) (he : exec c s = .next t)
    (hs : SameBesideLine v t) (hf : OwnerFrame s.taken v) (hen : v.oli.enables = s.oli.enables) (hb : SameBut l s v)
    (hp : ∀ o : Oli, o.notices = v.oli.notices → p { v with oli := o }) : Defers c s l p := by
  obtain ⟨x, fp, lf, rfl, hx⟩ := hs
  obtain ⟨hpow, hnow, hmom, hpend, hin, hflow, hrep, hcnt, hsend⟩ := hf
  have hne : s.oli.inbound ≠ [] := by
    rintro hn
    obtain ⟨-, -, hhead, -⟩ := h
    simp [hn] at hhead
  refine ⟨_, he, ⟨hpow, hnow, hmom, hpend, ?_, ?_, ?_, fun hso => ?_⟩, ?_, hen, by simpa [SameBut] using hb, hp _ rfl⟩
  · simpa [taken_oli] using hin
  · simpa [taken_oli] using hcnt
  · simpa [taken_oli, leave_flow _ hne] using hflow
  · have hsame : v.oli.sending = s.oli.sending := by simpa [taken_oli] using hsend
    rw [← hsame] at hso ⊢
    exact hx hso
  · simpa [taken_oli] using hrep

theorem storeIdle_iff (s : State) : StoreIdle s ↔ s.drained = true := by
  simp [StoreIdle, State.drained, and_assoc]

theorem restartDrainsThenStopsTheArray : RestartDrainsThenStopsTheArray := by
  intro s tag hs h
  let u : State := { s.taken with nvs := { s.nvs with phase := .draining, restartTag := some tag } }
  have he : exec (.restart tag) s = .next u.finish := by
    show Host.Outcome.next (s.onRequest _ _ false) = _
    rw [onRequest_ready s _ _ false h]
    have hi : s.nvs.phase = .idle := h.2.1
    simp [State.handOver, requestOf, hi, State.restartOf, u]
  have hu : Shape u := hs.taken
  refine ⟨fun hbusy => ?_, fun hidle => ?_⟩
  · have hprog : u.restartProgress = u := by
      refine restartProgress_of_busy rfl ?_
      rw [← Bool.not_eq_true]
      exact fun hd => hbusy ((storeIdle_iff s).mpr hd)
    refine defers_of_frame h he (finish_frame_of_progress hprog) (OwnerFrame.refl s.taken) (by simp [u, taken_oli])
      (by simp [SameBut, u]) fun o ho => ⟨rfl, ho.trans (leave_notices s.oli)⟩
  · have hd : u.drained = true := (storeIdle_iff s).mp hidle
    have hc := restartProgress_changes hu rfl hd
    refine defers_of_frame h he (finish_frame_of_progress rfl) (hc.ownerFrame (by simp) (by simp)) ?_
      (arrayStopping_sameBut (s := s.taken) (((withStore_changes s.taken u.nvs).mono (by simp)).trans hc)) fun o _ =>
        stopsTheArray_of hu rfl hd rfl rfl o
    rw [hc.link]
    exact leave_enables s.oli

end Sys2Proof.Machine

end

section
-- One declaration at a time: the check bounds memory, and every thread in flight takes its stack from it.
set_option Elab.async false

/-! The bus in QUIET (R45, R49, R208). -/

namespace Sys2Proof.Machine

open Sys2Proof.Claims

/-! ## The end of an addressed transaction, before QUIET takes notice of it -/

/-- The state after the steps of R33, the end of the transaction in QUIET (R49) aside. -/
def State.transactionEnded (s : State) (x : Transaction) : Ending → State
  | .valid st r =>
    if (s.slots x.station).isWithdrawn x.kind && r = .accepted then (s.replied x st r).withdrawalStop x.station else s.replied x st r
  | .miss m =>
    if s.exhausts x false && (((s.missCounted x m).takeMiss x.station).dish x.station).state != .absent then
      ((s.missCounted x m).takeMiss x.station).exhausted x.station
    else (s.missCounted x m).takeMiss x.station

theorem endAddressed_eq (s : State) (x : Transaction) (e : Ending) : s.endAddressed x e = (s.transactionEnded x e).afterTransaction := by
  cases e <;> rfl

/-- What the steps of R33 change at the bus after the transaction is counted: slots alone. -/
theorem transactionEnded_spec (s : State) (x : Transaction) (e : Ending) :
    Changes (transacting x.station) s (s.transactionEnded x e) ∧ (s.transactionEnded x e).pbc.flight = none := by
  cases e with
  | valid st r =>
    have htail : Changes {.slots .stop x.station} (s.replied x st r) (s.transactionEnded x (.valid st r)) :=
      Changes.ite (fun _ => withdrawalStop_changes _ _) (fun _ => Changes.refl _ _)
    have hended : (s.ended x true).pbc.flight = none := congrArg Pbc.flight (ended_pbc s x true)
    have hreply : (s.replied x st r).pbc.flight = (s.ended x true).pbc.flight :=
      (congrArg Pbc.flight ((takeReply_changes (s.ended x true) x.station st
        { kind := x.kind, result := r, withdrawn := (s.slots x.station).isWithdrawn x.kind }).bus (by simp)) :)
    exact ⟨(replied_transacting s x st r).trans (htail.mono),
      (congrArg Pbc.flight (htail.bus (by simp))).trans (hreply.trans hended)⟩
  | miss m =>
    have hmiss : Changes (supervising x.station {.presence}) ((s.missCounted x m).modDish x.station Dish.missed)
        ((s.missCounted x m).takeMiss x.station) := takeMiss_changes _ _
    have htail : Changes ({.dish .claim x.station, .dish .reservation x.station, .passDue} ∪ accounting ∪ closing)
        ((s.missCounted x m).takeMiss x.station) (s.transactionEnded x (.miss m)) :=
      Changes.ite (fun _ => exhausted_frame _ _) (fun _ => Changes.refl _ _)
    refine ⟨(((missCounted_changes s x m).mono (busEnd_subset_transacting _)).trans (takeMiss_transacting _ _)).trans (htail.mono ?_), ?_⟩
    · refine Set.union_subset (Set.union_subset (by simp [Set.insert_subset_iff]) ?_) ?_
      · exact (accounting_subset_supervising _ _).trans Set.subset_union_right
      · exact (closing_subset_supervising _ _).trans Set.subset_union_right
    · exact (congrArg Pbc.flight (htail.bus (by simp))).trans ((congrArg Pbc.flight (hmiss.bus (by simp))).trans (missCounted_bus s x m).1)

/-! ## QUIET -/

section
variable {u : State} (hp : u.nvs.phase = .quiet)
include hp

/-- R49, R208: the end of a transaction starts the quiet timer that does not run. -/
theorem afterTransaction_of_quiet (hr : u.nvs.resetDue = false) (hq : u.nvs.quietDue = none) :
    u.afterTransaction = { u with nvs.quietDue := some (u.now + 2000) } := by
  simp [State.afterTransaction, hp, hr, hq]

theorem afterTransaction_of_resetDue (hr : u.nvs.resetDue = true) : u.afterTransaction = u.restartReset := by
  simp [State.afterTransaction, hp, hr]

/-- R49: a transaction that ends in QUIET leaves the bus free and the quiet timer at 2 s. -/
theorem finish_afterTransaction (hr : u.nvs.resetDue = false) (hq : u.nvs.quietDue = none) :
    SameBesideLine { u with nvs.quietDue := some (u.now + 2000) } u.afterTransaction.finish := by
  rw [afterTransaction_of_quiet hp hr hq]
  exact finish_frame_of_progress (restartProgress_of_settled (.inr hp))

end

/-- R208: an ALL_STOP burst in QUIET cancels the quiet timer. -/
theorem startAllStop_of_quiet {s : State} (hp : s.nvs.phase = .quiet) : s.startAllStop =
    ({ s with pbc.allStop := false, nvs.quietDue := none } : State).putInFlight .allStop 127
      (plFrame 127 6 [] ++ plFrame 127 6 [] ++ plFrame 127 6 []) := by
  have hquiet : (if s.nvs.phase == RestartPhase.quiet then none else s.nvs.quietDue) = none := if_pos (by simp [hp])
  simp only [State.startAllStop, hquiet]

/-- The end of an addressed transaction in QUIET. -/
theorem addressedEnds {s : State} {c : Instr} {x : Transaction} {e : Ending} {due now : Nat} (hpow : s.powered = true)
    (hp : s.nvs.phase = .quiet) (hr : s.nvs.resetDue = false) (hq : s.nvs.quietDue = none) (hnow : now = max s.now due)
    (he : exec c s = .next (s.onTimer (some due) (fun t => t.endAddressed x e))) :
    ∃ t, exec c s = .next t ∧ t.now = now ∧ t.pbc.flight = none ∧ t.nvs = { s.nvs with quietDue := some (t.now + 2000) } := by
  obtain ⟨hc, hf⟩ := transactionEnded_spec (s.beginAt due) x e
  have hn : ((s.beginAt due).transactionEnded x e).nvs = s.nvs := hc.store
  have hnow' : ((s.beginAt due).transactionEnded x e).now = now := hc.now.trans hnow.symm
  have hfin := finish_afterTransaction (u := (s.beginAt due).transactionEnded x e) (by rw [hn, hp]) (by rw [hn, hr]) (by rw [hn, hq])
  rw [← endAddressed_eq] at hfin
  refine ⟨_, exec_timer hpow he, ?_⟩
  obtain ⟨y, fp, lf, heq, -⟩ := hfin
  rw [heq]
  refine ⟨hnow', hf, ?_⟩
  show ({ ((s.beginAt due).transactionEnded x e).nvs with quietDue := _ } : Nvs) = _
  rw [hn]

theorem quietWaitsForTheBus : QuietWaitsForTheBus := by
  intro s hs hpow hp
  refine ⟨fun ha hh => ?_, fun hf ha => ?_, fun k e w f hk hf => ⟨fun hr hq => ?_, fun hr => ?_⟩, fun hr hq => ⟨?_, ?_⟩⟩
  · exact eventThatCannotOccurChangesNothing s _ (.busQuiet hp ha hh)
  · have hcan : s.canTransact = true := by simp [State.canTransact, hf, ha]
    have he := exec_event (c := .plTransactionStart) (f := (·.startTransaction)) hpow hcan rfl
    rw [show s.begin.startTransaction = s.begin.startAllStop from if_pos ha, startAllStop_of_quiet (s := s.begin) hp] at he
    refine happens_of _ s _ _ _ _ ⟨_, he, finish_frame_of_progress (restartProgress_of_settled (.inr hp))⟩ ⟨hpow, rfl, rfl, rfl⟩
      (by simp [SameBut, State.begin, State.putInFlight]) fun t ht => ?_
    have hlink := keepsLink_of (s := s) (v := ({ s.begin with pbc.allStop := false, nvs.quietDue := none } : State).putInFlight .allStop 127
      (plFrame 127 6 [] ++ plFrame 127 6 [] ++ plFrame 127 6 [])) rfl ht
    obtain ⟨y, fp, lf, rfl, -⟩ := ht
    exact ⟨inFlight_of rfl rfl _ _ (by simp [plFrame]) _, rfl, rfl, hlink⟩
  · have he := exec_timer hpow (exec_plBroadcastEnd hf hk)
    have hfin := finish_afterTransaction (u := (s.beginAt e).clearFlight) hp hr hq
    refine happens_of _ s _ _ _ _ ⟨_, he, hfin⟩ ⟨hpow, rfl, rfl, rfl⟩ (by simp [SameBut, State.beginAt, State.clearFlight]) fun t ht => ?_
    have hlink := keepsLink_of (s := s) (v := { (s.beginAt e).clearFlight with nvs.quietDue := some ((s.beginAt e).clearFlight.now + 2000) }) rfl ht
    obtain ⟨y, fp, lf, rfl, -⟩ := ht
    exact ⟨⟨rfl, rfl⟩, hlink⟩
  · have he := exec_timer hpow (exec_plBroadcastEnd hf hk)
    rw [afterTransaction_of_resetDue (u := (s.beginAt e).clearFlight) hp hr] at he
    exact happens_of _ s _ _ _ _ ⟨_, he, finish_frame_of_progress (restartProgress_of_settled (.inl rfl))⟩ ⟨hpow, rfl, rfl, rfl⟩
      (restartReset_sameBut rfl rfl) fun t ht => resetByRestart_of (s := (s.beginAt e).clearFlight) hs ht
  · intro d k e w f c now m h1 h48 hk1 hk2 hf hm
    obtain ⟨due, hnow, -, he⟩ := exec_of_misses h48 hk1 hk2 hf hm
    exact addressedEnds hpow hp hr hq hnow he
  · intro d k now chars st r haddr hst hfit
    obtain ⟨x, -, -, -, hnow, he⟩ := exec_of_reply haddr hst hfit
    exact addressedEnds hpow hp hr hq hnow he

end Sys2Proof.Machine

end

section
-- One declaration at a time: the check bounds memory, and every thread in flight takes its stack from it.
set_option Elab.async false

/-! The completions that DRAINING waits for (R171, R175, R205, R207). -/

namespace Sys2Proof.Machine

open Sys2Proof.Claims

/-! ## An event with which DRAINING ends -/

/-- What an event that leaves the store idle in DRAINING makes of the state. -/
theorem drainingEnds {s u : State} {c : Instr} {l : Set Part} {bs : List Block} {p : State → Prop} (hpow : s.powered = true)
    (he : exec c s = .next u.finish) (hs : Shape u) (hp : u.nvs.phase = .draining) (hd : u.drained = true) (hc : Changes l s.begin u)
    (hclock : Part.clock ∉ l) (hbus : Part.bus ∉ l) (hl : ∀ q ∈ l, ∀ b ∈ q.block, b ∈ bs)
    (hbs : [Block.dsv, .pbc, .znc, .sls, .fbu, .nvs, .act] ⊆ bs)
    (hq : ∀ o : Oli, o.replies = u.oli.replies → u.oli.notices ⊆ o.notices → p { u.restartProgress with oli := o }) :
    Happens c s s.now bs (fun t => StopsTheArray s t u.dish u.nvs ∧ p t) := by
  have hstop := restartProgress_changes hs hp hd
  have hall : Changes (l ∪ arrayStopping) s.begin u.restartProgress := hc.andThen hstop
  obtain ⟨h1, h2, h3, h4⟩ : Part.Same s.begin u.restartProgress .clock := hall.same _ (by simp [hclock])
  have hflight : u.pbc.flight = s.pbc.flight := (congrArg Pbc.flight (hc.bus hbus) :)
  refine happens_of c s u.restartProgress s.now bs _ ⟨_, he, finish_frame_of_progress rfl⟩ ⟨h1.trans hpow, h2, h3, h4⟩ ?_ fun t ht => ?_
  · refine (hall.sameBut (bs := bs) ?_ :)
    rintro q (hq | (rfl | hq) | ⟨d, hq⟩ | hq) b hb
    · exact hl q hq b hb
    · obtain rfl : Block.nvs = b := by simpa [Part.block] using hb
      exact hbs (by simp)
    · exact hbs ((within_onBus hq).2.2.2 b hb)
    · exact hbs ((within_stopping hq).2.2.2 b hb)
    · exact hbs ((within_closing hq).2.2.2 b hb)
  · obtain ⟨x, fp, lf, rfl, -⟩ := ht
    refine ⟨stopsTheArray_of hs hp hd (hc.now hclock) hflight _, hq _ ?_ hstop.notices⟩
    rw [hstop.link]

/-! ## Owed replies, and the parts of a completion -/

/-- R195: an owed reply that becomes ready. -/
def Owed.ready (o : Option Owed) (r : Result) : List Reply :=
  o.toList.map (fun w => { kind := w.kind, tag := w.tag, result := r, deferred := true })

theorem owe_eq (s : State) (o : Option Owed) (r : Result) :
    s.owe o r = { s with oli := { s.oli with replies := s.oli.replies ++ Owed.ready o r } } := by
  cases o with
  | none => simp [State.owe, Owed.ready]
  | some w => rfl

@[simp] theorem owe_lkt (s : State) (o : Option Owed) (r : Result) : (s.owe o r).lkt = s.lkt := by rw [owe_eq]

@[simp] theorem owe_nvs (s : State) (o : Option Owed) (r : Result) : (s.owe o r).nvs = s.nvs := by rw [owe_eq]

@[simp] theorem owe_entry (s : State) (o : Option Owed) (r : Result) (i : Nat) : (s.owe o r).entry i = s.entry i := by
  rw [State.entry, owe_lkt, State.entry]

theorem owe_replies (s : State) (o : Option Owed) (r : Result) : (s.owe o r).oli.replies = s.oli.replies ++ Owed.ready o r := by rw [owe_eq]

theorem Changes.replies {l : Set Part} {s t : State} (h : Changes l s t) (hl : Part.link ∉ l := by simp) :
    t.oli.replies = s.oli.replies := by rw [h.link hl]

theorem withLink_changes (s : State) (o : Oli) (h : o.notices = s.oli.notices) : Changes {.link} s { s with oli := o } := by
  refine ⟨fun q hq => ?_, rfl, fun _ hk => by rwa [h], id⟩
  cases q with
  | link => exact absurd rfl hq
  | _ => simp [Part.Same, State.dish, State.slots, State.zone, State.heater, State.counterAt]

theorem owe_changes (s : State) (o : Option Owed) (r : Result) : Changes {.link} s (s.owe o r) := by
  rw [owe_eq]
  exact withLink_changes s _ rfl

theorem withLockouts_changes (s : State) (x : Lkt) : Changes {.lockouts} s { s with lkt := x } := by
  refine ⟨fun q hq => ?_, rfl, fun _ hk => hk, id⟩
  cases q with
  | lockouts => exact absurd rfl hq
  | _ => simp [Part.Same, State.dish, State.slots, State.zone, State.heater, State.counterAt]

theorem setEntry_changes (s : State) (i : Nat) (f : Entry → Entry) : Changes {.lockouts} s (s.setEntry i f) :=
  (withLockouts_changes s _).trans ((raise_changes _ _).mono (Set.empty_subset _))

theorem setEntry_lkt (s : State) (i : Nat) (f : Entry → Entry) :
    (s.setEntry i f).lkt = { s.lkt with entries := s.lkt.entries.modify i f } := (raise_changes (s.modEntry i f) _).lockouts

theorem modify_eq_set_getD {α : Type} (l : List α) (i : Nat) (f : α → α) (x : α) : l.modify i f = l.set i (f (l.getD i x)) := by
  refine List.ext_getElem? fun j => ?_
  rw [List.getElem?_modify, List.getElem?_set]
  by_cases h : i = j
  · subst h
    rcases Nat.lt_or_ge i l.length with hi | hi
    · simp [hi]
    · simp [Nat.not_lt.mpr hi]
  · simp [h]

/-- The path freed, the operation off the queue, and the slot as the write left it (R171). -/
def State.lockFreed (s : State) (i : Nat) (x : Slot) (result : StoreResult) : State :=
  { s with nvs.path := .free, nvs.slots := tmod s.nvs.slots i (fun old => old.after x result),
           lkt.queue := s.lkt.queue.filter (fun o => o.index != i) }

theorem lockFreed_changes (s : State) (i : Nat) (x : Slot) (result : StoreResult) : Changes ({.store} ∪ {.lockouts}) s (s.lockFreed i x result) :=
  (withStore_changes s { s.nvs with path := .free, slots := tmod s.nvs.slots i (fun old => old.after x result) }).andThen
    (withLockouts_changes _ _)

theorem completeOp_of_failure (s : State) (o : StoreOp) {result : StoreResult} (h : result ≠ .success) :
    s.completeOp o result = (s.raise (.lockout o.index)).owe o.owed (.storeFailed (some o.index)) := by
  cases result with
  | success => exact absurd rfl h
  | failedKept | failedDamaged => cases hk : o.kind <;> simp [State.completeOp]

theorem completeOp_of_write (s : State) {o : StoreOp} (h : o.kind = .write) : s.completeOp o .success =
    (s.setEntry o.index (fun e => { e with persisted := true })).owe o.owed
      (.ok ((s.setEntry o.index (fun e => { e with persisted := true })).writeReply o.index o.owed)) := by
  simp [State.completeOp, h]

theorem completeOp_of_clear (s : State) {o : StoreOp} (h : o.kind = .clear) : s.completeOp o .success =
    (s.spend o.index id).owe o.owed (.ok (.released o.index)) := by
  simp [State.completeOp, h]

theorem setEntry_entry (s : State) {i : Nat} (f : Entry → Entry) (hi : i < s.lkt.entries.length) : (s.setEntry i f).entry i = f (s.entry i) := by
  simp only [State.entry, setEntry_lkt]
  simp [hi]

theorem owedReply_of_failure (s : State) (i : Nat) (o : StoreOp) {result : StoreResult} (h : result ≠ .success) :
    owedReply s i o result = Owed.ready o.owed (.storeFailed (some i)) := by
  cases hw : o.owed <;> simp [owedReply, Owed.ready, hw, h]

theorem owedReply_of_write (s : State) {i : Nat} {o : StoreOp} (h : o.kind = .write) {t : State} (ht : (t.entry i).scope = (s.entry i).scope) :
    owedReply s i o .success = Owed.ready o.owed (.ok (t.writeReply i o.owed)) := by
  rcases hw : o.owed with _ | ⟨kind, tag⟩
  · simp [owedReply, Owed.ready, hw]
  · by_cases hk : kind = 0x20
    · subst hk
      simp [owedReply, Owed.ready, hw, h, State.writeReply, ht]
    · have : t.writeReply i (some { kind := kind, tag := tag }) = .placed i none := by
        unfold State.writeReply
        split
        next heq => exact absurd (by simpa using congrArg (Option.map Owed.kind) heq) hk
        · rfl
      simp [owedReply, Owed.ready, hw, h, this, hk]

theorem owedReply_of_clear (s : State) (i : Nat) {o : StoreOp} (h : o.kind = .clear) :
    owedReply s i o .success = Owed.ready o.owed (.ok (.released i)) := by
  cases hw : o.owed <;> simp [owedReply, Owed.ready, hw, h]

/-- A completion that changes no coverage, a WRITE or a failure, touches the entry and what OLI owes alone. -/
theorem completeOp_plain {s : State} {o : StoreOp} {result : StoreResult} (hi : o.index < s.lkt.entries.length)
    (h : o.kind = .write ∨ result ≠ .success) :
    Changes {.lockouts, .link} s (s.completeOp o result)
      ∧ (s.completeOp o result).lkt = { s.lkt with entries := (s.completeOp o result).lkt.entries }
      ∧ ((s.completeOp o result).entry o.index).persisted = (if result = .success then true else (s.entry o.index).persisted)
      ∧ (s.completeOp o result).oli.replies = s.oli.replies ++ owedReply s o.index o result := by
  by_cases hr : result = .success
  · subst hr
    have hk := h.resolve_right (· rfl)
    rw [completeOp_of_write s hk, owedReply_of_write s hk (t := s.setEntry o.index (fun e => { e with persisted := true }))
      (by rw [setEntry_entry s _ hi]), if_pos rfl]
    have h1 := setEntry_changes s o.index (fun e => { e with persisted := true })
    refine ⟨(h1.mono).trans ((owe_changes _ _ _).mono), ?_, ?_, ?_⟩
    · rw [owe_lkt, setEntry_lkt]
    · rw [owe_entry, setEntry_entry s _ hi]
    · rw [owe_replies, h1.replies]
  · rw [completeOp_of_failure s o hr, owedReply_of_failure s _ o hr, if_neg hr]
    have h1 := raise_changes s (.lockout o.index)
    have hlkt : (s.raise (.lockout o.index)).lkt = s.lkt := h1.lockouts
    refine ⟨(h1.mono (Set.empty_subset _)).trans ((owe_changes _ _ _).mono), ?_, ?_, ?_⟩
    · rw [owe_lkt, hlkt]
    · rw [owe_entry, State.entry, hlkt, State.entry]
    · rw [owe_replies, h1.replies]

/-! ## The last operation, and the save -/

theorem tmod_eq_modify {α : Type} (l : List α) {i : Nat} (h : 1 ≤ i) (f : α → α) : tmod l i f = l.modify (i - 1) f := by
  obtain ⟨k, rfl⟩ := Nat.exists_eq_succ_of_ne_zero (Nat.one_le_iff_ne_zero.mp h)
  rfl

theorem takeWriteBack_of_nil {s : State} (h : s.lkt.writeBacks = []) : s.takeWriteBack = s := by
  simp [State.takeWriteBack, h]

/-- R171: the completion of the one operation left, with nothing listed to be written back. -/
theorem lockComplete_of_last {s : State} {i : Nat} {x : Slot} {o : StoreOp} {result : StoreResult} (hq : s.lkt.queue = [o])
    (hi : o.index = i) (hw : ((s.lockFreed i x result).completeOp o result).lkt.writeBacks = []) :
    s.lockComplete i x result = (s.lockFreed i x result).completeOp o result := by
  have hfind : s.lkt.queue.find? (fun o => o.index == i) = some o := by simp [hq, hi]
  show (match s.lkt.queue.find? (fun o => o.index == i) with
    | some o => ((s.lockFreed i x result).completeOp o result).takeWriteBack
    | none => s.lockFreed i x result) = _
  rw [hfind]
  exact takeWriteBack_of_nil hw

theorem exec_lockStoreComplete {s : State} {i : Nat} {x : Slot} (hpow : s.powered = true) (h : s.nvs.path = .lockout i x)
    (result : StoreResult) : exec (.lockStoreComplete result) s = .next (s.begin.lockComplete i x result).finish := by
  refine exec_event (f := fun t => t.lockComplete i x result) (occurs := true) hpow rfl ?_
  show execLockStoreComplete result s = _
  simp [execLockStoreComplete, h]

theorem exec_settingsSaveComplete {s : State} {x : Settings} {crc : BitVec 16} (hpow : s.powered = true) (h : s.nvs.path = .save x crc)
    (result : StoreResult) : exec (.settingsSaveComplete result) s = .next (s.begin.saveComplete x crc result).finish := by
  refine exec_event (f := fun t => t.saveComplete x crc result) (occurs := true) hpow rfl ?_
  show execSettingsSaveComplete result s = _
  simp [execSettingsSaveComplete, h]

/-- The store's record after the completion of a lockout operation. -/
theorem lockFreed_nvs (s : State) {i : Nat} (h1 : 1 ≤ i) (x : Slot) (result : StoreResult) : (s.lockFreed i x result).nvs = { s.nvs with
    path := .free, slots := s.nvs.slots.modify (i - 1) (fun old => old.after x result) } := by
  rw [State.lockFreed, tmod_eq_modify _ h1]

theorem lockFreed_queue {s : State} {i : Nat} {o : StoreOp} (hq : s.lkt.queue = [o]) (hi : o.index = i) (x : Slot) (result : StoreResult) :
    (s.lockFreed i x result).lkt.queue = [] := by
  simp [State.lockFreed, hq, hi]

theorem drained_of {s : State} (hq : s.lkt.queue = []) (hw : s.lkt.writeBacks = []) (hsave : s.nvs.save = .idle) : s.drained = true := by
  simp [State.drained, hq, hw, hsave]

section
variable {s : State} (hs : Shape s) (hpow : s.powered = true) (hphase : s.nvs.phase = .draining) (hw : s.lkt.writeBacks = [])
include hs hpow hphase hw

/-- A completion that changes no coverage ends DRAINING. -/
theorem lastOperationStopsTheArray {i : Nat} {x : Slot} {o : StoreOp} {result : StoreResult} (h1 : 1 ≤ i) (h63 : i ≤ 63)
    (hpath : s.nvs.path = .lockout i x) (hq : s.lkt.queue = [o]) (hi : o.index = i) (hsave : s.nvs.save = .idle)
    (hplain : o.kind = .write ∨ result ≠ .success) :
    Happens (.lockStoreComplete result) s s.now [.dsv, .pbc, .znc, .sls, .fbu, .lkt, .nvs, .act] (fun t =>
      StopsTheArray s t s.dish { s.nvs with path := .free, slots := s.nvs.slots.modify (i - 1) (fun old => old.after x result) }
        ∧ t.lkt.queue = [] ∧ (t.entry i).persisted = (if result = .success then true else (s.entry i).persisted)
        ∧ t.oli.replies = s.oli.replies ++ owedReply s i o result) := by
  subst hi
  have hlen : s.lkt.entries.length = 64 := by
    obtain ⟨-, -, -, -, -, -, -, -, h, -⟩ := hs
    exact h
  let v := s.begin.lockFreed o.index x result
  obtain ⟨hc, hlkt, hpers, hrep⟩ := completeOp_plain (s := v) (o := o) (result := result) (by show o.index < s.lkt.entries.length; omega) hplain
  have hv : Changes ({.store} ∪ {.lockouts}) s.begin v := lockFreed_changes _ _ _ _
  have hnvs : (v.completeOp o result).nvs = { s.nvs with path := .free, slots := s.nvs.slots.modify (o.index - 1) (fun old => old.after x result) } :=
    hc.store.trans (lockFreed_nvs s.begin h1 x result)
  have hqueue : (v.completeOp o result).lkt.queue = [] := (congrArg Lkt.queue hlkt).trans (lockFreed_queue (s := s.begin) hq rfl x result)
  have hback : (v.completeOp o result).lkt.writeBacks = [] := (congrArg Lkt.writeBacks hlkt).trans hw
  have he := exec_lockStoreComplete hpow hpath result
  rw [lockComplete_of_last (s := s.begin) hq rfl hback] at he
  have hshape : Shape (v.completeOp o result) := by
    have := (lockComplete_keepsForm s.begin o.index x result).shape hs
    rwa [lockComplete_of_last (s := s.begin) hq rfl hback] at this
  have hdish : (v.completeOp o result).dish = s.dish := funext fun d => (hc.dish).trans rfl
  have hall : Changes (({.store} ∪ {.lockouts}) ∪ {.lockouts, .link}) s.begin (v.completeOp o result) := hv.andThen hc
  have hd : (v.completeOp o result).drained = true := drained_of hqueue hback ((congrArg Nvs.save hnvs).trans hsave)
  have hp : (v.completeOp o result).nvs.phase = .draining := (congrArg Nvs.phase hnvs).trans hphase
  have happens := drainingEnds (p := fun t => t.lkt.queue = [] ∧ (t.entry o.index).persisted
      = (if result = .success then true else (s.entry o.index).persisted) ∧ t.oli.replies = s.oli.replies ++ owedReply s o.index o result)
    hpow he hshape hp hd hall (by simp) (by simp)
    (bs := [.dsv, .pbc, .znc, .sls, .fbu, .lkt, .nvs, .act]) (by simp [Part.block]) (by simp) (fun o' ho _ => ?_)
  · rwa [hdish, hnvs] at happens
  · have hl : (v.completeOp o result).restartProgress.lkt = (v.completeOp o result).lkt := (restartProgress_changes hshape hp hd).lockouts
    refine ⟨(congrArg Lkt.queue hl).trans hqueue, ?_, ho.trans hrep⟩
    exact (congrArg (fun x : Lkt => (x.entries.getD o.index {}).persisted) hl).trans hpers

/-- The completion of the save ends DRAINING. -/
theorem savedStopsTheArray {x : Settings} {crc : BitVec 16} {result : StoreResult} (hpath : s.nvs.path = .save x crc) (hq : s.lkt.queue = []) :
    Happens (.settingsSaveComplete result) s s.now [.dsv, .pbc, .znc, .sls, .fbu, .lkt, .nvs, .act] (fun t =>
      StopsTheArray s t s.dish { s.nvs with
          path := .free, save := .idle, saveTag := none, area := s.nvs.area.after (.image x crc) result,
          defaulted := s.nvs.defaulted && result != StoreResult.success }
        ∧ t.lkt = s.lkt
        ∧ t.oli.replies = s.oli.replies ++ s.nvs.saveTag.toList.map (fun tag =>
            { kind := 0x2B, tag := tag, result := if result = .success then .ok .accepted else .storeFailed none, deferred := true })) := by
  let u := s.begin.saveComplete x crc result
  let n : Nvs := { s.nvs with
    path := .free, save := .idle, saveTag := none, area := s.nvs.area.after (.image x crc) result,
    defaulted := s.nvs.defaulted && result != StoreResult.success }
  have hc : Changes ({.store} ∪ {.link}) s.begin u := (withStore_changes s.begin n).andThen (owe_changes _ _ _)
  have hnvs : u.nvs = n := owe_nvs _ _ _
  have hlkt : u.lkt = s.lkt := owe_lkt _ _ _
  have hd : u.drained = true := drained_of ((congrArg Lkt.queue hlkt).trans hq) ((congrArg Lkt.writeBacks hlkt).trans hw) (congrArg Nvs.save hnvs)
  have hp : u.nvs.phase = .draining := by rw [hnvs]; exact hphase
  have hshape : Shape u := (saveComplete_keepsForm s.begin x crc result).shape hs
  have hdish : u.dish = s.dish := funext fun d => (hc.dish).trans rfl
  have hready : u.oli.replies = s.oli.replies ++ s.nvs.saveTag.toList.map (fun tag =>
      { kind := 0x2B, tag := tag, result := if result = .success then .ok .accepted else .storeFailed none, deferred := true }) := by
    refine (owe_replies _ _ _).trans (congrArg (s.oli.replies ++ ·) ?_)
    show Owed.ready (s.nvs.saveTag.map _) _ = _
    cases s.nvs.saveTag <;> rfl
  have happens := drainingEnds (p := fun t => t.lkt = s.lkt ∧ t.oli.replies = s.oli.replies ++ s.nvs.saveTag.toList.map (fun tag =>
      { kind := 0x2B, tag := tag, result := if result = .success then .ok .accepted else .storeFailed none, deferred := true }))
    hpow (exec_settingsSaveComplete hpow hpath result) hshape hp hd hc (by simp) (by simp)
    (bs := [.dsv, .pbc, .znc, .sls, .fbu, .lkt, .nvs, .act]) (by simp [Part.block]) (by simp)
    (fun o ho _ => ⟨(restartProgress_changes hshape hp hd).lockouts.trans hlkt, ho.trans hready⟩)
  rwa [hdish, hnvs] at happens

end

end Sys2Proof.Machine

end

section
-- One declaration at a time: the check bounds memory, and every thread in flight takes its stack from it.
set_option Elab.async false

/-! The release effects of R175, and the CLEAR that DRAINING waits for. -/

namespace Sys2Proof.Machine

open Sys2Proof.Claims

/-! ## Coverage -/

theorem inSet_blocked (s : State) (sel : Entry → Bool) (d : Nat) : inSet (coveredBy sel s.lkt.entries) d = covered s sel d :=
  inSet_coveredBy sel s.lkt.entries d

/-- An entry that does not name the dish covers it neither before nor after it is SPENT. -/
theorem covered_of_spent {s t : State} {i d : Nat} {f : Entry → Entry} (ht : t.lkt.entries = s.lkt.entries.modify i f) (sel : Entry → Bool)
    (hd : inSet (s.entry i).scope d = false) (h : covered s sel d = true) : covered t sel d = true := by
  obtain ⟨e, he, hcov⟩ := List.any_eq_true.mp h
  obtain ⟨j, hj, rfl⟩ := List.getElem_of_mem he
  have hij : i ≠ j := by
    rintro rfl
    have hentry : s.entry i = s.lkt.entries[i] := by simp [State.entry, hj]
    rw [← hentry, hd] at hcov
    simp at hcov
  refine List.any_eq_true.mpr ⟨s.lkt.entries[j], ?_, hcov⟩
  rw [ht]
  refine List.mem_iff_getElem?.mpr ⟨j, ?_⟩
  simp [hij, hj]

/-! ## A gain of eligibility (R24, R85) -/

/-- The dish takes a STOW task when it gains eligibility: its zone has a cause, it is away from the stow position, and it holds no claim and
no open wave member. -/
def State.takesStow (s : State) (d : Nat) : Bool :=
  let r := s.dish d
  let z := s.zone r.zone
  let inWave : Bool := match z.wave with
    | some w => w.members.any (fun m => m.dish == d && (m.state == .waiting || m.state == .preemptWait || m.state == .admitted))
    | none => false
  z.causes != {} && !nearStow z r && r.claim.isNone && !inWave

theorem takesStow_eq (s : State) (d : Nat) : s.takesStow d = (!(s.zone (s.dish d).zone).causes.isEmpty && !s.atStow (s.dish d).zone d
    && (s.dish d).claim.isNone && !s.openMember (s.dish d).zone d) := by
  have hcauses : ((s.zone (s.dish d).zone).causes != {}) = !(s.zone (s.dish d).zone).causes.isEmpty := by
    rw [Bool.eq_iff_iff]
    simp [← causes_isEmpty]
  have hopen (m : WaveMember) : m.state.isOpen = (m.state == .waiting || m.state == .preemptWait || m.state == .admitted) := by
    cases m.state <;> rfl
  have hmember : s.openMember (s.dish d).zone d = (match (s.zone (s.dish d).zone).wave with
      | some w => w.members.any (fun m => m.dish == d && (m.state == .waiting || m.state == .preemptWait || m.state == .admitted))
      | none => false) := by
    unfold State.openMember
    simp only [hopen] <;> rfl
  rw [hmember, ← hcauses]
  rfl

theorem gain_dish {s : State} {d : Nat} (hd : s.isDish d = true) : (s.gain d).dish d =
    if s.takesStow d then { s.dish d with claim := some { ref := .task }, task := some .stow } else s.dish d := by
  rw [takesStow_eq]
  show (State.trigger (State.autoStow s d)).dish d = _
  unfold State.autoStow
  simp only
  split
  · exact modDish_dish_same s d _ hd
  · rfl

/-! ## Heater states -/

section
variable (s : State)

theorem modHeater_state {d : Nat} {f : Heater → Heater} (hf : ∀ h, (f h).state = h.state) (e : Nat) :
    ((s.modHeater d f).heater e).state = (s.heater e).state := by
  by_cases he : e = d
  · subst he
    cases h : thas s.mlc.heaters e with
    | true => rw [modHeater_heater_same s e f h, hf]
    | false => rw [State.modHeater, tget_tmod_absent _ _ _ h]
  · rw [modHeater_heater_other s d e f he]

theorem orderStage_heaterState (d stage e : Nat) : ((s.orderStage d stage).heater e).state = (s.heater e).state := by
  let t := s.modHeater d (fun h => { h with granted := stage, counted := max h.counted stage })
  have hafter : Changes (accounting ∪ {.slots .heat d}) t (s.orderStage d stage) :=
    (settle_changes t (s.dish d).feeder).andThen (orderHeat_changes _ d stage)
  exact (congrArg Heater.state hafter.heater).trans (modHeater_state s (f := fun h => { h with granted := stage, counted := max h.counted stage }) (fun _ => rfl) e)

theorem allocate_heaterState (f : Feeder) (e : Nat) : ((s.allocate f).heater e).state = (s.heater e).state := by
  unfold State.allocate
  refine List.foldlRecOn (motive := fun t : State => (t.heater e).state = (s.heater e).state) _ _
    (List.foldlRecOn (motive := fun t : State => (t.heater e).state = (s.heater e).state) _ _ rfl fun t ht x _ => ?_) fun t ht x _ => ?_
  · simp only
    split
    · exact (orderStage_heaterState t _ _ e).trans ht
    · exact ht
  · show ((t.tryRaise f x.1 x.2).heater e).state = _
    unfold State.tryRaise
    simp only
    split
    · split
      · exact (orderStage_heaterState t _ _ e).trans ht
      · exact ht
    · exact ht

theorem cutStages_heaterState (f : Feeder) (demand fuel e : Nat) : ((s.cutStages f demand fuel).heater e).state = (s.heater e).state := by
  induction fuel generalizing s with
  | zero => rfl
  | succ fuel ih =>
    unfold State.cutStages
    split
    · rfl
    · split
      · rfl
      · exact (ih _).trans ((congrArg Heater.state (count_changes _ _ _).heater).trans (orderStage_heaterState s _ _ e))

theorem allocateOn_heaterState (f : Feeder) (e : Nat) : ((s.allocateOn f).heater e).state = (s.heater e).state := by
  have hdemand : (((s.allocate f).applyDemand f).heater e).state = ((s.allocate f).heater e).state := by
    unfold State.applyDemand
    split
    · exact cutStages_heaterState _ f _ _ e
    · rfl
  exact (congrArg Heater.state (syncUnmet_changes _).heater).trans (hdemand.trans (allocate_heaterState s f e))

theorem gateAndAllocate_heaterState (d e : Nat) : ((s.gateAndAllocate d).heater e).state = ((s.gateHeater d).heater e).state := by
  unfold State.gateAndAllocate
  simp only
  split
  · rfl
  · exact allocateOn_heaterState _ _ e

/-- R144: an enabled heater that nothing blocks is not BLOCKED. -/
theorem gate_open (h : Heater) (p : Policy) (now : Nat) (last : Option Status) : (h.gate true false p now last).state ≠ .blocked := by
  have hfrom : (h.fromStatus p now last).state ≠ .blocked := by
    unfold Heater.fromStatus
    cases last with
    | none => simp
    | some st =>
      simp only
      split
      case h_2 => split <;> simp
      all_goals simp
  unfold Heater.gate
  cases hs : h.state <;> simp [hs, hfrom]

/-! ## The end of an entry's coverage on one dish -/

/-- What the end of an entry's coverage of dish `d` may change. -/
def uncovering (d : Nat) : Set Part := {.dish .claim d, .passDue} ∪ heating

@[simp] theorem mem_uncovering (p : Part) (d : Nat) : p ∈ uncovering d ↔ (p = .dish .claim d ∨ p = .passDue) ∨ p ∈ heating := Iff.rfl

/-- The dish as a gain of eligibility leaves it, where it has one (R175). -/
def State.regained (s : State) (motion : DishSet) (d : Nat) : State :=
  if inSet motion d && !inSet s.motionBlocked d && s.eligible d then s.gain d else s

theorem uncoverDish_eq (motion heat : DishSet) (d : Nat) : s.uncoverDish motion heat d =
    if inSet heat d && !inSet (s.regained motion d).heatBlocked d then (s.regained motion d).gateAndAllocate d else s.regained motion d := rfl

theorem regained_changes (motion : DishSet) (d : Nat) : Changes {.dish .claim d, .passDue} s (s.regained motion d) :=
  Changes.ite (fun _ => gain_changes s d) (fun _ => Changes.refl _ s)

theorem uncoverDish_tail (motion heat : DishSet) (d : Nat) : Changes heating (s.regained motion d) (s.uncoverDish motion heat d) := by
  rw [uncoverDish_eq]
  exact Changes.ite (fun _ => gateAndAllocate_heating _ d) (fun _ => Changes.refl _ _)

theorem uncoverDish_changes (motion heat : DishSet) (d : Nat) : Changes (uncovering d) s (s.uncoverDish motion heat d) :=
  (regained_changes s motion d).andThen (uncoverDish_tail s motion heat d)

theorem uncoverDish_dish (motion heat : DishSet) {d : Nat} (hd : s.isDish d = true) : (s.uncoverDish motion heat d).dish d =
    if inSet motion d && !covered s (·.motion) d && s.eligible d && s.takesStow d then
      { s.dish d with claim := some { ref := .task }, task := some .stow } else s.dish d := by
  rw [(uncoverDish_tail s motion heat d).dish, State.regained, State.motionBlocked, inSet_blocked]
  cases inSet motion d && !covered s (·.motion) d && s.eligible d with
  | true => rw [if_pos rfl, gain_dish hd, Bool.true_and]
  | false => simp

/-- Another dish's release effects leave a heater's state alone. -/
theorem uncoverDish_heaterState (motion heat : DishSet) {x d : Nat} (h : d ≠ x) :
    ((s.uncoverDish motion heat x).heater d).state = (s.heater d).state := by
  have hre : (s.regained motion x).heater d = s.heater d := (regained_changes s motion x).heater
  rw [uncoverDish_eq]
  split
  · rw [gateAndAllocate_heaterState, State.gateHeater, modHeater_heater_other _ _ _ _ h, hre]
  · rw [hre]

/-- R144, R175: the heater of a dish whose last cover is gone leaves BLOCKED. -/
theorem uncoverDish_opens (motion heat : DishSet) {d : Nat} (hh : thas s.mlc.heaters d = true) (hheat : inSet heat d = true)
    (hopen : covered s (·.heat) d = false) (henable : (s.dish d).profile.heatEnable = true)
    (hkey : ∀ x, (s.dish d).last = some x → x.key ≠ .allOff) : ((s.uncoverDish motion heat d).heater d).state ≠ .blocked := by
  let u := s.regained motion d
  have hc : Changes {.dish .claim d, .passDue} s u := regained_changes s motion d
  have hblocked : inSet u.heatBlocked d = false := by
    rw [State.heatBlocked, hc.lockouts]
    exact (inSet_blocked s (·.heat) d).trans hopen
  have hprofile : (u.dish d).profile.heatEnable = true := (congrArg Profile.heatEnable hc.profile).trans henable
  have hlast : (u.dish d).last = (s.dish d).last := hc.status.1
  have hkey' : ((u.dish d).keyNow == .allOff) = false := by
    unfold Dish.keyNow
    rw [hlast]
    cases hl : (s.dish d).last with
    | none => rfl
    | some x => simpa using hkey x hl
  have hhas : thas u.mlc.heaters d = true := (hc.hasHeater d).trans hh
  have hgate : (u.gateHeater d).heater d = (u.heater d).gate true false u.mlc.policy u.now (u.dish d).last := by
    rw [State.gateHeater, modHeater_heater_same _ _ _ hhas, hprofile, hblocked, hkey']
    rfl
  rw [uncoverDish_eq, if_pos (by rw [hheat]; show (true && !inSet u.heatBlocked d) = true; rw [hblocked]; rfl), gateAndAllocate_heaterState]
  show ((u.gateHeater d).heater d).state ≠ _
  rw [hgate]
  exact gate_open _ _ _ _

end

end Sys2Proof.Machine

end

section
-- One declaration at a time: the check bounds memory, and every thread in flight takes its stack from it.
set_option Elab.async false

/-! The CLEAR that DRAINING waits for (R171, R175, R207). -/

namespace Sys2Proof.Machine

open Sys2Proof.Claims

/-! ## An entry becomes SPENT (R175) -/

/-- What an entry that becomes SPENT may change. -/
def releasing : Set Part := {.lockouts} ∪ ({.passDue} ∪ {p | ∃ d, p ∈ uncovering d})

@[simp] theorem mem_releasing (p : Part) : p ∈ releasing ↔ p = .lockouts ∨ p = .passDue ∨ ∃ d, p ∈ uncovering d := Iff.rfl

section
variable (s : State) (i : Nat)

/-- The entry marked SPENT, its dishes not yet told. -/
def State.unlocked : State := s.setEntry i (fun e => { e with state := .spent, persisted := false })

/-- The walk over the dishes that the entry covered. -/
def State.uncovered : State :=
  (members (s.entry i).scope).foldl (fun t d => t.uncoverDish s.motionBlocked s.heatBlocked d) (s.unlocked i)

theorem spend_eq : s.spend i id = (s.uncovered i).trigger := rfl

theorem uncovered_changes : Changes ({.passDue} ∪ {p | ∃ d, p ∈ uncovering d}) (s.unlocked i) (s.uncovered i) :=
  Changes.foldl _ _ _ fun t d _ => (uncoverDish_changes t _ _ d).mono fun _ hp => .inr ⟨d, hp⟩

theorem spend_changes : Changes releasing s (s.spend i id) :=
  (setEntry_changes s i _).andThen ((uncovered_changes s i).trans ((trigger_changes _).mono Set.subset_union_left))

theorem spend_lkt : (s.spend i id).lkt =
    { s.lkt with entries := s.lkt.entries.modify i (fun e => { e with state := .spent, persisted := false }) } :=
  ((uncovered_changes s i).lockouts (by simp)).trans (setEntry_lkt s i _)

theorem spend_notice : .lockout i ∈ (s.spend i id).oli.notices :=
  ((uncovered_changes s i).trans ((trigger_changes _).mono Set.subset_union_left)).notices
    (mem_raise (s.modEntry i (fun e => { e with state := .spent, persisted := false })) (.lockout i))

/-- On a dish that the entry covered, in the state in which the walk comes to it, release effects give what R175 says. -/
theorem uncoverDish_unblockedRecord {t u : State} {d : Nat} (hd : t.isDish d = true) (hdish : t.dish d = s.dish d)
    (hzone : t.zone (s.dish d).zone = s.zone (s.dish d).zone) (hlkt : t.lkt = u.lkt) :
    (t.uncoverDish s.motionBlocked s.heatBlocked d).dish d = unblockedRecord s u d := by
  have hkey : ((s.dish d).keyNow == .clear) = (match (s.dish d).last with | some x => x.key == .clear | none => true) := by
    unfold Dish.keyNow
    cases (s.dish d).last <;> rfl
  have hcov : covered t (·.motion) d = covered u (·.motion) d := by rw [covered, covered, hlkt]
  have helig : t.eligible d = ((s.dish d).state == .ready && ((s.dish d).keyNow == .clear && !covered u (·.motion) d)) := by
    rw [State.eligible, State.unblocked, hdish, State.motionBlocked, inSet_blocked, hcov]
  have hstow : t.takesStow d = s.takesStow d := by
    simp only [State.takesStow, hdish, hzone]
  have hcond : (inSet s.motionBlocked d && !covered t (·.motion) d && t.eligible d && t.takesStow d) =
      (covered s (·.motion) d && !covered u (·.motion) d && (s.dish d).state == .ready
        && (match (s.dish d).last with | some x => x.key == .clear | none => true) && s.takesStow d) := by
    rw [State.motionBlocked, inSet_blocked, hcov, helig, hstow, ← hkey]
    cases covered u (·.motion) d <;> simp [Bool.and_assoc]
  rw [uncoverDish_dish t _ _ hd, hcond, hdish]
  simp only [unblockedRecord, State.takesStow, Bool.and_assoc] <;> rfl

variable {s i} (hs : Shape s)
include hs

theorem uncovered_dish (d : Nat) : (s.uncovered i).dish d = unblockedRecord s (s.uncovered i) d := by
  have hlkt : (s.uncovered i).lkt = (s.unlocked i).lkt := (uncovered_changes s i).lockouts (by simp)
  by_cases hd : inSet (s.entry i).scope d = true
  · obtain ⟨t, hst, htu⟩ := foldl_meets (fun t d => t.uncoverDish s.motionBlocked s.heatBlocked d) (members (s.entry i).scope)
      (nodup_members _) (s.unlocked i) (fun t x => uncoverDish_changes t _ _ x) ((mem_members _ d).mpr hd)
    have hbegin : Changes {.lockouts} s (s.unlocked i) := setEntry_changes s i _
    have ht : t.dish d = s.dish d := (hst.dish (by simp +contextual)).trans hbegin.dish
    have hz : t.zone (s.dish d).zone = s.zone (s.dish d).zone := (hst.zone (by simp +contextual)).trans hbegin.zone
    have htl : t.lkt = (s.unlocked i).lkt := hst.lockouts (by simp +contextual)
    have hdt : t.isDish d = true := (hst.isDish d).trans ((hbegin.isDish d).trans (hs.isDish_of_mem hd))
    refine (htu.dish (by simp +contextual)).trans (uncoverDish_unblockedRecord s hdt ht hz (htl.trans hlkt.symm))
  · have hscope : inSet (s.entry i).scope d = false := by simpa using hd
    have hkept : (s.uncovered i).dish d = s.dish d := by
      have hwalk : Changes {p | ∃ x ∈ members (s.entry i).scope, p ∈ uncovering x} (s.unlocked i) (s.uncovered i) :=
        Changes.foldl _ _ _ fun t x hx => (uncoverDish_changes t _ _ x).mono fun p hp => ⟨x, hx, hp⟩
      refine (hwalk.dish ?_).trans (setEntry_changes s i _).dish
      rintro p ⟨x, hx, hp⟩
      have : d = x := by cases p <;> simp_all
      exact hd ((mem_members _ d).mp (this ▸ hx))
    have hlkt' : (s.uncovered i).lkt.entries = s.lkt.entries.modify i (fun e => { e with state := .spent, persisted := false }) :=
      congrArg Lkt.entries (hlkt.trans (setEntry_lkt s i _))
    have hnone : (covered s (·.motion) d && !covered (s.uncovered i) (·.motion) d) = false := by
      cases hcov : covered s (·.motion) d with
      | false => rfl
      | true => rw [covered_of_spent hlkt' (·.motion) hscope hcov]; rfl
    rw [hkept]
    simp [unblockedRecord, hnone]

/-- R144, R175: a heater that no entry covers any more leaves BLOCKED. -/
theorem uncovered_heater {d : Nat} (hcov : covered s (·.heat) d = true) (hopen : covered (s.uncovered i) (·.heat) d = false)
    (henable : (s.dish d).profile.heatEnable = true) (hkey : ∀ x, (s.dish d).last = some x → x.key ≠ .allOff) :
    ((s.uncovered i).heater d).state ≠ .blocked := by
  have hlkt : (s.uncovered i).lkt = (s.unlocked i).lkt := (uncovered_changes s i).lockouts (by simp)
  have hlkt' : (s.uncovered i).lkt.entries = s.lkt.entries.modify i (fun e => { e with state := .spent, persisted := false }) :=
    congrArg Lkt.entries (hlkt.trans (setEntry_lkt s i _))
  have hd : inSet (s.entry i).scope d = true := by
    by_contra hd
    rw [covered_of_spent hlkt' (·.heat) (by simpa using hd) hcov] at hopen
    cases hopen
  obtain ⟨pre, post, hsplit⟩ := List.append_of_mem ((mem_members _ d).mpr hd)
  have hnodup := nodup_members (s.entry i).scope
  rw [hsplit] at hnodup
  have hpre : d ∉ pre := fun hm => (List.nodup_append.mp hnodup).2.2 d hm d (by simp) rfl
  have hpost : d ∉ post := (List.nodup_cons.mp (List.nodup_append.mp hnodup).2.1).1
  let g (t : State) (x : Nat) : State := t.uncoverDish s.motionBlocked s.heatBlocked x
  have hwalk : Changes {p | ∃ x ∈ pre, p ∈ uncovering x} (s.unlocked i) (pre.foldl g (s.unlocked i)) :=
    Changes.foldl _ _ _ fun t x hx => (uncoverDish_changes t _ _ x).mono fun p hp => ⟨x, hx, hp⟩
  have hbegin : Changes {.lockouts} s (s.unlocked i) := setEntry_changes s i _
  have hfold : s.uncovered i = post.foldl g (g (pre.foldl g (s.unlocked i)) d) := by
    rw [State.uncovered, hsplit, List.foldl_append, List.foldl_cons]
  generalize pre.foldl g (s.unlocked i) = t at hwalk hfold
  have hall : Changes ({.lockouts} ∪ {p | ∃ x ∈ pre, p ∈ uncovering x}) s t := hbegin.andThen hwalk
  have htl : t.lkt = (s.uncovered i).lkt := (hwalk.lockouts (by simp +contextual)).trans hlkt.symm
  have hlast : (t.dish d).last = (s.dish d).last := (hall.status (by simp +contextual)).1
  have hhas : thas t.mlc.heaters d = true := by
    refine (hall.hasHeater d).trans ?_
    obtain ⟨h1, h48⟩ := (hs.isDish d).mp (hs.isDish_of_mem hd)
    obtain ⟨-, -, hlen, -⟩ := hs
    simp [thas, hlen, h1, h48]
  have hmet : ((g t d).heater d).state ≠ .blocked := by
    refine uncoverDish_opens t _ _ hhas ((inSet_blocked s (·.heat) d).trans hcov) ?_ ?_ ?_
    · rw [covered, htl]
      exact hopen
    · exact (congrArg Profile.heatEnable (hall.profile (by simp +contextual))).trans henable
    · rw [hlast]
      exact hkey
  rw [hfold]
  refine List.foldlRecOn (motive := fun u : State => (u.heater d).state ≠ .blocked) post g hmet fun u hu x hx => ?_
  rwa [show g u x = u.uncoverDish s.motionBlocked s.heatBlocked x from rfl,
    uncoverDish_heaterState u _ _ (fun he : d = x => hpost (he ▸ hx))]

end

/-! ## The CLEAR -/

theorem unblockedRecord_congr {s t t' : State} (h : t.lkt.entries = t'.lkt.entries) : unblockedRecord s t = unblockedRecord s t' := by
  funext d
  have hcov : covered t (·.motion) d = covered t' (·.motion) d := by rw [covered, covered, h]
  unfold unblockedRecord
  rw [hcov]

theorem Happens.imp {c : Instr} {s : State} {now : Nat} {l : List Block} {p q : State → Prop} (h : Happens c s now l p) (hpq : ∀ t, p t → q t) :
    Happens c s now l q := by
  obtain ⟨t, h1, h2, h3, h4, h5, h6, h7⟩ := h
  exact ⟨t, h1, h2, h3, h4, h5, h6, hpq t h7⟩

/-- The blocks that a CLEAR touches before the array is stopped. -/
theorem within_clearing {q : Part} (hq : q ∈ (({.store} ∪ {.lockouts}) ∪ releasing ∪ {.link} : Set Part)) :
    ∀ b ∈ q.block, b ∈ [Block.mlc, .dsv, .pbc, .znc, .sls, .fbu, .lkt, .nvs, .act] := by
  rcases hq with ((rfl | rfl) | rfl | rfl | ⟨d, (rfl | rfl) | hq⟩) | rfl
  case inl.inr.inr.inr.inr =>
    rcases hq with ((hq | rfl) | ⟨e, rfl⟩) | ⟨e, rfl⟩
    · exact (within_accounting hq).2.2.2
    all_goals simp [Part.block]
  all_goals simp [Part.block]

theorem lockFreed_shape {s : State} (hs : Shape s) (i : Nat) (x : Slot) (result : StoreResult) : Shape (s.lockFreed i x result) :=
  (KeepsForm.of_store (s := s) (s.lockFreed i x result).lkt (s.lockFreed i x result).nvs rfl rfl
    (fun h => (List.length_filter_le _ _).trans h) (by simp [State.lockFreed]) ⟨rfl, rfl, rfl, rfl⟩).shape hs

section
variable {s : State} (hs : Shape s) (hpow : s.powered = true) (hphase : s.nvs.phase = .draining) (hw : s.lkt.writeBacks = [])
include hs hpow hphase hw

/-- A CLEAR that succeeds ends DRAINING, its release effects before the stop orders. -/
theorem lastClearStopsTheArray {i : Nat} {x : Slot} {o : StoreOp} (h1 : 1 ≤ i) (h63 : i ≤ 63) (hpath : s.nvs.path = .lockout i x)
    (hq : s.lkt.queue = [o]) (hi : o.index = i) (hsave : s.nvs.save = .idle) (hk : o.kind = .clear) :
    Happens (.lockStoreComplete .success) s s.now [.mlc, .dsv, .pbc, .znc, .sls, .fbu, .lkt, .nvs, .act] (fun t =>
      StopsTheArray s t (unblockedRecord s t) { s.nvs with path := .free, slots := s.nvs.slots.modify (i - 1) (fun _ => x) }
      ∧ t.lkt = { s.lkt with queue := [], entries := s.lkt.entries.set i { s.entry i with state := .spent, persisted := false } }
      ∧ t.fbu.passDue = true ∧ .lockout i ∈ t.oli.notices ∧ t.oli.replies = s.oli.replies ++ owedReply s i o .success
      ∧ (∀ d, covered s (·.heat) d = true → covered t (·.heat) d = false → (s.dish d).profile.heatEnable = true →
          (∀ x, (s.dish d).last = some x → x.key ≠ .allOff) → (t.heater d).state ≠ .blocked)) := by
  subst hi
  let v := s.begin.lockFreed o.index x .success
  let u := (v.spend o.index id).owe o.owed (.ok (.released o.index))
  have hlock : v.completeOp o .success = u := completeOp_of_clear v hk
  have hv : Changes ({.store} ∪ {.lockouts}) s.begin v := lockFreed_changes _ _ _ _
  have hshapev : Shape v := lockFreed_shape (s := s.begin) hs _ _ _
  have hspend : Changes releasing v (v.spend o.index id) := spend_changes v _
  have hc : Changes (({.store} ∪ {.lockouts}) ∪ releasing ∪ {.link}) s.begin u := (hv.andThen hspend).andThen (owe_changes _ _ _)
  have hnvs : u.nvs = { s.nvs with path := .free, slots := s.nvs.slots.modify (o.index - 1) (fun _ => x) } :=
    (owe_nvs _ _ _).trans ((hspend.store (by simp)).trans (lockFreed_nvs s.begin h1 x .success))
  have hlkt : u.lkt = { s.lkt with
      queue := [], entries := s.lkt.entries.set o.index { s.entry o.index with state := .spent, persisted := false } } := by
    refine (owe_lkt _ _ _).trans ((spend_lkt v _).trans ?_)
    rw [modify_eq_set_getD _ _ _ ({} : Entry), show v.lkt = { s.lkt with queue := [] } from
      congrArg (fun q => ({ s.lkt with queue := q } : Lkt)) (lockFreed_queue (s := s.begin) hq rfl x .success)]
    rfl
  have hback : u.lkt.writeBacks = [] := (congrArg Lkt.writeBacks hlkt).trans hw
  have hcomplete : s.begin.lockComplete o.index x .success = u := by
    rw [← hlock]
    exact lockComplete_of_last (s := s.begin) hq rfl (by rw [show (s.begin.lockFreed o.index x .success) = v from rfl, hlock]; exact hback)
  have he := exec_lockStoreComplete hpow hpath .success
  rw [hcomplete] at he
  have hshape : Shape u := by
    have := (lockComplete_keepsForm s.begin o.index x .success).shape hs
    rwa [hcomplete] at this
  have hd : u.drained = true := drained_of (congrArg Lkt.queue hlkt) hback ((congrArg Nvs.save hnvs).trans hsave)
  have hp : u.nvs.phase = .draining := (congrArg Nvs.phase hnvs).trans hphase
  have hstop := restartProgress_changes hshape hp hd
  have hentries : (v.uncovered o.index).lkt.entries = u.lkt.entries := 
    (congrArg Lkt.entries (owe_lkt (v.spend o.index id) o.owed (.ok (.released o.index)))).symm
  have hdish : u.dish = unblockedRecord s u := by
    rw [← unblockedRecord_congr hentries]
    funext d
    exact ((owe_changes _ _ _).dish).trans (uncovered_dish hshapev d)
  have happens := drainingEnds (p := fun t => unblockedRecord s t = u.dish ∧ t.lkt = { s.lkt with
      queue := [], entries := s.lkt.entries.set o.index { s.entry o.index with state := .spent, persisted := false } }
      ∧ t.fbu.passDue = true ∧ .lockout o.index ∈ t.oli.notices ∧ t.oli.replies = s.oli.replies ++ owedReply s o.index o .success
      ∧ (∀ d, covered s (·.heat) d = true → covered t (·.heat) d = false → (s.dish d).profile.heatEnable = true →
          (∀ x, (s.dish d).last = some x → x.key ≠ .allOff) → (t.heater d).state ≠ .blocked))
    hpow he hshape hp hd hc (by simp) (by simp) (bs := [.mlc, .dsv, .pbc, .znc, .sls, .fbu, .lkt, .nvs, .act]) (fun q hq => within_clearing hq) (by simp)
    (fun o' ho hn => ?_)
  · refine Happens.imp happens fun t ht => ?_
    obtain ⟨hst, hrec, hrest⟩ := ht
    rw [← hrec, hnvs] at hst
    exact ⟨hst, hrest⟩
  · have hl : u.restartProgress.lkt = u.lkt := hstop.lockouts
    refine ⟨?_, hl.trans hlkt, hstop.passDue ?_, hn ?_, ho.trans ?_, fun d hcov hopen henable hkey => ?_⟩
    · rw [hdish]
      exact unblockedRecord_congr (congrArg Lkt.entries hl)
    · exact (owe_changes _ _ _).passDue rfl
    · exact (owe_changes _ _ _).notices (spend_notice v o.index)
    · rw [owe_replies, hspend.replies, owedReply_of_clear s o.index hk]
      exact congrArg (· ++ _) (hv.replies (by simp))
    · have hheat : u.restartProgress.heater d = (v.uncovered o.index).heater d := (hstop.heater).trans ((owe_changes _ _ _).heater)
      show (u.restartProgress.heater d).state ≠ _
      rw [hheat]
      refine uncovered_heater hshapev hcov ?_ henable hkey
      rw [covered, hentries, ← hl]
      exact hopen

end

end Sys2Proof.Machine

end

section
-- One declaration at a time: the check bounds memory, and every thread in flight takes its stack from it.
set_option Elab.async false

/-! What STOPPING waits for (R208, Table 62): every command but the expiry of its timer leaves the phase to the dishes. -/

namespace Sys2Proof.Machine

open Sys2Proof.Claims

theorem theLastCompletionInDrainingStopsTheArray : TheLastCompletionInDrainingStopsTheArray := by
  intro s result hs hpow hphase hw
  refine ⟨fun i x o h1 h63 hpath hq hi hsave hplain => ?_, fun i x o h1 h63 hpath hq hi hsave hk hr => ?_, fun x crc hpath hq => ?_⟩
  · have h := lastOperationStopsTheArray hs hpow hphase hw h1 h63 hpath hq hi hsave hplain
    cases result <;> exact h
  · subst hr
    exact lastClearStopsTheArray hs hpow hphase hw h1 h63 hpath hq hi hsave hk
  · have h := savedStopsTheArray (result := result) hs hpow hphase hw hpath hq
    cases result <;> exact h

/-! ## What leaves the store's record alone -/

section
variable (s : State)

@[simp] theorem putInFlight_nvs (k : TxKind) (d : Nat) (frame : List PlChar) : (s.putInFlight k d frame).nvs = s.nvs := rfl

@[simp] theorem countRetry_nvs : s.countRetry.nvs = s.nvs := nvs_of_skeleton (countRetry_skeleton s)

@[simp] theorem setEntry_nvs (i : Nat) (f : Entry → Entry) : (s.setEntry i f).nvs = s.nvs := (setEntry_changes s i f).store

theorem startPoll_nvs : s.startPoll.nvs = s.nvs := by
  unfold State.startPoll State.choosePoll
  cases s.pollTarget with
  | some d => rfl
  | none =>
    dsimp only
    cases s.startRound.pollTarget <;> rfl

theorem startStop_nvs (d : Nat) : (s.startStop d).nvs = s.nvs := by
  unfold State.startStop
  simp [apply_ite State.nvs]

theorem startMove_nvs (d : Nat) : (s.startMove d).nvs = s.nvs := by
  unfold State.startMove
  split
  · rfl
  next p _ =>
    cases p.isRetry <;> cases p.cmd <;> simp

theorem startHeat_nvs (d : Nat) : (s.startHeat d).nvs = s.nvs := by
  unfold State.startHeat
  split
  · rfl
  · simp [apply_ite State.nvs]

/-- R208: only in QUIET does the start of a transaction touch a RESTART timer. -/
theorem startTransaction_nvs (h : s.nvs.phase ≠ .quiet) : s.startTransaction.nvs = s.nvs := by
  unfold State.startTransaction
  split
  · simp [State.startAllStop, h]
  split
  · rfl
  split
  · exact startPoll_nvs s
  split
  · exact startStop_nvs s _
  split
  · exact startMove_nvs s _
  split
  · exact startHeat_nvs s _
  · exact startPoll_nvs s

theorem afterTransaction_of_ne (h : s.nvs.phase ≠ .quiet) : s.afterTransaction = s := if_neg (by simpa using h)

/-- R33: the end of an addressed transaction outside QUIET. -/
theorem endAddressed_nvs (x : Transaction) (e : Ending) (h : s.nvs.phase ≠ .quiet) : (s.endAddressed x e).nvs = s.nvs := by
  have hn : (s.transactionEnded x e).nvs = s.nvs := (transactionEnded_spec s x e).1.store
  rw [endAddressed_eq, afterTransaction_of_ne _ (by rwa [hn]), hn]

theorem arrive_nvs (kind tag : Nat) (body : List Byte) : (s.arrive kind tag body).nvs = s.nvs := by
  have refused (t : State) (why : Reason) : (t.refuseArrival kind tag why).nvs = t.nvs := nvs_of_skeleton (refuseArrival_skeleton t kind tag why)
  unfold State.arrive
  simp only
  split
  · rfl
  split
  · exact refused _ _
  split
  · exact refused _ _
  split
  · exact refused _ _
  · rfl

theorem frameIn_nvs (kind tag : Byte) (body : List Byte) (crc : BitVec 16) : (s.frameIn kind tag body crc).nvs = s.nvs := by
  unfold State.frameIn
  split
  · exact nvs_of_skeleton (dropFrame_skeleton s _)
  split
  · exact nvs_of_skeleton (dropFrame_skeleton s _)
  · exact arrive_nvs s _ _ _

theorem freeRecord_nvs (k : NoticeKey) : (s.freeRecord k).nvs = s.nvs := by cases k <;> rfl

theorem sent_nvs (out : Outgoing) : (s.sent out).nvs = s.nvs := by
  cases out with
  | flow _ => rfl
  | reply _ _ => rfl
  | notice k _ live =>
    cases live with
    | true => exact freeRecord_nvs _ k
    | false => rfl

theorem frameEnd_nvs : s.frameEnd.nvs = s.nvs := by
  unfold State.frameEnd
  split
  · rfl
  · split
    · rfl
    · exact sent_nvs _ _

theorem mastEvent_nvs (m : Nat) (added : Bool) (f : Mast → Mast) : (s.mastEvent m added f).nvs = s.nvs :=
  (congrArg Skeleton.nvs (mastEvent_skeleton s m added f) :)

theorem takeMastFrame_nvs (m : Nat) (bytes : List Byte) : (s.takeMastFrame m bytes).nvs = s.nvs := by
  unfold State.takeMastFrame
  simp only
  split
  · rfl
  split
  · rfl
  split
  · rfl
  · unfold State.acceptMast
    split <;> exact mastEvent_nvs _ m _ _

theorem estopAsserted_nvs : s.estopAsserted.nvs = s.nvs := by
  have raised (t : State) : (t.raise (.lockout 0)).nvs = t.nvs := (raise_changes t _).store
  unfold State.estopAsserted
  simp only
  split
  · exact (nvs_of_skeleton (coverAll_skeleton _ _ _ _ _)).trans (setEntry_nvs _ _ _)
  · exact raised _

theorem estopDeasserted_nvs : s.estopDeasserted.nvs = s.nvs := (raise_changes { s with lkt.estopLevel := false } _).store

end

/-! ## The store in STOPPING -/

/-- Whatever completes, the store's record and the states of the dishes stay. -/
theorem completeOp_changes (s : State) (o : StoreOp) (result : StoreResult) : Changes (releasing ∪ {.link}) s (s.completeOp o result) := by
  by_cases hr : result = .success
  · subst hr
    cases hk : o.kind with
    | write =>
      rw [completeOp_of_write s hk]
      exact ((setEntry_changes s _ _).mono (by simp)).trans ((owe_changes _ _ _).mono)
    | clear =>
      rw [completeOp_of_clear s hk]
      exact (spend_changes s _).andThen (owe_changes _ _ _)
  · rw [completeOp_of_failure s o hr]
    exact ((raise_changes s _).mono (Set.empty_subset _)).trans ((owe_changes _ _ _).mono)

theorem takeWriteBack_changes (s : State) : Changes {.lockouts} s s.takeWriteBack := by
  unfold State.takeWriteBack
  split
  · exact Changes.ite (fun _ => (withLockouts_changes s _).trans ((raise_changes _ _).mono (Set.empty_subset _))) fun _ => Changes.refl _ s
  · exact Changes.refl _ s

/-- The operation leaves RESTART's phase, its timer and the states of the dishes. -/
def KeepsMotion (s u : State) : Prop :=
  u.nvs.phase = s.nvs.phase ∧ u.nvs.stopDue = s.nvs.stopDue ∧ ∀ d, (u.dish d).state = (s.dish d).state

/-- An operation that follows a write `v` to the records of the store and of the lockouts. -/
theorem keepsMotion_of_changes {s v u : State} {l : Set Part} (h : Changes l v u) (hphase : v.nvs.phase = s.nvs.phase)
    (hdue : v.nvs.stopDue = s.nvs.stopDue) (hdsv : v.dsv = s.dsv) (hstore : Part.store ∉ l := by simp)
    (hstate : ∀ d, Part.dish .state d ∉ l := by simp) : KeepsMotion s u := by
  have hn : u.nvs = v.nvs := h.same _ hstore
  refine ⟨(congrArg Nvs.phase hn).trans hphase, (congrArg Nvs.stopDue hn).trans hdue, fun d => ?_⟩
  have hd : (u.dish d).state = (v.dish d).state := h.same _ (hstate d)
  exact hd.trans (congrArg (fun x : Dsv => (tget x.dishes d Dish.initial).state) hdsv)

theorem startWrite_keepsMotion (s : State) : KeepsMotion s s.startWrite := by
  unfold State.startWrite
  split
  · exact keepsMotion_of_changes (raise_changes _ _) rfl rfl rfl
  · exact ⟨rfl, rfl, fun _ => rfl⟩

theorem lockComplete_keepsMotion (s : State) (i : Nat) (x : Slot) (result : StoreResult) : KeepsMotion s (s.lockComplete i x result) := by
  unfold State.lockComplete
  simp only
  split
  next o _ =>
    exact keepsMotion_of_changes ((completeOp_changes (s.lockFreed i x result) o result).andThen (takeWriteBack_changes _)) rfl rfl rfl
  · exact ⟨rfl, rfl, fun _ => rfl⟩

theorem saveComplete_keepsMotion (s : State) (st : Settings) (crc : BitVec 16) (result : StoreResult) :
    KeepsMotion s (s.saveComplete st crc result) :=
  keepsMotion_of_changes (owe_changes _ _ _) rfl rfl rfl

/-! ## A step in STOPPING -/

/-- Before the end of its event a command has left STOPPING as it was: the store's record is whole, or a dish still moves. -/
def StaysStopping (s u : State) : Prop :=
  u.nvs.phase = .stopping ∧ u.nvs.stopDue = s.nvs.stopDue ∧ (u.nvs = s.nvs ∨ StillMoves u)

/-- Nothing has happened, or the event ends from a state that stays in STOPPING. -/
def GoesOn (s t : State) : Prop := t = s ∨ ∃ u, t = u.finish ∧ StaysStopping s u

theorem goesOn_next {s u t : State} (ht : (Host.Outcome.next u : Step) = .next t) (hu : GoesOn s u) : GoesOn s t := by
  injection ht with ht
  exact ht ▸ hu

/-- R195: outside IDLE only an owner that is asked in every phase takes part. -/
theorem handOver_nvs {s : State} {c : Instr} {owner : State → Handled} {always : Bool} (hp : s.nvs.phase ≠ .idle)
    (ho : always = true → (owner s).1.nvs = s.nvs) : (s.handOver c always owner).nvs = s.nvs := by
  unfold State.handOver
  split
  · rfl
  split
  · rfl
  next hb =>
    have h := ho (by simpa [hp] using hb)
    split
    next heq =>
      rw [heq] at h
      exact h
    next heq =>
      rw [heq] at h
      exact h

theorem goesOn_event {s : State} {occurs : Bool} {f : State → State} (hf : StaysStopping s (f s.begin)) : GoesOn s (s.onEvent occurs f) := by
  unfold State.onEvent
  split
  · exact .inr ⟨_, rfl, hf⟩
  · exact .inl rfl

section
variable {s : State} (hp : s.nvs.phase = .stopping)
include hp

theorem staysStopping_of_nvs {u : State} (h : u.nvs = s.nvs) : StaysStopping s u :=
  ⟨h ▸ hp, congrArg Nvs.stopDue h, .inl h⟩

theorem staysStopping_of_keepsMotion (hm : StillMoves s) {u : State} (h : KeepsMotion s u) : StaysStopping s u := by
  obtain ⟨hphase, hdue, hstate⟩ := h
  obtain ⟨d, h1, h48, hd⟩ := hm
  exact ⟨hphase.trans hp, hdue, .inr ⟨d, h1, h48, by rwa [hstate]⟩⟩

theorem goesOn_event_of_nvs {occurs : Bool} {f : State → State} (hf : (f s.begin).nvs = s.nvs) : GoesOn s (s.onEvent occurs f) :=
  goesOn_event (staysStopping_of_nvs hp hf)

theorem goesOn_timer {due : Option Nat} {f : State → State} (hf : ∀ x, (f (s.beginAt x)).nvs = s.nvs) : GoesOn s (s.onTimer due f) := by
  unfold State.onTimer
  split
  next x =>
    split
    · exact .inr ⟨_, rfl, staysStopping_of_nvs hp (hf x)⟩
    · exact .inl rfl
  · exact .inl rfl

/-- R195: in STOPPING a request is answered RESTARTING, or by an owner that changes nothing. -/
theorem goesOn_request (c : Instr) {owner : State → Handled} {always : Bool} (ho : always = true → ∀ u : State, (owner u).1 = u) :
    GoesOn s (s.onRequest c owner always) := by
  have hq : (s.queued c).nvs = s.nvs := by
    unfold State.queued
    split <;> rfl
  unfold State.onRequest
  split
  · refine .inr ⟨_, rfl, staysStopping_of_nvs hp (Eq.trans ?_ hq)⟩
    show ((s.queued c).taken.handOver c always owner).nvs = (s.queued c).taken.nvs
    exact handOver_nvs (by rw [show (s.queued c).taken.nvs = s.nvs from hq, hp]; simp) fun ha => congrArg State.nvs (ho ha _)
  · exact .inl rfl

/-- R31, R33: the end of a transaction that waits for a reply. -/
theorem goesOn_awaiting (due : Transaction → Option Nat) (e : Transaction → Ending) :
    GoesOn s (match s.pbc.awaiting with | some x => s.onTimer (due x) (fun t => t.endAddressed x (e x)) | none => s) := by
  split
  next x _ => exact goesOn_timer hp fun y => endAddressed_nvs (s.beginAt y) _ _ (by show s.nvs.phase ≠ _; simp [hp])
  · exact .inl rfl

theorem goesOn_timer_of_skeleton {due : Option Nat} {f : State → State} (hf : ∀ u, (f u).skeleton = u.skeleton) : GoesOn s (s.onTimer due f) :=
  goesOn_timer hp fun x => (nvs_of_skeleton (hf (s.beginAt x)) :)

/-- R208: every command leaves STOPPING to the dishes, but power's loss and the expiry of the stop timer. -/
theorem exec_goesOn (htimers : PhaseTimers s) (hm : StillMoves s) (hpow : s.powered = true) {c : Instr} {t : State} (ht : exec c s = .next t)
    (htp : t.powered = true) (hc : c ≠ .restartStopTimerExpiry) : GoesOn s t := by
  have hnq : s.nvs.phase ≠ .quiet := by simp [hp]
  cases hr : (requestOf c).isSome with
  | true =>
    obtain ⟨owner, always, he, ho⟩ := exec_request hr
    exact goesOn_next ((he s).symm.trans ht) (goesOn_request hp c ho)
  | false =>
    cases c
    case restartStopTimerExpiry => exact absurd rfl hc
    case powerUp x => exact goesOn_next ht (.inl (if_pos hpow))
    case powerFail x =>
      injection ht with ht
      rw [← ht, if_pos hpow] at htp
      cases htp
    case quietTimerExpiry =>
      have hq : s.nvs.quietDue = none := by
        rw [← Option.not_isSome_iff_eq_none]
        exact fun h => hnq (htimers.1 h)
      exact goesOn_next ht (.inl (onTimer_of_none _ hq))
    case olFrameArrival => exact goesOn_next ht (goesOn_event_of_nvs hp (frameIn_nvs s.begin _ _ _ _))
    case olFrameDrop => exact goesOn_next ht (goesOn_event_of_nvs hp (nvs_of_skeleton (dropFrame_skeleton s.begin _) :))
    case olRxGapTimeout => exact goesOn_next ht (goesOn_event_of_nvs hp rfl)
    case olFrameSent => exact goesOn_next ht (goesOn_event_of_nvs hp (frameEnd_nvs s.begin))
    case storeWriteStart => exact goesOn_next ht (goesOn_event (staysStopping_of_keepsMotion hp hm (startWrite_keepsMotion s.begin)))
    case lockStoreComplete r =>
      refine goesOn_next ht ?_
      split
      · exact goesOn_event (staysStopping_of_keepsMotion hp hm (lockComplete_keepsMotion s.begin _ _ r))
      · exact .inl rfl
    case settingsSaveComplete r =>
      refine goesOn_next ht ?_
      split
      · exact goesOn_event (staysStopping_of_keepsMotion hp hm (saveComplete_keepsMotion s.begin _ _ r))
      · exact .inl rfl
    case estopAssert => exact goesOn_next ht (goesOn_event_of_nvs hp (estopAsserted_nvs s.begin))
    case estopDeassert => exact goesOn_next ht (goesOn_event_of_nvs hp (estopDeasserted_nvs s.begin))
    case plTransactionStart => exact goesOn_next ht (goesOn_event_of_nvs hp (startTransaction_nvs s.begin hnq))
    case plReplyReceived => exact goesOn_next ht (goesOn_awaiting hp _ _)
    case plReplyWindowExpiry => exact goesOn_next ht (goesOn_awaiting hp _ _)
    case plReplyGap => exact goesOn_next ht (goesOn_awaiting hp _ _)
    case plBroadcastEnd =>
      exact goesOn_next ht (goesOn_timer hp fun x => (congrArg State.nvs (afterTransaction_of_ne (s.beginAt x).clearFlight hnq) :))
    case slewTimerExpiry d => exact goesOn_next ht (goesOn_timer_of_skeleton hp fun u => slewTimeoutOn_skeleton u d)
    case homeTimerExpiry d => exact goesOn_next ht (goesOn_timer_of_skeleton hp fun u => homeTimeoutOn_skeleton u d)
    case stopTimerExpiry d => exact goesOn_next ht (goesOn_timer_of_skeleton hp fun u => stopTimeoutOn_skeleton u d)
    case mastReportFrame m bytes framingError =>
      refine goesOn_next ht (goesOn_event_of_nvs hp ?_)
      cases framingError with
      | true => rfl
      | false => exact takeMastFrame_nvs s.begin m bytes
    case mastFrameGapTimeout => exact goesOn_next ht (goesOn_event_of_nvs hp rfl)
    case slotTimerExpiry m => exact goesOn_next ht (goesOn_timer hp fun x => mastEvent_nvs ((s.beginAt x).modMast m _) m _ _)
    case releaseTimerExpiry z => exact goesOn_next ht (goesOn_timer_of_skeleton hp fun u => releaseExpires_skeleton u z)
    case admissionPass => exact goesOn_next ht (goesOn_event_of_nvs hp (nvs_of_skeleton (runPass_skeleton s.begin) :))
    case sensorHoldExpiry d => exact goesOn_next ht (goesOn_timer_of_skeleton hp fun u => holdExpires_skeleton u d)
    case deadlineExpiry id => exact goesOn_next ht (goesOn_timer_of_skeleton hp fun u => expireDeadline_skeleton u id)
    case oneSecondTick => exact goesOn_next ht (goesOn_timer_of_skeleton hp secondTick_skeleton)
    all_goals simp [requestOf] at hr

end

/-! ## The end of the event -/

theorem stillMoves_iff {s : State} (hs : Shape s) : StillMoves s ↔ s.atRest = false := by
  rw [← Bool.not_eq_true, atRest_iff hs]
  simp only [StillMoves, ← isMoving_iff, not_forall, Bool.not_eq_false, exists_prop]

theorem restartProgress_of_stopping {u : State} (hp : u.nvs.phase = .stopping) : u.restartProgress = if u.atRest then u.enterQuiet else u := by
  have hd : (u.nvs.phase == .draining) = false := by rw [hp]; rfl
  simp [State.restartProgress, hp]

/-- In STOPPING the end of an event touches the line and the store's record alone. -/
theorem finish_beside {u : State} (hp : u.nvs.phase = .stopping) :
    u.finish.powered = u.powered ∧ u.finish.now = u.now ∧ u.finish.dsv = u.dsv ∧ u.finish.pbc = u.pbc
      ∧ u.finish.nvs = (if u.atRest then u.enterQuiet else u).nvs := by
  obtain ⟨x, fp, lf, h, -⟩ := finish_frame_of_progress (restartProgress_of_stopping hp)
  rw [h]
  split <;> exact ⟨rfl, rfl, rfl, rfl, rfl⟩

theorem dish_of_dsv {s t : State} (h : t.dsv = s.dsv) (d : Nat) : t.dish d = s.dish d :=
  congrArg (fun x : Dsv => tget x.dishes d Dish.initial) h

theorem stillMoves_of_dsv {s t : State} (h : t.dsv = s.dsv) (hm : StillMoves s) : StillMoves t := by
  obtain ⟨d, h1, h48, hx⟩ := hm
  exact ⟨d, h1, h48, by rwa [dish_of_dsv h]⟩

/-- R208: the record of the store in QUIET, where the line is free or not. -/
def Nvs.quieted (n : Nvs) (t : State) : Nvs :=
  { n with phase := .quiet, stopDue := none, quietDue := if t.pbc.flight = none then some (t.now + 2000) else none }

/-- R208, Table 62: at the end of an event that stays in STOPPING, the phase goes by the dishes. -/
theorem phase_of_goesOn {s t : State} (hp : s.nvs.phase = .stopping) (hm : StillMoves s) (ht : Shape t) (h : GoesOn s t) :
    (StillMoves t → t.nvs.phase = .stopping ∧ t.nvs.stopDue = s.nvs.stopDue) ∧ (¬ StillMoves t → t.nvs = s.nvs.quieted t) := by
  rcases h with rfl | ⟨u, rfl, hphase, hdue, hkept⟩
  · exact ⟨fun _ => ⟨hp, rfl⟩, fun hn => absurd hm hn⟩
  obtain ⟨-, hnow, hdsv, hpbc, hnvs⟩ := finish_beside hphase
  have hrest : u.finish.atRest = u.atRest := congrArg (fun x : Dsv => x.dishes.all (fun d => !d.state.isMoving)) hdsv
  have hmoves : StillMoves u.finish ↔ u.atRest = false := by rw [stillMoves_iff ht, hrest]
  refine ⟨fun hx => ?_, fun hn => ?_⟩
  · rw [hnvs, if_neg (by simp [hmoves.mp hx])]
    exact ⟨hphase, hdue⟩
  · have hkept : u.nvs = s.nvs := hkept.resolve_right fun hx => hn (stillMoves_of_dsv hdsv hx)
    have hr : u.atRest = true := by rwa [hmoves, Bool.not_eq_false] at hn
    rw [hnvs, if_pos hr, Nvs.quieted, hpbc, hnow]
    simp only [State.enterQuiet, hkept, Option.isNone_iff_eq_none]

end Sys2Proof.Machine

end

section
-- One declaration at a time: the check bounds memory, and every thread in flight takes its stack from it.
set_option Elab.async false

/-! O57: the events that bring the last dish to rest, and STOPPING's end by them (R21, R208). -/

namespace Sys2Proof.Machine

open Sys2Proof.Claims

/-! ## The last dish -/

/-- R21: an idle sound reply takes a dish out of STOPPING. -/
theorem takeReply_endsStop {v : State} {d : Nat} {st : Status} {a : Answer} (hd : v.isDish d = true) (hx : (v.dish d).state = .stopping)
    (ho : st.owner = .remote) (hf : st.fault = 0) (hm : st.moving = false) : ((v.takeReply d st a).dish d).state.isMoving = false := by
  have h3 := assessedTo3_of_sound hd (by rw [hx]; rfl) ho hf
  have hstate : ((v.assessedTo3 d st).dish d).state = .stopping := by rw [h3, heardAt_state hd, hx]
  have h4 := assessedTo4_of_still (not_stopActs_of (.inr (.inr (.inr hstate)))) (by simp [hstate])
  have hd3 : (v.assessedTo3 d st).isDish d = true := by rw [h3, modDish_isDish, hd]
  rw [takeReply_eq, assessMotion_of_stopping (h4.state.trans hstate), if_neg (by simp [hm])]
  obtain ⟨-, -, h5⟩ := stopEnds_spec (v.assessedTo4 d st) d ((h4.isDish d).trans hd3) st
  rw [h5]
  split
  · rfl
  split <;> rfl

/-- R21: the expiry of the stop timer takes a dish out of STOPPING. -/
theorem stopTimeoutOn_isMoving {v : State} {d : Nat} (hd : v.isDish d = true) : ((v.stopTimeoutOn d).dish d).state.isMoving = false := by
  have h : (v.stopTimeoutOn d).dish d = _ := enterFaulted_dish (v.modDish d (fun r => { r with timer := none })) d (some .stopTimeout)
    ((modDish_isDish v d d _).trans hd)
  rw [h]
  rfl

/-- Dish `d` is the only one that keeps STOPPING open, and it is making its stop (R208). -/
def LastToStop (s : State) (d : Nat) : Prop :=
  1 ≤ d ∧ d ≤ 48 ∧ (s.dish d).state = .stopping ∧ ∀ e, 1 ≤ e → e ≤ 48 → e ≠ d →
    (s.dish e).state ≠ .slewing ∧ (s.dish e).state ≠ .homing ∧ (s.dish e).state ≠ .stopping

section
variable {s : State} {d : Nat}

theorem not_stillMoves_of_last {u t : State} (h : LastToStop s d) (hdsv : t.dsv = u.dsv) (hd : (u.dish d).state.isMoving = false)
    (hothers : ∀ e, e ≠ d → (u.dish e).state = (s.dish e).state) : ¬ StillMoves t := by
  rintro ⟨e, h1, h48, hx⟩
  rw [dish_of_dsv hdsv, ← isMoving_iff] at hx
  by_cases he : e = d
  · rw [he, hd] at hx
    cases hx
  · obtain ⟨-, -, -, hrest⟩ := h
    obtain ⟨n1, n2, n3⟩ := hrest e h1 h48 he
    rw [hothers e he, isMoving_iff] at hx
    rcases hx with hx | hx | hx
    · exact n1 hx
    · exact n2 hx
    · exact n3 hx

section
variable (hs : Shape s) (hpow : s.powered = true) (hp : s.nvs.phase = .stopping)
include hs hpow hp

/-- R21: the idle reply of the last dish. -/
theorem idleReply_stopsTheLast {now : Nat} {chars : List PlChar} {st : Status} (hlast : LastToStop s d) (ha : Addressed s .poll d now)
    (hst : IsStatus chars d st .none) (hm : st.moving = false) (ho : st.owner = .remote) (hf : st.fault = 0) :
    ∃ t, exec (.plReplyReceived chars) s = .next t ∧ t.powered = true ∧ ¬ StillMoves t ∧ t.pbc.flight = none ∧ t.now = now := by
  obtain ⟨x, -, -, rfl, hnow, he⟩ := exec_of_reply ha hst (r := .none) rfl
  have ⟨h1, h48, hstop, _⟩ := hlast
  let b := s.beginAt x.frameEnd
  have hd : b.isDish x.station = true := (hs.isDish _).mpr ⟨h1, h48⟩
  have hend := ended_changes b x true
  obtain ⟨hc, hflight⟩ := transactionEnded_spec b x (.valid st .none)
  let u := b.transactionEnded x (.valid st .none)
  have hu : u.nvs = s.nvs := hc.store
  have hsame : b.endAddressed x (.valid st .none) = u := by
    rw [endAddressed_eq]
    exact afterTransaction_of_ne u (by rw [hu, hp]; simp)
  obtain ⟨hfp, hfn, hfd, hfb, -⟩ := finish_beside (u := u) (by rw [hu, hp])
  have hrest : (u.dish x.station).state.isMoving = false := by
    have htail : Changes {.slots .stop x.station} (b.replied x st .none) u :=
      Changes.ite (fun _ => withdrawalStop_changes _ _) (fun _ => Changes.refl _ _)
    rw [htail.state]
    exact takeReply_endsStop ((hend.isDish _).trans hd) (hend.state.trans hstop) ho hf hm
  have hothers (e : Nat) (hne : e ≠ x.station) : (u.dish e).state = (s.dish e).state := hc.state (by simp [hne])
  refine ⟨u.finish, (exec_timer hpow he).trans (congrArg (fun v : State => Host.Outcome.next v.finish) hsame), ?_,
    not_stillMoves_of_last hlast hfd hrest hothers, (congrArg Pbc.flight hfb).trans hflight, ?_⟩
  · obtain ⟨hup, -⟩ : Part.Same b u .clock := hc.same _ (by simp)
    exact hfp.trans (hup.trans hpow)
  · exact hfn.trans (hc.now.trans hnow.symm)

/-- R21: the stop timeout of the last dish. -/
theorem stopTimeout_stopsTheLast {due : Nat} (hlast : LastToStop s d) (htimer : (s.dish d).timer = some { kind := .stop, due := due }) :
    ∃ t, exec (.stopTimerExpiry d) s = .next t ∧ t.powered = true ∧ ¬ StillMoves t ∧ t.pbc.flight = s.pbc.flight ∧ t.now = max s.now due := by
  have ⟨h1, h48, _⟩ := hlast
  let b := s.beginAt due
  let u := b.stopTimeoutOn d
  have hc : Changes (expiring d) b u := stopTimeoutOn_expiring b d
  have hu : u.nvs = s.nvs := hc.store
  obtain ⟨hfp, hfn, hfd, hfb, -⟩ := finish_beside (u := u) (by rw [hu, hp])
  have he : exec (.stopTimerExpiry d) s = .next u.finish :=
    exec_timer (f := fun v => v.stopTimeoutOn d) hpow (by rw [← timerDue_of s htimer]; rfl)
  have hothers (e : Nat) (hne : e ≠ d) : (u.dish e).state = (s.dish e).state := hc.state (by simp [hne])
  refine ⟨u.finish, he, ?_, not_stillMoves_of_last hlast hfd (stopTimeoutOn_isMoving ((hs.isDish _).mpr ⟨h1, h48⟩)) hothers,
    (congrArg Pbc.flight (hfb.trans (hc.bus (by simp))) :), hfn.trans hc.now⟩
  obtain ⟨hup, -⟩ : Part.Same b u .clock := hc.same _ (by simp)
  exact hfp.trans (hup.trans hpow)

end
end

/-! ## The end of STOPPING -/

/-- The expiry of STOPPING's timer moves no dish. -/
theorem restartStopTimerExpiry_dsv {s t : State} (ht : exec .restartStopTimerExpiry s = .next t) : t.dsv = s.dsv := by
  injection ht with ht
  rw [← ht]
  unfold State.onTimer
  split
  next due _ =>
    split
    · obtain ⟨x, fp, lf, h, -⟩ := finish_frame_of_progress (s := (s.beginAt due).enterQuiet) (restartProgress_of_settled (.inr rfl))
      rw [h]
      rfl
    · rfl
  · rfl

theorem stoppingEndsWhenTheLastDishIsAtRest : StoppingEndsWhenTheLastDishIsAtRest := by
  intro s hs _ htimers hpow hp hmoves
  have phase {c : Instr} {t : State} (he : exec c s = .next t) (htp : t.powered = true) (hc : c ≠ .restartStopTimerExpiry) :=
    phase_of_goesOn hp hmoves ((exec_keepsForm s c he).shape hs) (exec_goesOn hp htimers hmoves hpow he htp hc)
  have quietIn {c : Instr} {t : State} (he : exec c s = .next t) (htp : t.powered = true) (hrest : ¬ StillMoves t) :
      t.nvs = s.nvs.quieted t := by
    by_cases hc : c = .restartStopTimerExpiry
    · subst hc
      exact absurd (stillMoves_of_dsv (restartStopTimerExpiry_dsv he) hmoves) hrest
    · exact (phase he htp hc).2 hrest
  refine ⟨fun c t he htp hc => (phase he htp hc).1, fun c t he htp => quietIn he htp, fun d now chars x hlast ha hst hm ho hf => ?_,
    fun d due hlast htimer => ?_⟩
  · obtain ⟨t, he, htp, hrest, hflight, hnow⟩ := idleReply_stopsTheLast hs hpow hp hlast ha hst hm ho hf
    exact ⟨t, he, hrest, hflight, hnow, quietIn he htp hrest⟩
  · obtain ⟨t, he, htp, hrest, hflight, hnow⟩ := stopTimeout_stopsTheLast hs hpow hp hlast htimer
    exact ⟨t, he, hrest, hflight, hnow, quietIn he htp hrest⟩

end Sys2Proof.Machine

open Sys2Proof.Machine in
/-- Settles O57: each phase of a RESTART, with what leads out of it. -/
theorem restartRunsThroughItsPhases : Obligations.RestartRunsThroughItsPhases := by
  unfold Obligations.RestartRunsThroughItsPhases
  exact ⟨restartDrainsThenStopsTheArray, theLastCompletionInDrainingStopsTheArray, phaseTimersRunOnlyInTheirPhases,
    stoppingEndsWhenTheLastDishIsAtRest, restartTimersLeadToTheReset, quietWaitsForTheBus⟩

end

section
-- One declaration at a time: the check bounds memory, and every thread in flight takes its stack from it.
set_option Elab.async false

/-! O35: wind figures, demand and the slew time estimate (R56, R57, R121, R123, R124). -/

namespace Sys2Proof.Machine
open Sys2Proof.Claims

/-! ## Gust and sustained speed (R56, R57) -/

theorem sustainedOf_of_ne_nil {w : List Nat} (h : w ≠ []) : sustainedOf w = some (roundedMean w.sum w.length) :=
  if_neg (by simpa using h)

/-- The gust is the sustained speed of the newest three samples. -/
theorem gustOf_eq (w : List Nat) : gustOf w = sustainedOf (w.drop (w.length - 3)) := rfl

theorem gustOf_append_three (w : List Nat) (x y z : Nat) : gustOf (w ++ [x, y, z]) = some (roundedMean (x + y + z) 3) := by
  have hdrop : (w ++ [x, y, z]).drop ((w ++ [x, y, z]).length - 3) = [x, y, z] := by simp
  rw [gustOf_eq, hdrop, sustainedOf_of_ne_nil (by simp)]
  simp [add_assoc]

/-- A rounded mean stays within a bound of its samples. -/
theorem roundedMean_le {sum c m : Nat} (hc : 0 < c) (h : sum ≤ c * m) : roundedMean sum c ≤ m := by
  have hround : c / 2 < c := Nat.div_lt_self hc (by omega)
  exact Nat.lt_succ_iff.mp (Nat.div_lt_of_lt_mul (by rw [Nat.mul_succ]; omega))

theorem sustainedOf_le {w : List Nat} {m v : Nat} (hm : ∀ x ∈ w, x ≤ m) (h : sustainedOf w = some v) : v ≤ m := by
  cases w with
  | nil => simp [sustainedOf] at h
  | cons y w =>
    rw [sustainedOf_of_ne_nil (by simp), Option.some.injEq] at h
    have hsum : (y :: w).sum ≤ (y :: w).length * m := by simpa using List.sum_le_card_nsmul (y :: w) m hm
    exact h ▸ roundedMean_le (by simp) hsum

theorem gustOf_le {w : List Nat} {m v : Nat} (hm : ∀ x ∈ w, x ≤ m) (h : gustOf w = some v) : v ≤ m :=
  sustainedOf_le (fun x hx => hm x (List.mem_of_mem_drop hx)) (gustOf_eq w ▸ h)

theorem gustAndSustainedAreRoundedMeans : GustAndSustainedAreRoundedMeans := by
  refine ⟨fun w hw => sustainedOf_of_ne_nil hw, gustOf_append_three, fun x y => ⟨?_, ?_⟩, rfl, rfl, fun w m v hm h => ?_⟩
  · simp [gustOf, roundedMean]
  · simp [gustOf, roundedMean]
  · exact h.elim (gustOf_le hm) (sustainedOf_le hm)

/-! ## Demand (R121) -/

theorem demandIsBasePlusWindTermUpToDmax : DemandIsBasePlusWindTermUpToDmax := by
  intro s d cls p base
  have hbase : (if cls == .home then p.bHome else p.bSlew) = base := by cases cls <;> rfl
  have hdemand : s.demand d cls = min p.dmax (base + windTerm p.c (s.pricingGust (s.dish d).zone)) := by
    rw [← hbase]
    rfl
  refine ⟨fun m v hm hv => ?_, fun hm => ?_, fun hmax => ?_⟩
  · have hgust : s.pricingGust (s.dish d).zone = v := by simp [State.pricingGust, hm, hv]
    rw [hdemand, hgust, windTerm, pow_two, ← mul_assoc]
  · have hgust : s.pricingGust (s.dish d).zone = 999 := by simp [State.pricingGust, hm]
    rw [hdemand, hgust]
    rfl
  · rw [hdemand]
    exact (min_le_left _ _).trans hmax

/-! ## The time estimate (R123, R124) -/

/-- A quotient rounded up is the smallest number whose product reaches the dividend. -/
theorem ceilDiv_bounds {x y : Nat} (hy : 0 < y) (hx : 0 < x) : x ≤ ceilDiv x y * y ∧ (ceilDiv x y - 1) * y < x := by
  have hdiv := Nat.div_add_mod (x + y - 1) y
  have hmod := Nat.mod_lt (x + y - 1) hy
  have hsub : (ceilDiv x y - 1) * y = ceilDiv x y * y - y := by rw [Nat.sub_mul, one_mul]
  unfold ceilDiv at hsub ⊢
  rw [hsub, mul_comm]
  omega

/-- The search by one bit at a time, from a number whose square times `a` is below the bound to one where it is not. -/
theorem rootBelow_bounds (a bound k m : Nat) (hlow : m ^ 2 * a < bound) (hhigh : bound ≤ (m + 2 ^ k) ^ 2 * a) :
    rootBelow a bound k m ^ 2 * a < bound ∧ bound ≤ (rootBelow a bound k m + 1) ^ 2 * a := by
  induction k generalizing m with
  | zero => exact ⟨hlow, by simpa [rootBelow] using hhigh⟩
  | succ k ih =>
    rw [rootBelow]
    split
    next h => exact ih (m + 2 ^ k) h (by rwa [add_assoc, ← two_mul, ← pow_succ'])
    next h => exact ih m hlow (Nat.le_of_not_lt h)

theorem smallestRoot_spec {a bound : Nat} (ha : 0 < a) (hb : 0 < bound) :
    bound ≤ smallestRoot a bound ^ 2 * a ∧ ∀ n, n < smallestRoot a bound → n ^ 2 * a < bound := by
  have hpow : bound < 2 ^ (Nat.log2 bound + 1) := Nat.lt_log2_self
  have hstart : bound ≤ (0 + 2 ^ (Nat.log2 bound + 1)) ^ 2 * a := by
    rw [zero_add]
    exact hpow.le.trans ((Nat.le_self_pow (by omega) _).trans (Nat.le_mul_of_pos_right _ ha))
  obtain ⟨hlow, hhigh⟩ := rootBelow_bounds a bound (Nat.log2 bound + 1) 0 (by simpa using hb) hstart
  have hroot : smallestRoot a bound = rootBelow a bound (Nat.log2 bound + 1) 0 + 1 := if_neg hb.ne'
  rw [hroot]
  refine ⟨hhigh, fun n hn => lt_of_le_of_lt ?_ hlow⟩
  exact Nat.mul_le_mul_right a (Nat.pow_le_pow_left (Nat.lt_succ_iff.mp hn) 2)

theorem axisEstimateFollowsTheThreeCases : AxisEstimateFollowsTheThreeCases := by
  intro d v a hv ha
  refine ⟨fun hd => if_pos hd, fun hd hrate => ?_, fun hd hrate => ?_⟩
  · have he : axisEstimate d v a = ceilDiv (10 * (d * a + v * v)) (v * a) := by
      rw [axisEstimate, if_neg hd.ne', pow_two, if_pos hrate]
    rw [he]
    exact ceilDiv_bounds (Nat.mul_pos hv ha) (by positivity)
  · have he : axisEstimate d v a = smallestRoot a (400 * d) := by
      rw [axisEstimate, if_neg hd.ne', pow_two, if_neg (Nat.not_le.mpr hrate)]
    rw [he]
    exact smallestRoot_spec ha (by omega)

theorem estimateExamplesOfTable36 : EstimateExamplesOfTable36 := by
  unfold EstimateExamplesOfTable36
  decide +kernel

end Sys2Proof.Machine

open Sys2Proof.Machine in
/-- Settles O35: a rounded mean stays within its samples, and the root of R123 is found by one bit at a time between two bounds. -/
theorem windFiguresDemandsAndEstimates : Obligations.WindFiguresDemandsAndEstimates :=
  ⟨gustAndSustainedAreRoundedMeans, demandIsBasePlusWindTermUpToDmax, axisEstimateFollowsTheThreeCases, estimateExamplesOfTable36⟩

end

section
-- One declaration at a time: the check bounds memory, and every thread in flight takes its stack from it.
set_option Elab.async false

/-! Mast records: what a report frame, a sample and a miss make of them, and the completion of an event (R50 to R62). -/

namespace Sys2Proof.Machine
open Sys2Proof.Claims

/-! ## Access -/

theorem Shape.hasMast {s : State} (h : Shape s) {m : Nat} (h1 : 1 ≤ m) (h4 : m ≤ 4) : thas s.wmn.masts m = true := by
  simp [thas, h.2.2.2.1, h1, h4]

theorem Shape.hasMast_iff {s : State} (h : Shape s) (m : Nat) : thas s.wmn.masts m = true ↔ 1 ≤ m ∧ m ≤ 4 := by
  simp [thas, h.2.2.2.1]

theorem modMast_changes (s : State) (m : Nat) (f : Mast → Mast) : Changes {.wind} s (s.modMast m f) := by
  refine ⟨fun p hp => ?_, rfl, fun _ hk => hk, id⟩
  cases p with
  | wind => exact absurd rfl hp
  | _ => simp [Part.Same, State.dish, State.slots, State.zone, State.heater, State.counterAt, State.modMast]

theorem syncStale_changes (s : State) : Changes {.conds} s s.syncStale := withConds_changes s _

theorem mast_of_wmn {s t : State} (h : t.wmn = s.wmn) (k : Nat) : t.mast k = s.mast k := by rw [State.mast, h, State.mast]

theorem Changes.wmn {l : Set Part} {s t : State} (h : Changes l s t) (hp : Part.wind ∉ l := by simp) : t.wmn = s.wmn := h.same _ hp

theorem Changes.mast {l : Set Part} {s t : State} (h : Changes l s t) (hp : Part.wind ∉ l := by simp) (k : Nat) : t.mast k = s.mast k :=
  mast_of_wmn (h.wmn hp) k

/-! ## A sample and a miss (R55, R58 to R60, R62) -/

theorem pushSample_eq (w : List Nat) (v : Nat) : pushSample w v = (w ++ [v]).drop (w.length + 1 - 60) := by
  unfold pushSample
  split
  next h => rw [Nat.sub_eq_zero_of_le (by omega), List.drop_zero]
  next h => rw [List.drop_append_of_le_length (by omega), show w.length + 1 - 60 = w.length - 59 by omega]

theorem sample_eq_sampled (x : Mast) (v : Nat) : x.sample v = sampled x v := by
  rcases x with ⟨_ | _ | _⟩ <;> simp only [Mast.sample, sampled, pushSample_eq]
  case warming gain offset lastSeq lastReport lastTime slotDue w run missedRun peak valid missed duplicates rejected =>
    by_cases h : 3 ≤ ((w ++ [v]).drop (w.length + 1 - 60)).length
    · simp only [h, if_true, decide_true]
      rfl
    · simp only [h, if_false, decide_false]
      rfl
  case live => rfl
  case stale gain offset lastSeq lastReport lastTime slotDue w run missedRun peak valid missed duplicates rejected =>
    by_cases h : 3 ≤ run + 1
    · simp only [h, if_true, decide_true]
      rfl
    · simp only [h, if_false, if_true, decide_false]
      rfl

theorem miss_eq_missed (x : Mast) : x.miss = missed x := by
  rcases x with ⟨_ | _ | _⟩ <;> rfl

/-! ## The bytes of a report frame (R50, Table 17) -/

/-- The CRC of a frame is sent low byte first. -/
theorem unLe_pair (c0 c1 : Byte) : unLe [c0, c1] = (c1 ++ c0).toNat := by
  rw [BitVec.toNat_append, ← Nat.shiftLeft_add_eq_or_of_lt c0.isLt, Nat.shiftLeft_eq]
  simp only [unLe]
  omega

theorem mastReportOf_of_gt {n : Nat} (h : 2 < n) : mastReportOf n = none := by
  match n with
  | 0 | 1 | 2 => omega
  | _ + 3 => rfl

theorem mastReportOf_of_le {n : Nat} (h : n ≤ 2) : ∃ r, mastReportOf n = some r := by
  match n with
  | 0 | 1 | 2 => exact ⟨_, rfl⟩
  | _ + 3 => omega

section
variable (s : State) (m : Nat)

/-- The record after one more duplicate (R51). -/
def Mast.repeated (x : Mast) : Mast := { x with duplicates := min 4294967295 (x.duplicates + 1) }

theorem takeMastFrame_of_badCrc (q n0 n1 st c0 c1 : Byte) (h : crc16 [q, n0, n1, st] ≠ c1 ++ c0) :
    s.takeMastFrame m [0xA5, q, n0, n1, st, c0, c1] = s.rejectMast m := by
  have hcrc : unLe [c0, c1] ≠ (crc16 [q, n0, n1, st]).toNat := by
    rw [unLe_pair]
    exact fun he => h (BitVec.eq_of_toNat_eq he.symm)
  unfold State.takeMastFrame
  simp only
  split
  · rfl
  · exact if_pos hcrc

variable {bytes : List Byte} {seq n status : Nat} (h : IsReport bytes seq n status)
include h

theorem isMastFrame_of_report : isMastFrame bytes = true := by
  obtain ⟨q, n0, n1, st, c0, c1, rfl, -⟩ := h
  rfl

theorem takeMastFrame_of_unknown (hst : 2 < status) : s.takeMastFrame m bytes = s.rejectMast m := by
  obtain ⟨q, n0, n1, st, c0, c1, rfl, -, -, rfl, -⟩ := h
  unfold State.takeMastFrame
  simp [mastReportOf_of_gt hst]

theorem takeMastFrame_of_report {r : MastReport} (hr : mastReportOf status = some r) : s.takeMastFrame m bytes =
    if (s.mast m).lastSeq = some seq then s.modMast m Mast.repeated else s.acceptMast m seq n r := by
  obtain ⟨q, n0, n1, st, c0, c1, rfl, rfl, rfl, rfl, hc⟩ := h
  have hn : unLe [n0, n1] = n0.toNat + 256 * n1.toNat := rfl
  have hcrc : unLe [c0, c1] = (crc16 [q, n0, n1, st]).toNat := by rw [unLe_pair, hc]
  unfold State.takeMastFrame
  simp only [List.getD_cons_succ, List.getD_cons_zero, hr, List.drop_succ_cons, List.drop_zero, List.take_succ_cons, List.take_zero,
    hcrc, hn, ne_eq, not_true_eq_false, if_false]
  rfl

end

/-! ## The completion of an event -/

/-- An event of a running part, from the frame of its owner. -/
theorem happens_of_event {s : State} {c : Instr} {occurs : Bool} {f : State → State} {bs : List Block} {p : State → Prop} (l : Set Part)
    (h : Running s) (he : exec c s = .next (s.onEvent occurs f)) (ho : occurs = true) (hv : Changes l s.begin (f s.begin))
    (hl : ∀ q ∈ l, q.within bs)
    (hp : ∀ o : Oli, o.notices = (f s.begin).oli.notices → KeepsLink s { f s.begin with oli := o } → p { f s.begin with oli := o }) :
    Happens c s s.now bs p := by
  have hb : s.beginAt s.now = s.begin := by simp [State.beginAt, State.begin]
  have he' : exec c s = .next (s.onTimer (some s.now) f) := by
    rw [he]
    simp [State.onEvent, State.onTimer, ho, hb, h.1]
  have := happens_of_timer (p := p) l h he' (by rwa [hb]) hl (by rwa [hb])
  rwa [max_self] at this

/-- An event that writes one mast record and nothing else. -/
theorem happens_of_mastWrite {s : State} {m : Nat} {c : Instr} {occurs : Bool} {f : State → State} {g : Mast → Mast} (hs : Shape s)
    (hr : Running s) (h1 : 1 ≤ m) (h4 : m ≤ 4) (he : exec c s = .next (s.onEvent occurs f)) (ho : occurs = true)
    (hf : f s.begin = s.begin.modMast m g) : Happens c s s.now [.wmn] (fun t =>
      t.mast m = g (s.mast m) ∧ (∀ k, k ≠ m → t.mast k = s.mast k) ∧ KeepsLink s t ∧ t.oli.notices = s.oli.notices) := by
  refine happens_of_event {.wind} hr he ho (hf ▸ modMast_changes _ m g) (by simp [Part.within, Part.block]) fun o hn hlink => ?_
  rw [hf] at hn hlink ⊢
  exact ⟨modMast_mast_same s.begin m g (hs.hasMast h1 h4), fun k hk => modMast_mast_other s.begin m k g hk, hlink, hn⟩

end Sys2Proof.Machine
end

section
-- One declaration at a time: the check bounds memory, and every thread in flight takes its stack from it.
set_option Elab.async false

/-! The frames of the Zone Controller and of a mast event: waves, cause sets, evaluations and mast updates (R61, R63, R72 to R83). -/

namespace Sys2Proof.Machine
open Sys2Proof.Claims

/-! ## Waves and cause sets -/

/-- The assessment of dishes, one after another, touches the dishes and the records of their claims. -/
theorem assessAll_changes (z : Nat) (ds : List Nat) (s : State) : Changes {p | ∃ d, p ∈ cancelling d} s (s.assessAll z ds).1 := by
  induction ds generalizing s with
  | nil => exact Changes.refl _ s
  | cons d ds ih =>
    have hd : Changes (cancelling d) s (s.assessDish z d).1 := assessDish_changes
    exact Changes.trans (hd.mono fun _ hp => ⟨d, hp⟩) (ih _)

theorem reassessAll_changes (z : Nat) (ms : List WaveMember) (s : State) :
    Changes {p | ∃ d, p ∈ cancelling d} s (s.reassessAll z ms).1 := by
  induction ms generalizing s with
  | nil => exact Changes.refl _ s
  | cons m ms ih =>
    rw [reassessAll_cons]
    exact Changes.trans ((reassessed_changes s z m).mono fun _ hp => ⟨m.dish, hp.2⟩) (ih _)

theorem rejoined_keeps (s : State) (z : Nat) (w : Wave) : Changes {p | ∃ d, p ∈ cancelling d} s (s.rejoined z w) :=
  (reassessAll_changes z w.members s).trans
    (Changes.foldl _ _ _ fun t d _ => (joinStep_changes _ t d).mono fun _ hp => ⟨d, hp⟩)

theorem createWave_stowing (s : State) (z : Nat) : Changes (stowing z) s (s.createWave z) := by
  have hassess : Changes (stowing z) (s.waveBegun z) ((s.waveBegun z).assessAll z (s.zoneDishes z)).1 :=
    (assessAll_changes z _ _).mono fun _ hp => .inr hp
  rw [createWave_eq]
  exact (((monitorCreated_changes s (.wave z) true).mono).trans hassess).trans
    (((waveListed_tail s z).mono (by simp [listing, Set.insert_subset_iff])).trans ((waveTest_changes _ z).mono))

theorem reassessWave_stowing (s : State) (z : Nat) (w : Wave) : Changes (stowing z) s (s.reassessWave z w) := by
  have hjoin : Changes (stowing z) s (s.rejoined z w) := (rejoined_keeps s z w).mono fun _ hp => .inr hp
  rw [reassessWave_eq]
  exact hjoin.trans (((modZone_changes _ z _).mono).trans (((trigger_changes _).mono).trans ((waveTest_changes _ z).mono)))

/-- R76: a dropped task is its dish's own claim, so where claims fit no other record is touched. -/
theorem dropStowTasks_changes {s : State} (hf : ClaimsFit s) (z : Nat) :
    Changes {p | p = .passDue ∨ ∃ d, p = .dish .claim d} s (s.dropStowTasks z) := by
  suffices h : ∀ (ds : List Nat) (t : State), ClaimsFit t → Changes {p | p = .passDue ∨ ∃ d, p = .dish .claim d} t
      (ds.foldl (fun t d => if (t.dish d).task == some .stow && (t.dish d).isWaiting then t.closeClaim d .cancelled .stoppedByHost else t) t)
    from h _ s hf
  intro ds
  induction ds with
  | nil => exact fun t _ => Changes.refl _ t
  | cons d ds ih =>
    intro t ht
    refine Changes.trans (Changes.ite (fun hc => ?_) fun _ => Changes.refl _ t)
      (ih _ (ite_claimsFit (fun _ => closeClaim_claimsFit ht _ _ _) fun _ => ht))
    simp only [Bool.and_eq_true, beq_iff_eq] at hc
    obtain ⟨c, hclaim, href⟩ := (ht d).1.mp (by simp [hc.1])
    refine (closeClaim_changes_of_ref t d .cancelled .stoppedByHost).mono ?_
    rw [hclaim, Option.map_some, href]
    rintro p ((rfl | rfl) | hp)
    · exact .inr ⟨d, rfl⟩
    · exact .inl rfl
    · exact absurd hp (Set.notMem_empty p)

/-- The same where nothing is known of the claims. -/
theorem dropStowTasks_closes (s : State) (z : Nat) :
    Changes ({p | ∃ d, p = .dish .claim d} ∪ {.passDue} ∪ closing) s (s.dropStowTasks z) :=
  Changes.foldl _ _ s fun t d _ => Changes.ite (fun _ => (closeClaim_changes t d _ _).mono (by simp [Set.insert_subset_iff]))
    fun _ => Changes.refl _ t

section
variable {l : Set Part} {s : State} {z : Nat} (hl : stowing z ⊆ l) (h : anyZone ⊆ l ∨ ClaimsFit s)
include hl h

theorem dropStowTasks_within : Changes l s (s.dropStowTasks z) := by
  rcases h with h | hf
  · refine (dropStowTasks_closes s z).mono ?_
    rintro p ((⟨d, rfl⟩ | rfl) | (rfl | rfl) | hp)
    · exact hl (by simp)
    · exact hl (by simp)
    · exact hl (by simp)
    · exact hl (by simp)
    · exact h hp
  · refine (dropStowTasks_changes hf z).mono ?_
    rintro p (rfl | ⟨d, rfl⟩)
    · exact hl (by simp)
    · exact hl (by simp)

/-- What a change of the cause set may change: the wave's parts of the zone, and with claims that fit no other zone. -/
theorem setCauses_changes (new : Causes) : Changes l s (s.setCauses z new) := by
  have hset : Changes l s (s.causesSet z new) := (causesSet_changes s z new).mono (subset_trans (by simp [Set.insert_subset_iff]) hl)
  have hfit : anyZone ⊆ l ∨ ClaimsFit (s.causesSet z new) :=
    h.imp_right fun hf => raise_claimsFit (s := (s.modZone z (fun r => { r with causes := new })).syncStowOrder) hf _
  have hstate (t : State) (st : ZoneState) : Changes l t (t.enterZoneState z st) :=
    (enterZoneState_changes t z st).mono (subset_trans (by simp [Set.insert_subset_iff]) hl)
  unfold State.setCauses
  simp only
  refine Changes.ite (fun _ => Changes.refl _ s) fun _ => Changes.ite (fun _ => ?_) fun _ => Changes.ite (fun _ => ?_) fun _ => hset
  · split
    · exact (hset.trans (hstate _ _)).trans ((createWave_stowing _ z).mono hl)
    · exact (hset.trans (hstate _ _)).trans ((reassessWave_stowing _ z _).mono hl)
  · exact (hset.trans (hstate _ _)).trans (dropStowTasks_within hl (hfit.imp_right fun hf => enterZoneState_claimsFit hf z _))

end

/-! ## The frame of a mast update -/

theorem cancelRelease_changes (s : State) (z : Nat) : Changes {.zone z} s (s.cancelRelease z) :=
  Changes.ite (fun _ => (modZone_changes s z _).trans ((raise_changes _ _).mono)) fun _ => Changes.refl _ s

theorem startRelease_changes (s : State) (z : Nat) : Changes {.zone z} s (s.startRelease z) :=
  (modZone_changes s z _).trans ((raise_changes _ _).mono)

theorem reselect_changes (s : State) (z : Nat) : Changes {.zone z} s (s.reselect z) :=
  Changes.ite (fun _ => Changes.refl _ s) fun _ => (modZone_changes s z _).trans ((raise_changes _ _).mono)

/-- The release timer of zone `z` after an evaluation with these figures (R74). -/
def State.releaseTimed (s : State) (z v g : Nat) : State :=
  if rowStows (s.activeRow z) v g then s.cancelRelease z
  else if (s.zone z).causes.wind then
    if rowReleases (s.activeRow z) v g then (if (s.zone z).releaseDue.isSome then s else s.startRelease z) else s.cancelRelease z
  else s

/-- The cause set after an evaluation with these figures (R74). -/
def State.causesBy (s : State) (z v g : Nat) : Causes :=
  { (s.zone z).causes with noSource := false, wind := (s.zone z).causes.wind || rowStows (s.activeRow z) v g }

theorem evaluateSourced_eq (s : State) (z v g : Nat) : s.evaluateSourced z v g =
    if (s.zone z).causes.isEmpty && (s.causesBy z v g).isEmpty then
      ((s.releaseTimed z v g).setCauses z (s.causesBy z v g)).enterZoneState z
        (((s.releaseTimed z v g).setCauses z (s.causesBy z v g)).calmOrWatch z)
    else (s.releaseTimed z v g).setCauses z (s.causesBy z v g) := rfl

theorem releaseTimed_changes (s : State) (z v g : Nat) : Changes {.zone z} s (s.releaseTimed z v g) :=
  Changes.ite (fun _ => cancelRelease_changes s z) fun _ => Changes.ite (fun _ => Changes.ite
    (fun _ => Changes.ite (fun _ => Changes.refl _ s) fun _ => startRelease_changes s z) fun _ => cancelRelease_changes s z)
    fun _ => Changes.refl _ s

theorem releaseTimed_claimsFit {s : State} (h : ClaimsFit s) (z v g : Nat) : ClaimsFit (s.releaseTimed z v g) :=
  (releaseTimed_changes s z v g).claimsFit h (by simp)

section
variable {l : Set Part} {s : State} {z : Nat} (hl : stowing z ⊆ l) (h : anyZone ⊆ l ∨ ClaimsFit s)
include hl h

theorem evaluate_changes : Changes l s (s.evaluate z) := by
  have hzone : ({.zone z} : Set Part) ⊆ l := subset_trans (by simp) hl
  unfold State.evaluate
  split
  · split
    next v g _ _ =>
      have hset := ((releaseTimed_changes s z v g).mono hzone).trans
        (setCauses_changes hl (h.imp_right fun hf => releaseTimed_claimsFit hf z v g) (s.causesBy z v g))
      rw [evaluateSourced_eq]
      exact Changes.ite (fun _ => hset.trans ((enterZoneState_changes _ z _).mono (subset_trans (by simp [Set.insert_subset_iff]) hl)))
        fun _ => hset
    · exact Changes.refl _ s
  · exact Changes.ite (fun _ => Changes.refl _ s) fun _ => ((cancelRelease_changes s z).mono hzone).trans
      (setCauses_changes hl (h.imp_right fun hf => cancelRelease_claimsFit hf z) _)

theorem zoneUpdate_changes (m : Nat) (changed added awaiting : Bool) : Changes l s (s.zoneUpdate m changed added awaiting z) := by
  have hsel (c : Prop) [Decidable c] : Changes l s (if c then s.reselect z else s) :=
    Changes.ite (fun _ => (reselect_changes s z).mono (subset_trans (by simp) hl)) fun _ => Changes.refl _ s
  have hfit (c : Prop) [Decidable c] : anyZone ⊆ l ∨ ClaimsFit (if c then s.reselect z else s) :=
    h.imp_right fun hf => ite_claimsFit (fun _ => reselect_claimsFit hf z) fun _ => hf
  unfold State.zoneUpdate
  exact Changes.ite (fun _ => (hsel _).trans (evaluate_changes hl (hfit _))) fun _ => hsel _

end

theorem mastUpdate_changes (s before : State) (m : Nat) (added : Bool) :
    Changes {p | ∃ z, p ∈ stowing z} s (s.mastUpdate before m added) := by
  have hzones : anyZone ⊆ {p | ∃ z, p ∈ stowing z} := by
    rintro p ⟨y, rfl⟩
    exact ⟨y, by simp⟩
  refine Changes.foldl _ _ s fun t z _ => ?_
  have hl : stowing z ⊆ {p | ∃ z, p ∈ stowing z} := fun _ hp => ⟨z, hp⟩
  exact zoneUpdate_changes hl (.inl hzones) m _ added _

/-! ## The frame of a mast event (R61, R63) -/

/-- The state after a write to a mast record, with what ACT is handed of it (R63). -/
def State.mastNoted (s : State) (m : Nat) (f : Mast → Mast) : State :=
  if (s.mast m).state == .live && ((s.modMast m f).mast m).state == .stale then (s.modMast m f).syncStale.count .mastStale (some (m - 1))
  else (s.modMast m f).syncStale

theorem mastEvent_eq (s : State) (m : Nat) (added : Bool) (f : Mast → Mast) : s.mastEvent m added f =
    if added || ((s.modMast m f).mast m).state != (s.mast m).state || ((s.modMast m f).mast m).window != (s.mast m).window then
      (s.mastNoted m f).mastUpdate s m added
    else s.mastNoted m f := rfl

section
variable (s : State) (m : Nat) (f : Mast → Mast)

/-- What ACT is handed does not reach the mast records. -/
theorem mastNoted_tail : Changes {.conds, .counters (some .mastStale)} (s.modMast m f) (s.mastNoted m f) :=
  Changes.ite (fun _ => ((syncStale_changes _).mono).trans ((count_changes _ _ _).mono)) fun _ => (syncStale_changes _).mono

theorem mastNoted_changes : Changes {.wind, .conds, .counters (some .mastStale)} s (s.mastNoted m f) :=
  ((modMast_changes s m f).mono).trans ((mastNoted_tail s m f).mono)

/-- What a mast event may change. -/
def blowing : Set Part := {.wind, .conds, .counters (some .mastStale)} ∪ {p | ∃ z, p ∈ stowing z}

theorem mastEvent_changes (added : Bool) : Changes blowing s (s.mastEvent m added f) := by
  have hnoted : Changes blowing s (s.mastNoted m f) := (mastNoted_changes s m f).mono Set.subset_union_left
  rw [mastEvent_eq]
  exact Changes.ite (fun _ => hnoted.trans ((mastUpdate_changes _ s m added).mono Set.subset_union_right)) fun _ => hnoted

theorem within_blowing {q : Part} (hq : q ∈ blowing) : q.within [.dsv, .pbc, .wmn, .znc, .sls, .fbu, .act] := by
  rcases hq with (rfl | rfl | rfl) | ⟨z, hq⟩
  · simp [Part.within, Part.block]
  · simp [Part.within, Part.block]
  · simp [Part.within, Part.block]
  · obtain ⟨hclock, hlink, hstore, hblock⟩ := within_stowing hq
    have hblocks : ([.dsv, .pbc, .znc, .sls, .fbu, .act] : List Block) ⊆ [.dsv, .pbc, .wmn, .znc, .sls, .fbu, .act] := by decide
    exact ⟨hclock, hlink, hstore, fun b hb => hblocks (hblock b hb)⟩

/-- The zones do not write mast records. -/
theorem mastEvent_wmn (added : Bool) : (s.mastEvent m added f).wmn = (s.modMast m f).wmn := by
  have hnoted : (s.mastNoted m f).wmn = (s.modMast m f).wmn := (mastNoted_tail s m f).wmn
  rw [mastEvent_eq]
  split
  · exact ((mastUpdate_changes _ s m added).wmn).trans hnoted
  · exact hnoted

end

end Sys2Proof.Machine
end

section
-- One declaration at a time: the check bounds memory, and every thread in flight takes its stack from it.
set_option Elab.async false

/-! O36, O37, O38: report frames, missed slots, and the requests about masts. -/

namespace Sys2Proof.Machine
open Sys2Proof.Claims

/-! ## The events of a mast (R52, R53) -/

theorem beginAt_changes (s : State) (due : Nat) : Changes {.clock} s (s.beginAt due) := by
  refine ⟨fun p hp => ?_, rfl, fun _ hk => hk, id⟩
  cases p with
  | clock => exact absurd rfl hp
  | _ => simp [Part.Same, State.dish, State.slots, State.zone, State.heater, State.counterAt, State.beginAt]

theorem begin_changes (s : State) : Changes {.clock} s s.begin := by
  have hb : s.beginAt s.now = s.begin := by simp [State.beginAt, State.begin]
  exact hb ▸ beginAt_changes s s.now

/-- The state `u` in which mast `m` takes its sample or its miss at `now`: beside the clock only the record of the mast has been written, and
neither its state nor its window. -/
structure MastMet (s u : State) (m now : Nat) : Prop where
  frame : Changes {.clock, .wind} s u
  now : u.now = now
  length : u.wmn.masts.length = s.wmn.masts.length
  other : ∀ k, k ≠ m → u.mast k = s.mast k
  state : (u.mast m).state = (s.mast m).state
  window : (u.mast m).window = (s.mast m).window

theorem MastMet.of_write {s w : State} {m : Nat} (hm : thas s.wmn.masts m = true) (hw : Changes {.clock} s w) (g : Mast → Mast)
    (hstate : ∀ x, (g x).state = x.state) (hwindow : ∀ x, (g x).window = x.window) :
    MastMet s (w.modMast m g) m w.now ∧ (w.modMast m g).mast m = g (s.mast m) := by
  have hwmn : w.wmn = s.wmn := hw.wmn
  have hmast : (w.modMast m g).mast m = g (s.mast m) := by
    rw [modMast_mast_same w m g (hwmn ▸ hm), mast_of_wmn hwmn]
  refine ⟨⟨(hw.mono).trans ((modMast_changes w m g).mono), rfl, ?_, fun k hk => ?_, by rw [hmast, hstate], by rw [hmast, hwindow]⟩, hmast⟩
  · simp [State.modMast, hwmn]
  · rw [modMast_mast_other w m k g hk, mast_of_wmn hwmn]

/-- Every event of a mast is `mastEvent` on the state that meets it, within the blocks that wind reaches. -/
theorem happens_of_mastEvent {s : State} {m now : Nat} {c : Instr} {r : Mast} {added : Bool} (hs : Shape s) (hr : Running s) (h1 : 1 ≤ m)
    (h4 : m ≤ 4) (h : MastEvent s m c now r added) : ∃ (u : State) (f : Mast → Mast), MastMet s u m now ∧ f (u.mast m) = r
      ∧ Happens c s now [.dsv, .pbc, .wmn, .znc, .sls, .fbu, .act] (fun t => KeepsLink s t
          ∧ ∃ o : Oli, o.notices = (u.mastEvent m added f).oli.notices ∧ t = { u.mastEvent m added f with oli := o }) := by
  have hm := hs.hasMast h1 h4
  have frame (w : State) (g f : Mast → Mast) (added : Bool) : Changes blowing w ((w.modMast m g).mastEvent m added f) :=
    ((modMast_changes w m g).mono (by simp [blowing])).trans (mastEvent_changes _ m f added)
  have reports {bytes : List Byte} {seq n status : Nat} (hrep : IsReport bytes seq n status) (hne : (s.mast m).lastSeq ≠ some seq)
      (st : MastReport) (hst : mastReportOf status = some st) (added : Bool) (f : Mast → Mast)
      (hacc : s.begin.acceptMast m seq n st = (s.begin.modMast m (reported · s.now seq st)).mastEvent m added f) :
      ∃ u, MastMet s u m s.now ∧ f (u.mast m) = f (reported (s.mast m) s.now seq st)
        ∧ Happens (.mastReportFrame m bytes false) s s.now [.dsv, .pbc, .wmn, .znc, .sls, .fbu, .act] (fun t => KeepsLink s t
          ∧ ∃ o : Oli, o.notices = (u.mastEvent m added f).oli.notices ∧ t = { u.mastEvent m added f with oli := o }) := by
    obtain ⟨hmet, hmast⟩ := MastMet.of_write hm (begin_changes s) (reported · s.now seq st) (fun _ => rfl) (fun _ => rfl)
    have htake : s.begin.takeMastFrame m bytes = (s.begin.modMast m (reported · s.now seq st)).mastEvent m added f := by
      rw [takeMastFrame_of_report _ m hrep hst, ← hacc]
      exact if_neg hne
    refine ⟨_, hmet, congrArg f hmast, happens_of_event (f := fun s => s.takeMastFrame m bytes) blowing hr rfl ?_ ?_
      (fun q => within_blowing) fun o hn hlink => ⟨?_, o, ?_, ?_⟩⟩
    · simp [hm, isMastFrame_of_report hrep]
    · exact htake ▸ frame _ _ f added
    · exact hlink
    · rw [hn, htake]
    · rw [htake]
  cases h with
  | sample bytes seq n hrep hne =>
    obtain ⟨u, hmet, hf, hh⟩ := reports hrep hne .ok rfl true (fun x => x.sample (speedOf x.gain x.offset n)) rfl
    exact ⟨u, _, hmet, hf.trans (sample_eq_sampled _ _), hh⟩
  | iced bytes seq n hrep hne =>
    obtain ⟨u, hmet, hf, hh⟩ := reports hrep hne .iced rfl false Mast.miss rfl
    exact ⟨u, _, hmet, hf.trans (miss_eq_missed _), hh⟩
  | fault bytes seq n hrep hne =>
    obtain ⟨u, hmet, hf, hh⟩ := reports hrep hne .fault rfl false Mast.miss rfl
    exact ⟨u, _, hmet, hf.trans (miss_eq_missed _), hh⟩
  | slot =>
    obtain ⟨hmet, hmast⟩ := MastMet.of_write hm (beginAt_changes s (s.mast m).slotDue)
      (fun x => { x with slotDue := max s.now (s.mast m).slotDue + 1000 }) (fun _ => rfl) (fun _ => rfl)
    refine ⟨_, Mast.miss, hmet, by rw [hmast, miss_eq_missed], happens_of_timer (f := fun s => s.missedSlot m) blowing hr ?_ (frame _ _ _ _)
      (fun q => within_blowing) fun o hn hlink => ⟨hlink, o, hn, rfl⟩⟩
    show execSlotTimerExpiry m s = _
    rw [execSlotTimerExpiry, if_pos hm]

/-- What an event of a mast leaves of the mast records (R52, R53). -/
theorem mastBecomes_of_mastEvent {s : State} {m now : Nat} {c : Instr} {r : Mast} {added : Bool} (hs : Shape s) (hr : Running s) (h1 : 1 ≤ m)
    (h4 : m ≤ 4) (h : MastEvent s m c now r added) : MastBecomes c s now m r := by
  obtain ⟨u, f, hmet, hf, hh⟩ := happens_of_mastEvent hs hr h1 h4 h
  refine hh.imp ?_
  rintro t ⟨hlink, o, -, rfl⟩
  have hmast (k : Nat) : (u.mastEvent m added f).mast k = (u.modMast m f).mast k := mast_of_wmn (mastEvent_wmn u m f added) k
  have hm : thas u.wmn.masts m = true := by
    simpa [thas, hmet.length] using hs.hasMast h1 h4
  refine ⟨(hmast m).trans ((modMast_mast_same u m f hm).trans hf), fun k hk => ?_, hlink⟩
  exact (hmast k).trans ((modMast_mast_other u m k f hk).trans (hmet.other k hk))

/-! ## The requests about masts (R62, R64, R65) -/

/-- The record that MAST_SET writes (R64). -/
def Mast.edited (x : Mast) (gain offset : Option Nat) : Mast :=
  { x with gain := gain.getD x.gain, offset := (offset.map (min 50)).getD x.offset }

theorem mastSetOf_eq (s : State) {m : Nat} (gain offset : Option Nat) (hm : thas s.wmn.masts m = true) : s.mastSetOf m gain offset =
    (s.modMast m (·.edited gain offset)).answer
      (.mastSet ((s.mast m).edited gain offset).gain ((s.mast m).edited gain offset).offset (50 < offset.getD 0)) := by
  have hmast : (s.modMast m (·.edited gain offset)).mast m = (s.mast m).edited gain offset := modMast_mast_same s m _ hm
  unfold State.mastSetOf
  rw [if_neg (by simp [hm]), ← hmast]
  rfl

theorem mastSetWrites {s : State} {tag m : Nat} {gain offset : Option Nat} (hs : Shape s) (h : Ready s (.mastSet tag m gain offset))
    (h1 : 1 ≤ m) (h4 : m ≤ 4) : Answers (.mastSet tag m gain offset) s 0x13 tag
      (.ok (.mastSet ((s.mast m).edited gain offset).gain ((s.mast m).edited gain offset).offset (50 < offset.getD 0))) [.wmn] (fun t =>
        t.mast m = (s.mast m).edited gain offset ∧ (∀ j, j ≠ m → t.mast j = s.mast j) ∧ t.oli.notices = s.oli.notices) := by
  have hm : thas s.taken.wmn.masts m = true := hs.hasMast h1 h4
  refine answers_of_changes (owner := fun s => s.mastSetOf m gain offset) {.wind} (s.taken.modMast m (·.edited gain offset)) h rfl rfl
    (mastSetOf_eq s.taken gain offset hm) (modMast_changes _ m _) (by simp [Part.within, Part.block]) fun y hy => ⟨?_, fun j hj => ?_, ?_⟩
  · exact modMast_mast_same s.taken m _ hm
  · exact modMast_mast_other s.taken m j _ hj
  · exact hy.trans (leave_notices _)

/-- A walk of the same write over mast numbers, where writing twice is writing once. -/
theorem foldl_modMast_mast {g : Mast → Mast} (hg : ∀ x, g (g x) = g x) (ms : List Nat) (s : State)
    (hm : ∀ k ∈ ms, thas s.wmn.masts k = true) (k : Nat) :
    (ms.foldl (fun t k => t.modMast k g) s).mast k = if k ∈ ms then g (s.mast k) else s.mast k := by
  induction ms generalizing s with
  | nil => rfl
  | cons j ms ih =>
    rw [List.foldl_cons, ih (s.modMast j g) fun k hk => by simpa [State.modMast] using hm k (List.mem_cons_of_mem j hk)]
    by_cases hj : k = j
    · subst hj
      rw [modMast_mast_same s k g (hm k List.mem_cons_self), hg]
      simp
    · rw [modMast_mast_other s j k g hj]
      simp [hj]

/-- The read of masts takes their peaks away (R62). -/
def Mast.peakRead (x : Mast) : Mast := { x with peak := none }

theorem mastStatusOf_eq (s : State) {ms : Mask} (window : Bool) (h0 : ms ≠ 0) (hms : ms.toNat < 16) : s.mastStatusOf ms window =
    ((bitsOf ms 4 1).foldl (fun t k => t.modMast k Mast.peakRead) s).answer (.masts ((bitsOf ms 4 1).map (fun k => s.mastReport k window))) := by
  unfold State.mastStatusOf
  rw [if_neg (by simp [within, hms]), if_neg h0]
  rfl

theorem mastStatusReads {s : State} {tag : Nat} {ms : Mask} {window : Bool} (hs : Shape s) (h : Ready s (.mastStatus tag ms window))
    (h0 : ms ≠ 0) (hms : ms.toNat < 16) :
    Answers (.mastStatus tag ms window) s 0x14 tag (.ok (.masts ((bitsOf ms 4 1).map (fun k => s.taken.mastReport k window)))) [.wmn]
      (fun t => (∀ m ∈ bitsOf ms 4 1, t.mast m = { s.mast m with peak := none })
        ∧ (∀ m, m ∉ bitsOf ms 4 1 → t.mast m = s.mast m) ∧ t.oli.notices = s.oli.notices) := by
  let v := (bitsOf ms 4 1).foldl (fun t k => t.modMast k Mast.peakRead) s.taken
  have hhas : ∀ k ∈ bitsOf ms 4 1, thas s.taken.wmn.masts k = true := by
    intro k hk
    obtain ⟨i, hi, rfl⟩ := List.mem_map.mp hk
    have := List.mem_range.mp (List.mem_filter.mp hi).1
    exact hs.hasMast (by omega) (by omega)
  have hv : Changes {.wind} s.taken v := Changes.foldl _ _ _ fun t k _ => modMast_changes t k _
  have hmast := foldl_modMast_mast (g := Mast.peakRead) (fun _ => rfl) (bitsOf ms 4 1) s.taken hhas
  refine answers_of_changes (owner := fun s => s.mastStatusOf ms window) {.wind} v h rfl rfl (mastStatusOf_eq s.taken window h0 hms) hv
    (by simp [Part.within, Part.block]) fun y hy => ⟨fun m hm => ?_, fun m hm => ?_, ?_⟩
  · exact (hmast m).trans (if_pos hm)
  · exact (hmast m).trans (if_neg hm)
  · have hn : v.oli = s.taken.oli :=
      List.foldlRecOn (motive := fun t : State => t.oli = s.taken.oli) (bitsOf ms 4 1) _ rfl fun t ht k _ => ht
    rw [hy, hn]
    exact leave_notices _

end Sys2Proof.Machine

open Sys2Proof.Machine Sys2Proof.Claims in
/-- Settles O36: a checked frame with a new sequence is an event of its mast (`happens_of_mastEvent`), any other a write to one counter. -/
theorem mastReportIsASampleAMissOrADuplicate : Obligations.MastReportIsASampleAMissOrADuplicate := by
  unfold Obligations.MastReportIsASampleAMissOrADuplicate
  intro s m bytes seq n status hs hr h1 h4 hrep c x v
  refine ⟨?_, ?_, ?_, fun hst hseq => ?_⟩
  · rintro rfl hseq
    exact mastBecomes_of_mastEvent hs hr h1 h4 (.sample bytes seq n hrep hseq)
  · rintro rfl hseq
    exact mastBecomes_of_mastEvent hs hr h1 h4 (.iced bytes seq n hrep hseq)
  · rintro rfl hseq
    exact mastBecomes_of_mastEvent hs hr h1 h4 (.fault bytes seq n hrep hseq)
  · obtain ⟨r, hread⟩ := mastReportOf_of_le hst
    have htake : s.begin.takeMastFrame m bytes = s.begin.modMast m Mast.repeated := by
      rw [takeMastFrame_of_report _ m hrep hread]
      exact if_pos hseq
    refine (happens_of_mastWrite hs hr h1 h4 rfl ?_ htake).imp fun t ⟨hmast, hother, hlink, _⟩ => ⟨hmast, hother, hlink⟩
    simp [hs.hasMast h1 h4, isMastFrame_of_report hrep]

open Sys2Proof.Machine Sys2Proof.Claims in
/-- Settles O37: each fault is one write to the mast's record (`happens_of_mastWrite`), and an empty slot is an event of the mast. -/
theorem rejectedFramesAndMissedSlots : Obligations.RejectedFramesAndMissedSlots := by
  unfold Obligations.RejectedFramesAndMissedSlots
  intro s m hs hr h1 h4 rejected
  have hm := hs.hasMast h1 h4
  have rejects {c : Sys2Proof.Instr} {occurs : Bool} {f : State → State} (he : exec c s = .next (s.onEvent occurs f)) (ho : occurs = true)
      (hf : f s.begin = s.begin.rejectMast m) : rejected c := happens_of_mastWrite hs hr h1 h4 he ho hf
  refine ⟨fun bytes hb => rejects rfl ?_ rfl, rejects rfl hm rfl, fun bytes seq n status hrep hst => rejects rfl ?_ ?_,
    fun q n0 n1 st c0 c1 hcrc => rejects rfl ?_ ?_, mastBecomes_of_mastEvent hs hr h1 h4 .slot⟩
  · simp [hm, isBegunFrame, Nat.lt_succ_of_le hb]
  · simp [hm, isMastFrame_of_report hrep]
  · exact takeMastFrame_of_unknown s.begin m hrep hst
  · simp [hm, isMastFrame]
  · exact takeMastFrame_of_badCrc s.begin m q n0 n1 st c0 c1 hcrc

open Sys2Proof.Machine Sys2Proof.Claims in
/-- Settles O38: the checks of R64 and R65 in their order, one write, and a walk that writes each mast of the set. -/
theorem mastSetAndMastStatus : Obligations.MastSetAndMastStatus := by
  unfold Obligations.MastSetAndMastStatus
  intro s tag hs
  refine ⟨fun m gain offset h => ⟨fun hm => ?_, fun h1 h4 => ?_⟩,
    fun ms window h => ⟨fun h0 => ?_, fun hms => ?_, fun h0 hms => mastStatusReads hs h h0 hms⟩⟩
  · refine refuse_answered s _ (fun s => s.mastSetOf m gain offset) 0x13 tag _ h rfl rfl (if_pos ?_)
    have : ¬ thas s.taken.wmn.masts m = true := fun ht => by
      have := (hs.hasMast_iff m).mp ht
      omega
    simpa using this
  · have hset := mastSetWrites hs h h1 h4
    cases offset with
    | none => exact hset
    | some v =>
      have hclamp : ((s.mast m).edited gain (some v)) = { s.mast m with gain := gain.getD (s.mast m).gain, offset := min v 50 } := by
        simp only [Mast.edited, Option.map_some, Option.getD_some, min_comm]
      rw [hclamp] at hset
      exact hset
  · subst h0
    exact refuse_answered s _ (fun s => s.mastStatusOf 0 window) 0x14 tag _ h rfl rfl rfl
  · exact refuse_answered s _ (fun s => s.mastStatusOf ms window) 0x14 tag _ h rfl rfl (if_pos (by simpa [within] using hms))

end

section
-- One declaration at a time: the check bounds memory, and every thread in flight takes its stack from it.
set_option Elab.async false

/-! The evaluation of a zone: what it makes of the zone's record (R67, R72 to R74, R76, R82). -/

namespace Sys2Proof.Machine
open Sys2Proof.Claims

/-! ## Waves (R82) -/

/-- A wave that is created, assessed again or tested leaves `y` of the zone `x`: its state stays, or becomes STOWED. -/
def WaveLeaves (x y : Zone) : Prop :=
  ∃ st wv out, y = { x with state := st, wave := wv, lastOutcome := out } ∧ (st = x.state ∨ st = .stowed)

theorem waveTest_leaves {s : State} {z : Nat} {x : Zone} {wv : Option Wave} (hz : thas s.znc.zones z = true)
    (hx : s.zone z = { x with wave := wv }) : WaveLeaves x ((s.waveTest z).zone z) := by
  have hclosed (w : Wave) : WaveLeaves x (((s.modZone z (fun r => { r with
      wave := none, lastOutcome := some w.members, state := if r.causes.isEmpty then r.state else .stowed })).raise (.zone z)).zone z) := by
    refine ⟨if x.causes.isEmpty then x.state else .stowed, none, some w.members, ?_, ?_⟩
    · exact ((raise_changes _ _).zone).trans ((modZone_zone_same s z _ hz).trans (by rw [hx]))
    · split
      · exact .inl rfl
      · exact .inr rfl
  unfold State.waveTest
  split
  next w _ =>
    split
    · exact ⟨x.state, wv, x.lastOutcome, hx, .inl rfl⟩
    · exact hclosed w
  · exact ⟨x.state, wv, x.lastOutcome, hx, .inl rfl⟩

theorem createWave_leaves {s : State} {z : Nat} (hf : ClaimsFit s) (hz : thas s.znc.zones z = true) :
    WaveLeaves (s.zone z) ((s.createWave z).zone z) := by
  rw [createWave_eq]
  exact waveTest_leaves (((waveListed_changes hf).hasZone z).trans hz) (waveListed_zone hf hz)

theorem reassessWave_leaves {s : State} {z : Nat} (w : Wave) (hz : thas s.znc.zones z = true) :
    WaveLeaves (s.zone z) ((s.reassessWave z w).zone z) := by
  have hl := rejoined_keeps s z w
  have hzt : thas (s.rejoined z w).znc.zones z = true := (hl.hasZone z).trans hz
  have hlisted : (s.relisted z w).zone z = { s.zone z with
      wave := (s.zone z).wave.map (fun x => { x with members := (s.reassessAll z w.members).2 }) } := by
    refine Eq.trans (modZone_zone_same (s.rejoined z w) z
      (fun r => { r with wave := r.wave.map (fun x => { x with members := (s.reassessAll z w.members).2 }) }) hzt) ?_
    rw [show (s.rejoined z w).zone z = s.zone z from hl.zone]
  rw [reassessWave_eq]
  refine waveTest_leaves ?_ hlisted
  simpa [thas, State.relisted, State.modZone] using hzt

/-! ## CALM or WATCH (R76) -/

theorem Changes.activeRow {l : Set Part} {s t : State} (h : Changes l s t) (hp : Part.banks ∉ l := by simp) (z : Nat) :
    t.activeRow z = s.activeRow z := by
  have hb : t.znc = { s.znc with zones := t.znc.zones } := h.same .banks hp
  unfold State.activeRow
  rw [hb]

/-- CALM or WATCH reads the zone's source, its row and its mast alone. -/
theorem Changes.calmOrWatch {l : Set Part} {s t : State} (h : Changes l s t) {z : Nat} (hsrc : (t.zone z).source = (s.zone z).source)
    (hb : Part.banks ∉ l := by simp) (hw : Part.wind ∉ l := by simp) : t.calmOrWatch z = s.calmOrWatch z := by
  have hsus : t.sustained = s.sustained := funext fun k => by rw [State.sustained, h.mast hw, State.sustained]
  unfold State.calmOrWatch
  rw [hsrc, hsus, h.activeRow hb]

theorem calmOrWatch_of_source {s : State} {z k v : Nat} (hk : (s.zone z).source = some k) (hv : s.sustained k = some v) :
    s.calmOrWatch z = if (s.activeRow z).w ≤ v then .watch else .calm := by
  simp [State.calmOrWatch, hk, hv]

/-! ## The cause set (R76, R78, R83) -/

/-- The zone's record after its cause set becomes `new`: a first cause has it STOWING or STOWED, the removal of the last one CALM or WATCH. -/
theorem setCauses_zone {s : State} {z : Nat} (hf : ClaimsFit s) (hz : thas s.znc.zones z = true) (new : Causes) :
    ∃ st wv out, (s.setCauses z new).zone z = { s.zone z with causes := new, state := st, wave := wv, lastOutcome := out }
      ∧ ((s.zone z).causes = {} → new ≠ {} → st = .stowing ∨ st = .stowed)
      ∧ ((s.zone z).causes ≠ {} → new ≠ {} → st = (s.zone z).state)
      ∧ ((s.zone z).causes ≠ {} → new = {} → st = s.calmOrWatch z)
      ∧ ((s.zone z).causes = {} → new = {} → st = (s.zone z).state) := by
  by_cases hsame : (s.zone z).causes = new
  · have hset : s.setCauses z new = s := if_pos hsame
    refine ⟨_, _, _, by rw [hset, ← hsame], ?_, fun _ _ => rfl, ?_, fun _ _ => rfl⟩
    · exact fun h hn => absurd (hsame.symm.trans h) hn
    · exact fun h hn => absurd (hsame.trans hn) h
  have hlisted := causesSet_zone s new hz
  have hl := causesSet_changes s z new
  have hfit : ClaimsFit (s.causesSet z new) := hl.claimsFit hf (by simp)
  have hzt : thas (s.causesSet z new).znc.zones z = true := (hl.hasZone z).trans hz
  by_cases hold : (s.zone z).causes = {}
  · have hn : new ≠ {} := fun h => hsame (hold.trans h.symm)
    have hstowing := caused_zone s new hz
    have hcl := caused_changes s z new
    have hleaves : WaveLeaves ((s.caused z new).zone z) ((s.setCauses z new).zone z) := by
      rw [setCauses_of_first hold hn]
      split
      · exact createWave_leaves (hcl.claimsFit hf (by simp)) ((hcl.hasZone z).trans hz)
      · exact reassessWave_leaves _ ((hcl.hasZone z).trans hz)
    obtain ⟨st, wv, out, hy, hst⟩ := hleaves
    rw [hstowing] at hy hst
    exact ⟨st, wv, out, hy, fun _ _ => hst, fun h => absurd hold h, fun h => absurd hold h, fun _ h => absurd h hn⟩
  by_cases hn : new = {}
  · have hset : s.setCauses z new = ((s.causesSet z new).enterZoneState z ((s.causesSet z new).calmOrWatch z)).dropStowTasks z := by
      unfold State.setCauses
      simp only
      rw [if_neg hsame, if_neg (fun h => hold ((causes_isEmpty _).mp h)), if_pos ((causes_isEmpty _).mpr hn)]
      rfl
    have hdrop := dropStowTasks_changes (enterZoneState_claimsFit hfit z ((s.causesSet z new).calmOrWatch z)) z
    have hcalm : (s.causesSet z new).calmOrWatch z = s.calmOrWatch z := hl.calmOrWatch (by rw [hlisted])
    refine ⟨s.calmOrWatch z, (s.zone z).wave, (s.zone z).lastOutcome, ?_, fun h => absurd h hold, fun _ h => absurd hn h, fun _ _ => rfl,
      fun h => absurd h hold⟩
    rw [hset, hdrop.zone, enterZoneState_zone _ _ hzt, hlisted, hcalm]
  · refine ⟨(s.zone z).state, (s.zone z).wave, (s.zone z).lastOutcome, ?_, fun h => absurd h hold, fun _ _ => rfl, fun _ h => absurd h hn,
      fun h => absurd h hold⟩
    rw [setCauses_of_further hold hn hsame, hlisted]

/-! ## The release timer (R74) -/

theorem cancelRelease_zone (s : State) {z : Nat} (hz : thas s.znc.zones z = true) :
    (s.cancelRelease z).zone z = { s.zone z with releaseDue := none } := by
  unfold State.cancelRelease
  split
  · exact ((raise_changes _ _).zone).trans (modZone_zone_same s z _ hz)
  next h =>
    have hnone : (s.zone z).releaseDue = none := by simpa using h
    rw [← hnone]

theorem startRelease_zone (s : State) {z : Nat} (hz : thas s.znc.zones z = true) :
    (s.startRelease z).zone z = { s.zone z with releaseDue := some (s.now + (s.activeRow z).th * 1000) } :=
  ((raise_changes _ _).zone).trans (modZone_zone_same s z _ hz)

/-- The due moment of the release timer of zone `x` after an evaluation at `now` (R74). -/
def releaseBy (x : Zone) (row : Row) (now v g : Nat) : Option Nat :=
  if rowStows row v g then none
  else if x.causes.wind then (if rowReleases row v g then some (x.releaseDue.getD (now + row.th * 1000)) else none)
  else x.releaseDue

theorem releaseTimed_zone (s : State) {z : Nat} (hz : thas s.znc.zones z = true) (v g : Nat) :
    (s.releaseTimed z v g).zone z = { s.zone z with releaseDue := releaseBy (s.zone z) (s.activeRow z) s.now v g } := by
  unfold State.releaseTimed releaseBy
  split
  · exact cancelRelease_zone s hz
  split
  · split
    · cases hdue : (s.zone z).releaseDue with
      | none => exact startRelease_zone s hz
      | some due => exact congrArg (fun o => { s.zone z with releaseDue := o }) hdue
    · exact cancelRelease_zone s hz
  · rfl

/-! ## An evaluation with a source (R74) -/

/-- The zone's record after an evaluation with a source: timer and cause set by the row, and the state that R76 gives the cause set. -/
theorem evaluateSourced_zone {s : State} {z : Nat} (hf : ClaimsFit s) (hz : thas s.znc.zones z = true) (v g : Nat) :
    ∃ st wv out, (s.evaluateSourced z v g).zone z = { s.zone z with
        causes := s.causesBy z v g, releaseDue := releaseBy (s.zone z) (s.activeRow z) s.now v g, state := st, wave := wv, lastOutcome := out }
      ∧ ((s.zone z).causes = {} → s.causesBy z v g ≠ {} → st = .stowing ∨ st = .stowed)
      ∧ ((s.zone z).causes ≠ {} → s.causesBy z v g ≠ {} → st = (s.zone z).state)
      ∧ (s.causesBy z v g = {} → st = s.calmOrWatch z) := by
  have htimed := releaseTimed_zone s hz v g
  have hl := releaseTimed_changes s z v g
  have hcalm : (s.releaseTimed z v g).calmOrWatch z = s.calmOrWatch z := hl.calmOrWatch (by rw [htimed])
  have hfit := releaseTimed_claimsFit hf z v g
  have hzt : thas (s.releaseTimed z v g).znc.zones z = true := (hl.hasZone z).trans hz
  obtain ⟨st, wv, out, hy, hfirst, hfurther, hlast, -⟩ := setCauses_zone hfit hzt (s.causesBy z v g)
  rw [htimed] at hy hfirst hfurther hlast
  rw [hcalm] at hlast
  rw [evaluateSourced_eq]
  by_cases hnone : (s.zone z).causes = {} ∧ s.causesBy z v g = {}
  · obtain ⟨hold, hnew⟩ := hnone
    have hsame : (s.releaseTimed z v g).setCauses z (s.causesBy z v g) = s.releaseTimed z v g :=
      if_pos (by rw [htimed, hnew]; exact hold)
    rw [if_pos (by rw [hold, hnew]; rfl), hsame, enterZoneState_zone _ _ hzt, htimed, hcalm]
    exact ⟨_, (s.zone z).wave, (s.zone z).lastOutcome, by rw [hnew, ← hold], fun _ h => absurd hnew h, fun h => absurd hold h, fun _ => rfl⟩
  · have hnot : ¬ ((s.zone z).causes.isEmpty && (s.causesBy z v g).isEmpty) = true := fun h => by
      rw [Bool.and_eq_true, causes_isEmpty, causes_isEmpty] at h
      exact hnone h
    rw [if_neg hnot]
    exact ⟨st, wv, out, hy, hfirst, hfurther, fun hn => hlast (fun ho => hnone ⟨ho, hn⟩) hn⟩

theorem rowStows_iff (row : Row) (v g : Nat) : rowStows row v g = true ↔ row.s1 ≤ v ∨ row.g1 ≤ g := by simp [rowStows]

theorem rowReleases_iff (row : Row) (v g : Nat) : rowReleases row v g = true ↔ v ≤ row.s0 ∧ g ≤ row.g0 := by simp [rowReleases]

/-- The three outcomes of R74 for a zone whose source has the figures `v` and `g`. -/
theorem evaluateSourced_evaluated {s : State} {z k v : Nat} (g : Nat) (hf : ClaimsFit s) (hz : thas s.znc.zones z = true)
    (hk : (s.zone z).source = some k) (hv : s.sustained k = some v) :
    Evaluated (s.zone z) ((s.evaluateSourced z v g).zone z) (s.activeRow z) s.now v g
      ∧ ((s.evaluateSourced z v g).zone z).source = (s.zone z).source := by
  obtain ⟨st, wv, out, hy, hfirst, hfurther, hlast⟩ := evaluateSourced_zone hf hz v g
  rw [calmOrWatch_of_source hk hv] at hlast
  rw [hy]
  refine ⟨⟨fun hstow => ?_, fun hstow hwind => ?_, fun hstow hwind => ?_⟩, rfl⟩
  · have hrow := (rowStows_iff _ v g).mpr hstow
    have hnew : s.causesBy z v g = { (s.zone z).causes with wind := true, noSource := false } := by simp [State.causesBy, hrow]
    have hn : s.causesBy z v g ≠ {} := by simp [hnew]
    exact ⟨hnew, by simp [releaseBy, hrow], fun h => hfirst h hn, fun h => hfurther h hn⟩
  · have hrow : rowStows (s.activeRow z) v g = false := by rw [Bool.eq_false_iff, ne_eq, rowStows_iff]; exact hstow
    have hnew : s.causesBy z v g = { (s.zone z).causes with noSource := false } := by simp [State.causesBy, hrow]
    have hn : s.causesBy z v g ≠ {} := by simp [hnew, hwind]
    refine ⟨hnew, hfurther (fun h => by simp [h] at hwind) hn, fun hbelow => ?_, fun hbelow => ?_⟩
    · simp [releaseBy, hrow, hwind, (rowReleases_iff _ v g).mpr hbelow]
    · have : rowReleases (s.activeRow z) v g = false := by rw [Bool.eq_false_iff, ne_eq, rowReleases_iff]; exact hbelow
      simp [releaseBy, hrow, hwind, this]
  · have hrow : rowStows (s.activeRow z) v g = false := by rw [Bool.eq_false_iff, ne_eq, rowStows_iff]; exact hstow
    have hnew : s.causesBy z v g = { (s.zone z).causes with noSource := false } := by simp [State.causesBy, hrow]
    refine ⟨hnew, by simp [releaseBy, hrow, hwind], fun hm => hfurther (fun h => by simp [h] at hm) (by simp [hnew, hm]), fun hm => hlast ?_⟩
    simp [hnew, hwind, hm]

/-! ## The evaluation of a zone (R73) -/

section
variable {s : State} {z : Nat}

theorem evaluate_of_sourced {k v g : Nat} (hk : (s.zone z).source = some k) (hv : s.sustained k = some v) (hg : s.gust k = some g) :
    s.evaluate z = s.evaluateSourced z v g := by
  simp [State.evaluate, hk, hv, hg]

theorem evaluate_of_awaiting (hsrc : (s.zone z).source = none) (h : s.sourceCondition z = .awaiting) : s.evaluate z = s := by
  simp [State.evaluate, hsrc, h]

theorem evaluate_of_sourceless (hsrc : (s.zone z).source = none) (h : s.sourceCondition z ≠ .awaiting) :
    s.evaluate z = (s.cancelRelease z).setCauses z { (s.zone z).causes with noSource := true } := by
  simp [State.evaluate, hsrc, h]

variable (hf : ClaimsFit s) (hz : thas s.znc.zones z = true)
include hf hz

theorem evaluate_sourceless (hsrc : (s.zone z).source = none) (h : s.sourceCondition z ≠ .awaiting) :
    EvaluatedSourceless (s.zone z) ((s.evaluate z).zone z) ∧ ((s.evaluate z).zone z).source = (s.zone z).source := by
  have hl := cancelRelease_changes s z
  obtain ⟨st, wv, out, hy, hfirst, hfurther, -, -⟩ := setCauses_zone (cancelRelease_claimsFit hf z) ((hl.hasZone z).trans hz)
    { (s.zone z).causes with noSource := true }
  rw [cancelRelease_zone s hz] at hy hfirst hfurther
  rw [evaluate_of_sourceless hsrc h, hy]
  exact ⟨⟨rfl, rfl, fun ho => hfirst ho (by simp), fun ho => hfurther ho (by simp)⟩, rfl⟩

/-- An evaluation leaves the source as it was selected. -/
theorem evaluate_source : ((s.evaluate z).zone z).source = (s.zone z).source := by
  cases hsrc : (s.zone z).source with
  | none =>
    by_cases h : s.sourceCondition z = .awaiting
    · rw [evaluate_of_awaiting hsrc h, hsrc]
    · rw [(evaluate_sourceless hf hz hsrc h).2, hsrc]
  | some k =>
    cases hv : s.sustained k with
    | none => simp [State.evaluate, hsrc, hv]
    | some v =>
      cases hg : s.gust k with
      | none => simp [State.evaluate, hsrc, hv, hg]
      | some g =>
        obtain ⟨st, wv, out, hy, -⟩ := evaluateSourced_zone hf hz v g
        rw [evaluate_of_sourced hsrc hv hg, hy]
        exact hsrc

end

/-! ## The source mast (R67) -/

/-- A zone without a source is awaiting or sourceless (R67). -/
theorem sourceCondition_of_none {s : State} {z : Nat} (h : (s.zone z).source = none) :
    s.sourceCondition z = .awaiting ∨ s.sourceCondition z = .sourceless := by
  unfold State.sourceCondition
  simp only [h, Option.isSome_none, Bool.false_eq_true, if_false]
  split
  · exact .inl rfl
  · exact .inr rfl

section
variable {s : State} (hs : s.wmn.masts.length = 4)
include hs

theorem mastIs_eq (m : Nat) (st : MastState) : s.mastIs m st = decide (stateIn s m = some st) := by
  unfold State.mastIs stateIn thas
  rw [hs]
  by_cases h : 1 ≤ m ∧ m ≤ 4
  · rw [if_pos h]
    simp [h, beq_eq_decide]
  · rw [if_neg h]
    simpa using fun h1 h4 => absurd ⟨h1, h4⟩ h

theorem selectSource_eq (z : Nat) : s.selectSource z = sourceOf (stateIn s) (s.zone z).primary (s.zone z).fallback := by
  simp [State.selectSource, sourceOf, mastIs_eq hs]

theorem sourceCondition_awaiting {z : Nat} (hsrc : (s.zone z).source = none) : s.sourceCondition z = .awaiting ↔
    stateIn s (s.zone z).primary = some .warming ∨ stateIn s (s.zone z).fallback = some .warming := by
  simp [State.sourceCondition, hsrc, mastIs_eq hs, or_iff_not_imp_left]

end

theorem reselect_zone (s : State) {z : Nat} (hz : thas s.znc.zones z = true) :
    (s.reselect z).zone z = { s.zone z with source := s.selectSource z } := by
  unfold State.reselect
  simp only
  split
  next h => rw [← h]
  next => exact ((raise_changes _ _).zone).trans (modZone_zone_same s z _ hz)

/-- A changed source makes a ZONE notice pending. -/
theorem reselect_notice (s : State) {z : Nat} (h : (s.zone z).source ≠ s.selectSource z) : .zone z ∈ (s.reselect z).oli.notices := by
  unfold State.reselect
  simp only
  rw [if_neg h]
  exact mem_raise _ _

end Sys2Proof.Machine
end

section
-- One declaration at a time: the check bounds memory, and every thread in flight takes its stack from it.
set_option Elab.async false

/-! O41: what a mast update makes of each zone (R61, R63, R67, R72 to R74, R76). -/

namespace Sys2Proof.Machine
open Sys2Proof.Claims

/-! ## One update of a mast and one zone (R67, R72) -/

/-- The state in which an update of mast `m` leaves the selection of zone `z`. -/
def State.sourceTaken (t : State) (m : Nat) (changed : Bool) (z : Nat) : State :=
  if changed && ((t.zone z).primary == m || (t.zone z).fallback == m) then t.reselect z else t

/-- What one update makes of the zone `x`, whose record is `y` after it: `src` is its source, and it is evaluated where `ev` holds. -/
structure ZoneTakes (t : State) (z : Nat) (x y : Zone) (src : Option Nat) (ev : Prop) : Prop where
  source : y.source = src
  sourced : ∀ k v g, src = some k → ev → t.sustained k = some v → t.gust k = some g → Evaluated x y (t.activeRow z) t.now v g
  sourceless : src = none → ev → ¬ (stateIn t x.primary = some .warming ∨ stateIn t x.fallback = some .warming) → EvaluatedSourceless x y
  awaiting : src = none → stateIn t x.primary = some .warming ∨ stateIn t x.fallback = some .warming → LeftAsItIs x y
  untouched : ¬ ev → LeftAsItIs x y

section
variable {t : State} {z : Nat}

theorem sourceTaken_changes (m : Nat) (changed : Bool) : Changes {.zone z} t (t.sourceTaken m changed z) :=
  Changes.ite (fun _ => reselect_changes t z) fun _ => Changes.refl _ t

theorem sourceTaken_claimsFit (hf : ClaimsFit t) (m : Nat) (changed : Bool) : ClaimsFit (t.sourceTaken m changed z) :=
  ite_claimsFit (fun _ => reselect_claimsFit hf z) fun _ => hf

theorem sourceTaken_zone (hm : t.wmn.masts.length = 4) (hz : thas t.znc.zones z = true) (m : Nat) (changed : Bool) :
    (t.sourceTaken m changed z).zone z = { t.zone z with source :=
      (if changed = true ∧ ((t.zone z).primary = m ∨ (t.zone z).fallback = m) then
        sourceOf (stateIn t) (t.zone z).primary (t.zone z).fallback else (t.zone z).source) } := by
  unfold State.sourceTaken
  simp only [Bool.and_eq_true, Bool.or_eq_true, beq_iff_eq]
  split
  · rw [reselect_zone t hz, selectSource_eq hm]
  · rfl

theorem sourceTaken_notice (hz : thas t.znc.zones z = true) (m : Nat) (changed : Bool)
    (h : ((t.sourceTaken m changed z).zone z).source ≠ (t.zone z).source) : .zone z ∈ (t.sourceTaken m changed z).oli.notices := by
  unfold State.sourceTaken at h ⊢
  split at h
  next hc =>
    rw [if_pos hc]
    refine reselect_notice t fun he => h ?_
    rw [reselect_zone t hz, he]
  next => exact absurd rfl h

/-- An update evaluates the zone where its source gained a sample or changed, or where it names the mast and has no source. (An evaluation
while awaiting does nothing, so whether it was awaiting before does not matter.) -/
theorem zoneUpdate_eq (m : Nat) (changed added wasAwaiting : Bool) : t.zoneUpdate m changed added wasAwaiting z =
    if (added = true ∧ ((t.sourceTaken m changed z).zone z).source = some m) ∨ ((t.sourceTaken m changed z).zone z).source ≠ (t.zone z).source
        ∨ (((t.zone z).primary = m ∨ (t.zone z).fallback = m) ∧ ((t.sourceTaken m changed z).zone z).source = none)
      then (t.sourceTaken m changed z).evaluate z else t.sourceTaken m changed z := by
  let u := t.sourceTaken m changed z
  have hdef : t.zoneUpdate m changed added wasAwaiting z =
      if (added && (u.zone z).source == some m) || (u.zone z).source != (t.zone z).source
          || (((t.zone z).primary == m || (t.zone z).fallback == m) && (u.zone z).source.isNone
            && (u.sourceCondition z == .sourceless || wasAwaiting)) then u.evaluate z else u := rfl
  rw [hdef]
  simp only [Bool.or_eq_true, Bool.and_eq_true, beq_iff_eq, bne_iff_ne, Option.isNone_iff_eq_none]
  split
  next h =>
    refine (if_pos ?_).symm
    rcases h with (h | h) | ⟨h, -⟩
    · exact .inl h
    · exact .inr (.inl h)
    · exact .inr (.inr h)
  next h =>
    split
    next h' =>
      have hlost := (h'.resolve_left fun h1 => h (.inl (.inl h1))).resolve_left fun h2 => h (.inl (.inr h2))
      have hcond : u.sourceCondition z = .awaiting :=
        (sourceCondition_of_none hlost.2).resolve_right fun hc => h (.inr ⟨hlost, .inl hc⟩)
      exact (evaluate_of_awaiting hlost.2 hcond).symm
    next => rfl

/-- One update of mast `m` on zone `z`. -/
theorem zoneUpdate_takes (hf : ClaimsFit t) (hm : t.wmn.masts.length = 4) (hz : thas t.znc.zones z = true) (m : Nat)
    (changed added wasAwaiting : Bool) :
    let x := t.zone z
    let src := if changed = true ∧ (x.primary = m ∨ x.fallback = m) then sourceOf (stateIn t) x.primary x.fallback else x.source
    ZoneTakes t z x ((t.zoneUpdate m changed added wasAwaiting z).zone z) src
        ((added = true ∧ src = some m) ∨ src ≠ x.source ∨ ((x.primary = m ∨ x.fallback = m) ∧ src = none))
      ∧ (src ≠ x.source → .zone z ∈ (t.zoneUpdate m changed added wasAwaiting z).oli.notices) := by
  intro x src
  let u := t.sourceTaken m changed z
  have hl : Changes {.zone z} t u := sourceTaken_changes m changed
  have hux : u.zone z = { x with source := src } := sourceTaken_zone hm hz m changed
  have husrc : (u.zone z).source = src := by rw [hux]
  have huf : ClaimsFit u := sourceTaken_claimsFit hf m changed
  have huz : thas u.znc.zones z = true := (hl.hasZone z).trans hz
  have hum : u.wmn.masts.length = 4 := (congrArg (·.masts.length) hl.wmn).trans hm
  have hstate : stateIn u = stateIn t := funext fun k => by rw [stateIn, hl.mast, stateIn]
  have hsus (k : Nat) : u.sustained k = t.sustained k := by rw [State.sustained, hl.mast, State.sustained]
  have hgust (k : Nat) : u.gust k = t.gust k := by rw [State.gust, hl.mast, State.gust]
  have hcond (hn : src = none) : u.sourceCondition z = .awaiting ↔
      stateIn t x.primary = some .warming ∨ stateIn t x.fallback = some .warming := by
    rw [sourceCondition_awaiting hum (husrc.trans hn), hstate, hux]
  have hleft : LeftAsItIs x (u.zone z) := by
    rw [hux]
    exact ⟨rfl, rfl, rfl⟩
  have hupdate := zoneUpdate_eq (t := t) (z := z) m changed added wasAwaiting
  rw [husrc] at hupdate
  refine ⟨⟨?_, fun k v g hk hev hv hg => ?_, fun hn hev haw => ?_, fun hn haw => ?_, fun hev => ?_⟩, fun hne => ?_⟩
  · rw [hupdate]
    split
    · rw [evaluate_source huf huz, husrc]
    · exact husrc
  · have hu := evaluateSourced_evaluated g huf huz (husrc.trans hk) ((hsus k).trans hv)
    rw [hupdate, if_pos hev, evaluate_of_sourced (husrc.trans hk) ((hsus k).trans hv) ((hgust k).trans hg), ← hl.activeRow, ← hl.now]
    have := hu.1
    rw [hux] at this
    exact this
  · have hu := evaluate_sourceless huf huz (husrc.trans hn) fun h => haw ((hcond hn).mp h)
    rw [hupdate, if_pos hev]
    have := hu.1
    rw [hux] at this
    exact this
  · rw [hupdate]
    split
    · rw [evaluate_of_awaiting (husrc.trans hn) ((hcond hn).mpr haw)]
      exact hleft
    · exact hleft
  · rw [hupdate, if_neg hev]
    exact hleft
  · rw [hupdate, if_pos (.inr (.inl hne))]
    have hkeep : Changes (stowing z) u (u.evaluate z) := evaluate_changes (fun _ h => h) (.inr huf)
    exact hkeep.notices (sourceTaken_notice hz m changed (by rw [husrc]; exact hne))

end

/-! ## The walk over the zones (R61) -/

/-- A walk over different numbers that keeps a property of the state, on which the frames of its steps rest. -/
theorem foldl_meets_of {P : State → Prop} {l : Nat → Set Part} (g : State → Nat → State) (xs : List Nat) (hn : xs.Nodup) (s : State)
    (hs : P s) (h : ∀ t x, P t → P (g t x) ∧ Changes (l x) t (g t x)) {d : Nat} (hd : d ∈ xs) :
    ∃ t, P t ∧ Changes (besides l d) s t ∧ Changes (besides l d) (g t d) (xs.foldl g s) := by
  have walk (ys : List Nat) (hy : d ∉ ys) : ∀ t, P t → P (ys.foldl g t) ∧ Changes (besides l d) t (ys.foldl g t) := by
    induction ys with
    | nil => exact fun t ht => ⟨ht, Changes.refl _ t⟩
    | cons x ys ih =>
      intro t ht
      obtain ⟨hnext, hstep⟩ := h t x ht
      obtain ⟨hend, hrest⟩ := ih (fun hm => hy (List.mem_cons_of_mem x hm)) _ hnext
      exact ⟨hend, Changes.trans (hstep.mono fun p hp => ⟨x, fun he => hy (he ▸ List.mem_cons_self), hp⟩) hrest⟩
  obtain ⟨pre, post, rfl⟩ := List.append_of_mem hd
  have hpre : d ∉ pre := fun hm => (List.nodup_append.mp hn).2.2 d hm d (by simp) rfl
  have hpost : d ∉ post := (List.nodup_cons.mp (List.nodup_append.mp hn).2.1).1
  obtain ⟨hmet, hbefore⟩ := walk pre hpre s hs
  refine ⟨pre.foldl g s, hmet, hbefore, ?_⟩
  rw [List.foldl_append, List.foldl_cons]
  exact (walk post hpost _ (h _ d hmet).1).2

/-- A mast update meets each zone once; before and after, the zone and what it reads stay. -/
theorem mastUpdate_meets {s : State} (before : State) (m : Nat) (added : Bool) {z : Nat} (hf : ClaimsFit s)
    (hz : thas s.znc.zones z = true) : ∃ t, ClaimsFit t ∧ Changes (besides stowing z) s t
      ∧ Changes (besides stowing z) (t.zoneUpdate m ((before.mast m).state != (s.mast m).state) added (before.sourceCondition z == .awaiting) z)
          (s.mastUpdate before m added) := by
  have hmem : z ∈ s.zoneNumbers := by
    simp only [thas, Bool.and_eq_true, decide_eq_true_eq] at hz
    exact List.mem_map.mpr ⟨z - 1, List.mem_range.mpr (by omega), by omega⟩
  exact foldl_meets_of (P := ClaimsFit) (l := stowing) (fun (t : State) z => t.zoneUpdate m ((before.mast m).state != (s.mast m).state) added
      (before.sourceCondition z == .awaiting) z) s.zoneNumbers (List.nodup_range.map (add_left_injective 1)) s hf
    (fun t y ht => ⟨zoneUpdate_claimsFit ht m _ added _ y, zoneUpdate_changes (fun _ h => h) (.inr ht) m _ added _⟩) hmem

/-! ## What ACT is handed (R63) -/

theorem mastNoted_countsOf (s : State) (m : Nat) (f : Mast → Mast) : CountsOf s (s.mastNoted m f) .mastStale
    (if (s.mast m).state = .live ∧ ((s.modMast m f).mast m).state = .stale then [some (m - 1)] else []) := by
  have hwrite : Changes {.wind, .conds} s (s.modMast m f).syncStale := ((modMast_changes s m f).mono).trans ((syncStale_changes _).mono)
  have hnone := hwrite.countsOf .mastStale
  unfold State.mastNoted
  simp only [Bool.and_eq_true, beq_iff_eq]
  split
  · exact countsOf_trans hnone (count_countsOf _ .mastStale _) (count_changes _ _ _).notices
  · exact hnone

theorem mastEvent_countsOf (s : State) (m : Nat) (added : Bool) (f : Mast → Mast) : CountsOf s (s.mastEvent m added f) .mastStale
    (if (s.mast m).state = .live ∧ ((s.modMast m f).mast m).state = .stale then [some (m - 1)] else []) := by
  have hnoted := mastNoted_countsOf s m f
  have hl := mastUpdate_changes (s.mastNoted m f) s m added
  rw [mastEvent_eq]
  split
  · have := countsOf_trans hnoted (hl.countsOf .mastStale) hl.notices
    rwa [List.append_nil] at this
  · exact hnoted

end Sys2Proof.Machine
end

section
-- One declaration at a time: the check bounds memory, and every thread in flight takes its stack from it.
set_option Elab.async false

/-! O41: its statement. -/

namespace Sys2Proof.Machine
open Sys2Proof.Claims

/-! ## What an event of a mast leaves of a zone -/

section
variable {s u : State} {m now : Nat} (hu : MastMet s u m now) (hs : Shape s) (h1 : 1 ≤ m) (h4 : m ≤ 4) (f : Mast → Mast)
include hu hs h1 h4

theorem MastMet.hasMast : thas u.wmn.masts m = true := by
  simpa [thas, hu.length] using hs.hasMast h1 h4

/-- The mast records after the event. -/
theorem MastMet.mast_after {t : State} (ht : t.wmn = (u.modMast m f).wmn) (k : Nat) :
    t.mast k = if k = m then f (u.mast m) else s.mast k := by
  rw [mast_of_wmn ht]
  split
  next h => rw [h, modMast_mast_same u m f (hu.hasMast hs h1 h4)]
  next h => rw [modMast_mast_other u m k f h, hu.other k h]

theorem MastMet.stateIn_after {t : State} (ht : t.wmn = (u.modMast m f).wmn) :
    stateIn t = fun k => if k = m then some (f (u.mast m)).state else stateIn s k := by
  funext k
  unfold stateIn
  rw [hu.mast_after hs h1 h4 f ht]
  by_cases h : k = m
  · subst h
    simp [h1, h4]
  · simp [h]

end

/-- After an event of a mast that updates the zones, zone `z` has taken the update with the records that the event left. -/
theorem mastEvent_takes {s u : State} {m now z : Nat} {f : Mast → Mast} {added : Bool} (hu : MastMet s u m now) (hs : Shape s)
    (hf : ClaimsFit s) (h1 : 1 ≤ m) (h4 : m ≤ 4) (hz1 : 1 ≤ z) (hz8 : z ≤ 8)
    (hup : added = true ∨ (f (u.mast m)).state ≠ (s.mast m).state ∨ (f (u.mast m)).window ≠ (s.mast m).window) :
    let x := s.zone z
    let states (k : Nat) : Option MastState := if k = m then some (f (u.mast m)).state else stateIn s k
    let src := if (f (u.mast m)).state ≠ (s.mast m).state ∧ (x.primary = m ∨ x.fallback = m) then sourceOf states x.primary x.fallback
      else x.source
    ∃ t : State, ZoneTakes t z x ((u.mastEvent m added f).zone z) src
        ((added = true ∧ src = some m) ∨ src ≠ x.source ∨ ((x.primary = m ∨ x.fallback = m) ∧ src = none))
      ∧ (src ≠ x.source → .zone z ∈ (u.mastEvent m added f).oli.notices)
      ∧ stateIn t = states ∧ (∀ k, t.mast k = if k = m then f (u.mast m) else s.mast k) ∧ t.activeRow z = s.activeRow z ∧ t.now = now := by
  intro x states src
  let v := u.mastNoted m f
  have hsv : Changes {.clock, .wind, .conds, .counters (some .mastStale)} s v := (hu.frame.mono).trans ((mastNoted_changes u m f).mono)
  have hvf : ClaimsFit v := hsv.claimsFit hf (by simp)
  have hvz : thas v.znc.zones z = true := (hsv.hasZone z).trans (hs.hasZone hz1 hz8)
  obtain ⟨t, htf, hvt, hafter⟩ := mastUpdate_meets (s := v) u m added hvf hvz
  have hst := hsv.andThen hvt
  have htm : t.wmn = (u.modMast m f).wmn := hvt.wmn.trans (mastNoted_tail u m f).wmn
  have hlength : t.wmn.masts.length = 4 := by
    rw [htm]
    simpa [State.modMast, hu.length] using hs.2.2.2.1
  have hstates := hu.stateIn_after hs h1 h4 f htm
  have htx : t.zone z = x := hst.zone
  have hvm : v.mast m = f (u.mast m) := by
    rw [hu.mast_after hs h1 h4 f (mastNoted_tail u m f).wmn, if_pos rfl]
  have hevent : u.mastEvent m added f = v.mastUpdate u m added := by
    rw [mastEvent_eq, modMast_mast_same u m f (hu.hasMast hs h1 h4), if_pos]
    simpa [hu.state, hu.window, or_assoc] using hup
  have htake := zoneUpdate_takes htf hlength ((hvt.hasZone z).trans hvz) m ((u.mast m).state != (v.mast m).state) added
    (u.sourceCondition z == .awaiting)
  have hchanged : ((u.mast m).state != (v.mast m).state) = true ↔ (f (u.mast m)).state ≠ (s.mast m).state := by
    rw [hvm, hu.state, bne_iff_ne, ne_comm]
  simp only [htx, hstates, hchanged] at htake
  obtain ⟨htakes, hnotice⟩ := htake
  rw [hevent]
  refine ⟨t, ?_, fun hne => hafter.notices (hnotice hne), hstates, hu.mast_after hs h1 h4 f htm, ?_, ?_⟩
  · rw [hafter.zone]
    exact htakes
  · exact (hvt.activeRow (z := z)).trans (hsv.activeRow (z := z))
  · exact hvt.now.trans ((mastNoted_changes u m f).now.trans hu.now)

/-- An event of a mast that changes neither state nor window and adds no sample leaves every zone alone. -/
theorem mastEvent_quiet {s u : State} {m now z : Nat} {f : Mast → Mast} {added : Bool} (hu : MastMet s u m now) (hs : Shape s)
    (h1 : 1 ≤ m) (h4 : m ≤ 4)
    (hup : ¬ (added = true ∨ (f (u.mast m)).state ≠ (s.mast m).state ∨ (f (u.mast m)).window ≠ (s.mast m).window)) :
    (u.mastEvent m added f).zone z = s.zone z := by
  have hevent : u.mastEvent m added f = u.mastNoted m f := by
    rw [mastEvent_eq, modMast_mast_same u m f (hu.hasMast hs h1 h4), if_neg]
    simpa [hu.state, hu.window, or_assoc] using hup
  rw [hevent]
  exact ((mastNoted_changes u m f).zone).trans hu.frame.zone

end Sys2Proof.Machine

open Sys2Proof.Machine Sys2Proof.Claims in
/-- Settles O41: the walk over the zones meets zone `z` once (`mastUpdate_meets`), with the mast records that the event left and the zone as it
was, and one update selects and evaluates it (`zoneUpdate_takes`). -/
theorem mastUpdatesSelectSourcesAndEvaluateZones : Obligations.MastUpdatesSelectSourcesAndEvaluateZones := by
  unfold Obligations.MastUpdatesSelectSourcesAndEvaluateZones
  intro s m z now c r added hs hf hr h1 h4 hz1 hz8 hevent x names states window source updates awaiting
  obtain ⟨u, f, hu, rfl, t, ht, -, -, -, -, -, -, o, ho, rfl⟩ := happens_of_mastEvent hs hr h1 h4 hevent
  have hmast : (u.mastEvent m added f).mast m = f (u.mast m) := by
    rw [hu.mast_after hs h1 h4 f (mastEvent_wmn u m f added), if_pos rfl]
  have hcount := countsOf_trans (hu.frame.countsOf .mastStale) (mastEvent_countsOf u m added f) (mastEvent_changes u m f added).notices
  rw [hu.state, modMast_mast_same u m f (hu.hasMast hs h1 h4)] at hcount
  refine ⟨_, ht, hmast, ?_⟩
  by_cases hup : updates
  · obtain ⟨w, htakes, hnotice, hstates, hmasts, hrow, hnow⟩ := mastEvent_takes hu hs hf h1 h4 hz1 hz8 hup
    have hwindow (k : Nat) : (w.mast k).window = window k := by
      rw [hmasts]
      exact apply_ite Mast.window _ _ _
    refine ⟨htakes.source, fun hne => ho ▸ hnotice hne, countsOf_congr hcount rfl rfl ho, fun k v g hk hev hv hg => ?_,
      fun k hk hsame hold => htakes.untouched ?_, fun hn hnames _ haw => htakes.sourceless hn (.inr (.inr ⟨hnames, hn⟩)) ?_,
      fun hn hor => ?_⟩
    · have hsus : w.sustained k = some v := (congrArg sustainedOf (hwindow k)).trans hv
      have hgust : w.gust k = some g := (congrArg gustOf (hwindow k)).trans hg
      have := htakes.sourced k v g hk (hev.elim (fun h => .inr (.inl h)) fun h => .inl ⟨h.1, hk.trans (congrArg some h.2)⟩) hsus hgust
      rwa [hrow, hnow] at this
    · rintro (⟨ha, hm⟩ | hne | ⟨-, hn⟩)
      · have hkm : k = m := Option.some.inj (hk.symm.trans hm)
        rcases hold with h | h
        · simp [h] at ha
        · exact h hkm
      · exact hne hsame
      · exact absurd (hk.symm.trans hn) (by simp)
    · rw [hstates]
      exact haw
    · by_cases haw : awaiting
      · exact htakes.awaiting hn (by rw [hstates]; exact haw)
      · have hnames : ¬ names := (hor.resolve_right fun h => h.elim (fun h => h hup) haw)
        refine htakes.untouched ?_
        rintro (⟨-, hm⟩ | hne | ⟨h, -⟩)
        · exact absurd (hm.symm.trans hn) (by simp)
        · exact hne (if_neg fun h => hnames h.2)
        · exact hnames h
  · have hzone := mastEvent_quiet (z := z) hu hs h1 h4 hup
    obtain ⟨hadded, hstate, -⟩ := not_or.mp hup |>.imp_right not_or.mp
    have hsource : source = x.source := if_neg fun h => hstate h.1
    have hleft : LeftAsItIs x ((u.mastEvent m added f).zone z) := by
      rw [hzone]
      exact ⟨rfl, rfl, rfl⟩
    refine ⟨?_, fun hne => absurd hsource hne, countsOf_congr hcount rfl rfl ho, fun k v g _ hev => ?_, fun _ _ _ _ => hleft,
      fun _ _ h => absurd h hup, fun _ _ => hleft⟩
    · exact (congrArg Zone.source hzone).trans hsource.symm
    · exact (hev.elim (absurd hsource) fun h => absurd h.1 hadded)

end

section
-- One declaration at a time: the check bounds memory, and every thread in flight takes its stack from it.
set_option Elab.async false

/-! O43: the threshold banks and the reports of banks and zones (R69 to R71, R87, R88). -/

namespace Sys2Proof.Machine
open Sys2Proof.Claims

/-! ## Writes to the banks -/

/-- A write to the banks or to their selection alone. -/
theorem withBanks_changes (s : State) (a b : List Row) (k : Bank) :
    Changes {.banks} s { s with znc.bankA := a, znc.bankB := b, znc.active := k } := by
  refine ⟨fun p hp => ?_, rfl, fun _ hk => hk, id⟩
  cases p with
  | banks => exact absurd rfl hp
  | _ => simp [Part.Same, State.dish, State.slots, State.zone, State.heater, State.counterAt]

theorem writeRow_changes (s : State) (k : Bank) (z : Nat) (r : Row) : Changes {.banks} s (s.writeRow k z r) := by
  cases k with
  | a => exact withBanks_changes s (tmod s.znc.bankA z (fun _ => r)) s.znc.bankB s.znc.active
  | b => exact withBanks_changes s s.znc.bankA (tmod s.znc.bankB z (fun _ => r)) s.znc.active

/-- A frame that leaves the banks alone leaves both of them and their selection. -/
theorem Changes.banks {l : Set Part} {s t : State} (h : Changes l s t) (hb : Part.banks ∉ l := by simp) :
    t.znc.bankA = s.znc.bankA ∧ t.znc.bankB = s.znc.bankB ∧ t.znc.active = s.znc.active := by
  have ht : t.znc = { s.znc with zones := t.znc.zones } := h.same .banks hb
  rw [ht]
  exact ⟨rfl, rfl, rfl⟩

theorem tmod_const {α : Type} (l : List α) {n : Nat} (x : α) (h : 1 ≤ n) : tmod l n (fun _ => x) = l.set (n - 1) x := by
  obtain ⟨k, rfl⟩ := Nat.exists_eq_add_of_le' h
  exact @List.modify_eq_set _ ⟨x⟩ (fun _ => x) k l

/-- The row of zone `z` in the active bank after a write to that bank. -/
theorem writeRow_activeRow {s : State} (hs : Shape s) {z : Nat} (r : Row) (h1 : 1 ≤ z) (h8 : z ≤ 8) :
    (s.writeRow s.znc.active z r).activeRow z = r := by
  obtain ⟨-, -, -, -, -, hA, hB, -⟩ := hs
  have row {l : List Row} (hl : l.length = 8) : tget (tmod l z (fun _ => r)) z defaultRow = r :=
    tget_tmod_same _ _ _ _ (by simp [thas, hl, h1, h8])
  cases hk : s.znc.active with
  | a => simpa [State.activeRow, State.writeRow, hk] using row hA
  | b => simpa [State.activeRow, State.writeRow, hk] using row hB

/-! ## Release timers restart (R69, R70) -/

theorem restartRelease_changes (s : State) (z : Nat) : Changes {.zone z} s (s.restartRelease z) :=
  Changes.ite (fun _ => startRelease_changes s z) fun _ => Changes.refl _ s

theorem restartRelease_zone (s : State) {z : Nat} (hz : thas s.znc.zones z = true) : (s.restartRelease z).zone z =
    { s.zone z with releaseDue := (s.zone z).releaseDue.map (fun _ => s.now + (s.activeRow z).th * 1000) } := by
  unfold State.restartRelease
  cases hdue : (s.zone z).releaseDue with
  | none => exact congrArg (fun o => { s.zone z with releaseDue := o }) hdue
  | some due => simpa using startRelease_zone s hz

theorem mem_zoneNumbers (s : State) (z : Nat) : z ∈ s.zoneNumbers ↔ thas s.znc.zones z = true := by
  simp only [State.zoneNumbers, List.mem_map, List.mem_range, thas, Bool.and_eq_true, decide_eq_true_eq]
  exact ⟨fun ⟨i, hi, hz⟩ => by omega, fun ⟨h1, hl⟩ => ⟨z - 1, by omega, by omega⟩⟩

theorem restartReleases_changes (s : State) (zs : List Nat) :
    Changes {p | ∃ z ∈ zs, p = .zone z} s (zs.foldl (fun t z => State.restartRelease t z) s) :=
  Changes.foldl _ _ s fun t z hz => (restartRelease_changes t z).mono (by simpa using hz)

/-- The walk over the zones restarts each running release timer once, at the row in force before the walk. -/
theorem restartReleases_zone (s : State) (z : Nat) : (s.zoneNumbers.foldl (fun t z => State.restartRelease t z) s).zone z =
    if thas s.znc.zones z = true then
      { s.zone z with releaseDue := (s.zone z).releaseDue.map (fun _ => s.now + (s.activeRow z).th * 1000) }
    else s.zone z := by
  split
  next hz =>
    obtain ⟨t, hbefore, hafter⟩ := foldl_meets (fun t z => State.restartRelease t z) s.zoneNumbers
      (List.nodup_range.map (add_left_injective 1)) s restartRelease_changes ((mem_zoneNumbers s z).mpr hz)
    rw [hafter.zone, restartRelease_zone t ((hbefore.hasZone z).trans hz), hbefore.zone, hbefore.now, hbefore.activeRow]
  next hz => exact (restartReleases_changes s s.zoneNumbers).zone (by simpa [mem_zoneNumbers] using hz)

/-! ## BANK_WRITE_ROW and BANK_SELECT -/

theorem bankOf_of_gt {b : Nat} (h : 2 ≤ b) : bankOf b = none := by
  match b with
  | 0 | 1 => omega
  | _ + 2 => rfl

theorem bankOf_of_le {b : Nat} (h : b ≤ 1) : bankOf b = some (if b = 0 then .a else .b) := by
  match b with
  | 0 | 1 => rfl
  | _ + 2 => omega

theorem Shape.hasZone_iff {s : State} (h : Shape s) (z : Nat) : thas s.znc.zones z = true ↔ 1 ≤ z ∧ z ≤ 8 := by
  simp [thas, h.2.2.2.2.1]

theorem rowSpeedsOk_iff (r : Row) :
    rowSpeedsOk r = true ↔ r.w ≤ 999 ∧ r.s1 ≤ 999 ∧ r.g1 ≤ 999 ∧ r.s0 ≤ 999 ∧ r.g0 ≤ 999 := by
  simp [rowSpeedsOk, and_assoc]

theorem rowOk_iff (r : Row) :
    rowOk r = true ↔ r.s0 < r.s1 ∧ r.g0 < r.g1 ∧ r.s0 ≤ r.w ∧ r.w ≤ r.s1 ∧ 60 ≤ r.th ∧ r.th ≤ 3600 := by
  simp [rowOk, inRange, and_assoc]

/-- The checks of R69 in their order. -/
theorem bankWriteOf_eq {s : State} (hs : Shape s) (b z : Nat) (r : Row) : s.bankWriteOf b z r =
    if ¬ (b ≤ 1 ∧ (1 ≤ z ∧ z ≤ 8) ∧ rowSpeedsOk r = true) then s.refuse .outOfRange
    else if ¬ rowOk r = true then s.refuse .badThresholds
    else
      let k : Bank := if b = 0 then .a else .b
      (if k = s.znc.active then (s.writeRow k z r).restartRelease z else s.writeRow k z r).answer .accepted := by
  unfold State.bankWriteOf
  by_cases hb : b ≤ 1
  · rw [bankOf_of_le hb]
    simp [hb, ← hs.hasZone_iff, imp_iff_not_or]
  · rw [bankOf_of_gt (by omega)]
    simp [hb]

theorem bankWriteRow_writes {s : State} {tag b z : Nat} {r : Row} (hs : Shape s) (h : Ready s (.bankWriteRow tag b z r)) (hb : b ≤ 1)
    (h1 : 1 ≤ z) (h8 : z ≤ 8) (hspeeds : rowSpeedsOk r = true) (hrow : rowOk r = true) :
    Answers (.bankWriteRow tag b z r) s 0x17 tag (.ok .accepted) [.znc] (fun t =>
      t.znc.bankA = (if b = 0 then s.znc.bankA.set (z - 1) r else s.znc.bankA)
      ∧ t.znc.bankB = (if b = 1 then s.znc.bankB.set (z - 1) r else s.znc.bankB) ∧ t.znc.active = s.znc.active
      ∧ (∀ y, y ≠ z → t.zone y = s.zone y)
      ∧ (¬ s.znc.active = (if b = 0 then .a else .b) ∨ (s.zone z).releaseDue = none → t.zone z = s.zone z)
      ∧ (s.znc.active = (if b = 0 then .a else .b) → (s.zone z).releaseDue.isSome = true →
          t.zone z = { s.zone z with releaseDue := some (s.now + r.th * 1000) })) := by
  let k : Bank := if b = 0 then .a else .b
  let u := s.taken.writeRow k z r
  let v := if k = s.znc.active then u.restartRelease z else u
  have hu : Changes {.banks} s.taken u := writeRow_changes s.taken k z r
  have huv : Changes {.zone z} u v := Changes.ite (fun _ => restartRelease_changes u z) fun _ => Changes.refl _ u
  have hzone : u.zone z = s.zone z := hu.zone
  have howner : s.taken.bankWriteOf b z r = v.answer .accepted := by
    rw [bankWriteOf_eq hs.taken, if_neg (by simp [hb, h1, h8, hspeeds]), if_neg (by simp [hrow])]
    rfl
  have hbanks : u.znc.bankA = (if b = 0 then s.znc.bankA.set (z - 1) r else s.znc.bankA)
      ∧ u.znc.bankB = (if b = 1 then s.znc.bankB.set (z - 1) r else s.znc.bankB) ∧ u.znc.active = s.znc.active := by
    obtain rfl | rfl : b = 0 ∨ b = 1 := by omega
    · exact ⟨tmod_const s.znc.bankA r h1, rfl, rfl⟩
    · exact ⟨rfl, tmod_const s.znc.bankB r h1, rfl⟩
  obtain ⟨hA, hB, hact⟩ := huv.banks
  refine answers_of_changes (owner := fun s => s.bankWriteOf b z r) _ v h rfl rfl howner (hu.andThen huv)
    (by simp [Part.within, Part.block]) fun o _ => ⟨hA.trans hbanks.1, hB.trans hbanks.2.1, hact.trans hbanks.2.2,
      fun y hy => (huv.zone (by simpa using hy)).trans hu.zone, fun hstays => ?_, fun hk hdue => ?_⟩
  · show v.zone z = s.zone z
    by_cases hk : k = s.znc.active
    · have hnone := hstays.resolve_left fun hn => hn hk.symm
      simp only [v, if_pos hk]
      rw [restartRelease_zone u ((hu.hasZone z).trans (hs.hasZone h1 h8)), hzone, hnone, Option.map_none, ← hnone]
    · simp only [v, if_neg hk]
      exact hzone
  · show v.zone z = _
    obtain ⟨due, hdue⟩ := Option.isSome_iff_exists.mp hdue
    have hrow' : u.activeRow z = r := by
      have := writeRow_activeRow hs.taken r h1 h8
      rwa [show s.taken.znc.active = k from hk] at this
    simp only [v, if_pos (show k = s.znc.active from hk.symm)]
    rw [restartRelease_zone u ((hu.hasZone z).trans (hs.hasZone h1 h8)), hzone, hdue, hrow', show u.now = s.now from hu.now]
    rfl

/-- BANK_SELECT of the bank that is not active (R70). -/
theorem bankSelect_selects {s : State} {tag b : Nat} (hs : Shape s) (h : Ready s (.bankSelect tag b)) (hb : b ≤ 1)
    (hk : s.znc.active ≠ (if b = 0 then .a else .b)) :
    Answers (.bankSelect tag b) s 0x19 tag (.ok .accepted) [.znc] (fun t =>
      t.znc.active = (if b = 0 then .a else .b) ∧ t.znc.bankA = s.znc.bankA ∧ t.znc.bankB = s.znc.bankB
      ∧ (∀ z, (s.zone z).releaseDue = none → t.zone z = s.zone z)
      ∧ (∀ z, 1 ≤ z → z ≤ 8 → (s.zone z).releaseDue.isSome = true → t.zone z = { s.zone z with
          releaseDue := some (s.now + ((if b = 0 then s.znc.bankA else s.znc.bankB).getD (z - 1) defaultRow).th * 1000) })) := by
  let k : Bank := if b = 0 then .a else .b
  let u : State := { s.taken with znc.active := k }
  let v := u.zoneNumbers.foldl (fun t z => State.restartRelease t z) u
  have hu : Changes {.banks} s.taken u := withBanks_changes s.taken s.znc.bankA s.znc.bankB k
  have huv : Changes anyZone u v := (restartReleases_changes u u.zoneNumbers).mono fun _ ⟨z, _, hp⟩ => ⟨z, hp⟩
  have howner : s.taken.bankSelectOf b = v.answer .accepted := by
    unfold State.bankSelectOf
    rw [bankOf_of_le hb]
    exact if_neg fun he => hk he.symm
  have hzone := restartReleases_zone u
  have hrow {z : Nat} (h1 : 1 ≤ z) : u.activeRow z = (if b = 0 then s.znc.bankA else s.znc.bankB).getD (z - 1) defaultRow := by
    obtain ⟨i, rfl⟩ := Nat.exists_eq_add_of_le' h1
    obtain rfl | rfl : b = 0 ∨ b = 1 := by omega
    · rfl
    · rfl
  obtain ⟨hA, hB, hact⟩ := huv.banks
  refine answers_of_changes (owner := fun s => s.bankSelectOf b) _ v h rfl rfl howner (hu.andThen huv) ?_ fun o _ =>
    ⟨hact, hA, hB, fun z hdue => ?_, fun z h1 h8 hdue => ?_⟩
  · rintro q (rfl | ⟨z, rfl⟩) <;> simp [Part.within, Part.block]
  · refine (hzone z).trans ?_
    have hnone : (u.zone z).releaseDue = none := hdue
    rw [hnone, Option.map_none, ← hnone]
    exact ite_self _
  · obtain ⟨due, hdue⟩ := Option.isSome_iff_exists.mp hdue
    refine (hzone z).trans ((if_pos (hs.hasZone h1 h8)).trans ?_)
    rw [hrow h1, show (u.zone z).releaseDue = some due from hdue]
    rfl

theorem bankWritesAndSelection : BankWritesAndSelection := by
  intro s tag b hs
  refine ⟨fun z r h => ?_, fun h => ⟨fun hb => ?_, fun hb hk => ?_, fun hb hk => bankSelect_selects hs h hb hk⟩⟩
  · intro c inside ordered active
    have hinside : inside ↔ b ≤ 1 ∧ (1 ≤ z ∧ z ≤ 8) ∧ rowSpeedsOk r = true := by
      rw [rowSpeedsOk_iff]
      simp only [inside, and_assoc]
    have heq := bankWriteOf_eq hs.taken b z r
    refine ⟨fun hout => ?_, fun hin hord => ?_, fun hin hord => ?_⟩
    · rw [if_pos (hinside.not.mp hout)] at heq
      exact refuse_answered s _ (fun s => s.bankWriteOf b z r) 0x17 tag _ h rfl rfl heq
    · rw [if_neg (not_not.mpr (hinside.mp hin)), if_pos ((rowOk_iff r).not.mpr hord)] at heq
      exact refuse_answered s _ (fun s => s.bankWriteOf b z r) 0x17 tag _ h rfl rfl heq
    · obtain ⟨hb, ⟨h1, h8⟩, hspeeds⟩ := hinside.mp hin
      exact bankWriteRow_writes hs h hb h1 h8 hspeeds ((rowOk_iff r).mpr hord)
  · refine refuse_answered s _ (fun s => s.bankSelectOf b) 0x19 tag _ h rfl rfl ?_
    simp only [State.bankSelectOf, bankOf_of_gt hb]
  · refine read_answered s _ (fun s => s.bankSelectOf b) false 0x19 tag _ h rfl rfl ?_
    simp only [State.bankSelectOf, bankOf_of_le hb]
    exact if_pos hk.symm

/-! ## The reports (R71, R87, R88) -/

/-- The members of the open wave of zone `x` in a state (R87). -/
def Zone.membersIn (x : Zone) (st : WaveState) : Nat :=
  match x.wave with
  | none => 0
  | some w => w.members.countP (fun m => m.state == st)

/-- The report of a zone as R87 and R88 list it, by the records of the zone and the masts. -/
theorem zoneStatusReport_eq {s : State} (hs : Shape s) (z : Nat) : s.zoneStatusReport z =
    let x := s.zone z
    let warming (k : Nat) : Bool := decide (1 ≤ k) && decide (k ≤ 4) && (s.mast k).state == .warming
    let condition : SourceCondition :=
      if x.source.isSome then .sourced else if warming x.primary || warming x.fallback then .awaiting else .sourceless
    { settings := x.settings,
      report := { zone := z, state := x.state, causes := x.causes, source := x.source, condition := condition, active := s.znc.active,
                  releaseLeft := x.releaseDue.map (fun u => (u - s.now + 999) / 1000), waveOpen := x.wave.isSome,
                  waiting := x.membersIn .waiting, preemptWait := x.membersIn .preemptWait, admitted := x.membersIn .admitted,
                  lastOutcome := x.lastOutcome },
      gust := x.source.bind s.gust, sustained := x.source.bind s.sustained, wave := x.wave.map (fun w => (w.created, w.members)) } := by
  have hm : s.wmn.masts.length = 4 := hs.2.2.2.1
  simp only [State.zoneStatusReport, State.zoneReport, State.sourceCondition, State.mastIs, thas, hm, remaining, Zone.membersIn]
  cases (s.zone z).wave <;> rfl

theorem zonesAndBanksAreReported : ZonesAndBanksAreReported := by
  intro s tag hs
  refine ⟨fun b h => ⟨fun hb => ?_, ?_, ?_⟩, fun m h => ⟨?_, fun hm => ?_⟩⟩
  · refine refuse_answered s _ (fun s => s.bankReadOf b) 0x18 tag _ h rfl rfl ?_
    simp only [State.bankReadOf, bankOf_of_gt hb]
  · rintro rfl
    exact read_answered s _ (fun s => s.bankReadOf 0) false 0x18 tag _ h rfl rfl rfl
  · rintro rfl
    exact read_answered s _ (fun s => s.bankReadOf 1) false 0x18 tag _ h rfl rfl rfl
  · rintro rfl
    exact refuse_answered s _ (fun s => s.zoneStatusOf 0) 0x16 tag _ h rfl rfl rfl
  · refine read_answered s _ (fun s => s.zoneStatusOf m) false 0x16 tag _ h rfl rfl ?_
    have howner : s.taken.zoneStatusOf m = s.taken.answer (.zones ((bitsOf m 8 1).map s.taken.zoneStatusReport)) := if_neg hm
    rw [howner, funext (zoneStatusReport_eq hs.taken)]
    rfl

end Sys2Proof.Machine

open Sys2Proof.Machine in
/-- Settles O43: the checks of R69 and R70 in their order, a walk that restarts each running release timer once
(`restartReleases_zone`), and two reports that read. -/
theorem banksAndZonesAreSetAndReported : Obligations.BanksAndZonesAreSetAndReported :=
  ⟨bankWritesAndSelection, zonesAndBanksAreReported⟩

end

section
-- One declaration at a time: the check bounds memory, and every thread in flight takes its stack from it.
set_option Elab.async false

/-! O40: the removal of a cause by ZONE_RELEASE and by the release timer (R75 to R77). -/

namespace Sys2Proof.Machine
open Sys2Proof.Claims

/-! ## Waiting STOW tasks are dropped (R76) -/

theorem isWaiting_iff_standing (r : Dish) : r.isWaiting = true ↔ r.claim.map (·.standing) = some .waiting := by
  unfold Dish.isWaiting
  cases r.claim <;> simp

/-- One step of the walk over the dishes of the zone. -/
def State.dropStowTask (s : State) (d : Nat) : State :=
  if (s.dish d).task == some .stow && (s.dish d).isWaiting then s.closeClaim d .cancelled .stoppedByHost else s

theorem dropStowTask_changes (s : State) (d : Nat) : Changes ({.dish .claim d, .passDue} ∪ closing) s (s.dropStowTask d) :=
  Changes.ite (fun _ => closeClaim_changes s d _ _) fun _ => Changes.refl _ s

theorem dropStowTask_dish (s : State) (d : Nat) : (s.dropStowTask d).dish d =
    if (s.dish d).task = some .stow ∧ (s.dish d).isWaiting = true then (s.dish d).dropClaim else s.dish d := by
  unfold State.dropStowTask
  simp only [Bool.and_eq_true, beq_iff_eq]
  split
  next h =>
    have hclaim : (s.dish d).claim ≠ none := fun hn => by simp [Dish.isWaiting, hn] at h
    rw [closeClaim_dish, if_neg hclaim]
  next => rfl

/-- The walk meets each dish of the zone once. -/
theorem dropStowTasks_dish (s : State) (z d : Nat) : (s.dropStowTasks z).dish d =
    if (s.dish d).zone = z ∧ (s.dish d).task = some .stow ∧ (s.dish d).claim.map (·.standing) = some .waiting
    then (s.dish d).dropClaim else s.dish d := by
  have hwalk : s.dropStowTasks z = (s.zoneDishes z).foldl State.dropStowTask s := rfl
  rw [hwalk]
  by_cases hd : d ∈ s.zoneDishes z
  · obtain ⟨t, hbefore, hafter⟩ := foldl_meets State.dropStowTask (s.zoneDishes z) ((nodup_dishNumbers s).filter _) s
      dropStowTask_changes hd
    have ht : t.dish d = s.dish d := hbefore.dish (by simp +contextual)
    rw [hafter.dish (by simp +contextual), dropStowTask_dish, ht]
    simp only [((mem_zoneDishes s z d).mp hd).2, true_and, isWaiting_iff_standing]
  · have hkeep : Changes ({p | ∃ e ∈ s.zoneDishes z, p = .dish .claim e} ∪ {.passDue} ∪ closing) s
        ((s.zoneDishes z).foldl State.dropStowTask s) :=
      Changes.foldl _ _ s fun t e he => (dropStowTask_changes t e).mono (by
        rintro p ((rfl | rfl) | hp)
        · exact .inl (.inl ⟨e, he, rfl⟩)
        · exact .inl (.inr rfl)
        · exact .inr hp)
    rw [hkeep.dish (by simpa using hd), if_neg]
    rintro ⟨hz, htask, -⟩
    refine hd ((mem_zoneDishes s z d).mpr ⟨?_, hz⟩)
    by_contra hn
    rw [dish_of_not_isDish s d (by simpa using hn)] at htask
    simp [Dish.initial] at htask

/-! ## A cause is removed (R76) -/

/-- What the removal of a cause may change. -/
def uncausing (z : Nat) : Set Part := {.zone z, .conds, .passDue} ∪ {p | ∃ d, p = .dish .claim d}

@[simp] theorem mem_uncausing (p : Part) (z : Nat) :
    p ∈ uncausing z ↔ (p = .zone z ∨ p = .conds ∨ p = .passDue) ∨ ∃ d, p = .dish .claim d := Iff.rfl

theorem within_uncausing {z : Nat} {q : Part} (hq : q ∈ uncausing z) : q.within [.dsv, .znc, .fbu, .act] := by
  rcases hq with (rfl | rfl | rfl) | ⟨d, rfl⟩ <;> simp [Part.within, Part.block]

/-- R76: with its last cause gone the zone is CALM or WATCH, and its waiting STOW tasks are dropped. -/
theorem setCauses_of_last {s : State} {z : Nat} (h : (s.zone z).causes ≠ {}) : s.setCauses z {} =
    ((s.causesSet z {}).enterZoneState z ((s.causesSet z {}).calmOrWatch z)).dropStowTasks z := by
  unfold State.setCauses
  simp only
  rw [if_neg h, if_neg fun he => h ((causes_isEmpty _).mp he), if_pos ((causes_isEmpty {}).mpr rfl)]
  rfl

section
variable {s : State} {z : Nat} {new : Causes} (hf : ClaimsFit s) (hz : thas s.znc.zones z = true) (hold : (s.zone z).causes ≠ {})
  (hne : (s.zone z).causes ≠ new)
include hf hz hold hne

omit hz in
theorem setCauses_uncausing : Changes (uncausing z) s (s.setCauses z new) := by
  have hset : Changes (uncausing z) s (s.causesSet z new) := (causesSet_changes s z new).mono
  by_cases hn : new = {}
  · subst hn
    have hfit : ClaimsFit (s.causesSet z {}) := (causesSet_changes s z {}).claimsFit hf (by simp)
    rw [setCauses_of_last hold]
    refine (hset.trans ((enterZoneState_changes _ z _).mono)).trans
      ((dropStowTasks_changes (enterZoneState_claimsFit hfit z _) z).mono ?_)
    rintro p (rfl | ⟨d, rfl⟩)
    · simp
    · simp
  · rw [setCauses_of_further hold hn hne]
    exact hset

/-- What the removal of a cause makes of the zone and its dishes, for a cause set that is not empty before. -/
theorem setCauses_uncaused : Uncaused s (s.setCauses z new) z (s.zone z) new := by
  have hl := setCauses_uncausing hf hold hne
  have hset := causesSet_changes s z new
  have hzone := causesSet_zone s new hz
  by_cases hn : new = {}
  · subst hn
    have hcalm : (s.causesSet z {}).calmOrWatch z = s.calmOrWatch z := hset.calmOrWatch (by rw [hzone])
    let u := (s.causesSet z {}).enterZoneState z ((s.causesSet z {}).calmOrWatch z)
    have hu : Changes {.zone z, .passDue} (s.causesSet z {}) u := enterZoneState_changes _ z _
    have hlast : s.setCauses z {} = u.dropStowTasks z := setCauses_of_last hold
    have hdish (d : Nat) : u.dish d = s.dish d := hu.dish.trans hset.dish
    have hdrop := dropStowTasks_changes (enterZoneState_claimsFit (hset.claimsFit hf (by simp)) z ((s.causesSet z {}).calmOrWatch z)) z
    refine ⟨?_, fun y hy => hl.zone (by simpa using hy), fun d => ?_, ?_⟩
    · rw [hlast, hdrop.zone, enterZoneState_zone _ _ ((hset.hasZone z).trans hz), hzone, hcalm]
      rfl
    · rw [hlast, dropStowTasks_dish, hdish]
      simp only [true_and, Dish.dropClaim]
    · rw [hlast]
      exact hdrop.notices (hu.notices (mem_raise _ _))
  · rw [setCauses_of_further hold hn hne] at hl ⊢
    refine ⟨?_, fun y hy => hl.zone (by simpa using hy), fun d => ?_, mem_raise _ _⟩
    · rw [hzone, if_neg hn]
    · rw [if_neg fun h => hn h.1]
      exact hset.dish

end

/-- The check of ZONE_RELEASE on a zone that there is, and its effect (R77). -/
theorem zoneReleaseOf_eq (s : State) {z : Nat} (hz : thas s.znc.zones z = true) : s.zoneReleaseOf z =
    if (s.zone z).causes.manual = true then
      (s.setCauses z { (s.zone z).causes with manual := false }).answer
        (.causes ((s.setCauses z { (s.zone z).causes with manual := false }).zone z).causes)
    else s.refuse .state := by
  unfold State.zoneReleaseOf
  rw [if_neg (by simp [hz])]
  cases (s.zone z).causes.manual <;> rfl

end Sys2Proof.Machine

open Sys2Proof.Machine Sys2Proof.Claims in
/-- Settles O40: both events take a cause from a cause set that holds it (`setCauses_uncaused`), the timer after its own removal. -/
theorem zoneReleaseAndTheReleaseTimerRemoveTheirCause : Obligations.ZoneReleaseAndTheReleaseTimerRemoveTheirCause := by
  unfold Obligations.ZoneReleaseAndTheReleaseTimerRemoveTheirCause
  intro s z hs hf x named
  refine ⟨fun tag h => ⟨fun hn => ?_, fun hn hm => ?_, fun hn hm => ?_⟩, fun due hn hr hdue hwind => ?_⟩
  · refine refuse_answered s _ (fun s => s.zoneReleaseOf z) 0x1B tag _ h rfl rfl (if_pos ?_)
    simpa using (hs.taken.hasZone_iff z).not.mpr hn
  · refine refuse_answered s _ (fun s => s.zoneReleaseOf z) 0x1B tag _ h rfl rfl ?_
    have hm' : (s.taken.zone z).causes.manual = false := hm
    show s.taken.zoneReleaseOf z = _
    rw [zoneReleaseOf_eq s.taken (hs.hasZone hn.1 hn.2), hm']
    rfl
  · have hz : thas s.taken.znc.zones z = true := hs.hasZone hn.1 hn.2
    let causes : Causes := { x.causes with manual := false }
    have hm' : (s.taken.zone z).causes.manual = true := hm
    have hold : (s.taken.zone z).causes ≠ {} := fun he => by simp [he] at hm'
    have hne : (s.taken.zone z).causes ≠ causes := fun he => by simp [he, causes] at hm'
    have hafter := setCauses_uncaused (s := s.taken) hf hz hold hne
    have howner : s.taken.zoneReleaseOf z = (s.taken.setCauses z causes).answer (.causes causes) := by
      rw [zoneReleaseOf_eq s.taken hz, if_pos hm', show ({ (s.taken.zone z).causes with manual := false } : Causes) = causes from rfl, hafter.1]
    refine answers_of_changes (owner := fun s => s.zoneReleaseOf z) _ _ h rfl rfl howner (setCauses_uncausing (s := s.taken) hf hold hne)
      (fun q => within_uncausing) fun o ho => ?_
    obtain ⟨hzone, hother, hdish, hnotice⟩ := hafter
    exact ⟨hzone, hother, hdish, ho ▸ hnotice⟩
  · have hz : thas s.znc.zones z = true := hs.hasZone hn.1 hn.2
    let u := (s.beginAt due).modZone z (fun r => { r with releaseDue := none })
    have hu : Changes {.zone z} (s.beginAt due) u := modZone_changes _ z _
    have hx : u.zone z = { x with releaseDue := none } := modZone_zone_same (s.beginAt due) z _ hz
    have huz : thas u.znc.zones z = true := (hu.hasZone z).trans hz
    have hold : (u.zone z).causes ≠ {} := fun he => by
      rw [hx] at he
      simp [show x.causes = {} from he] at hwind
    have hne : (u.zone z).causes ≠ { x.causes with wind := false } := fun he => by
      rw [hx] at he
      have : x.causes.wind = false := congrArg Causes.wind (show x.causes = { x.causes with wind := false } from he)
      simp [this] at hwind
    have hafter := setCauses_uncaused (s := u) hf huz hold hne
    have he : exec (.releaseTimerExpiry z) s = .next (s.onTimer (some due) (fun s => s.releaseExpires z)) := by
      show execReleaseTimerExpiry z s = _
      rw [execReleaseTimerExpiry, if_pos hz, hdue]
    refine happens_of_timer (f := fun s => s.releaseExpires z) (uncausing z) hr he
      ((hu.mono).trans (setCauses_uncausing (s := u) hf hold hne)) (fun q => within_uncausing) fun o ho hlink => ⟨?_, hlink⟩
    rw [hx] at hafter
    obtain ⟨hzone, hother, hdish, hnotice⟩ := hafter
    exact ⟨hzone, fun y hy => (hother y hy).trans (hu.zone (by simpa using hy)), hdish, ho ▸ hnotice⟩

end

section
-- One declaration at a time: the check bounds memory, and every thread in flight takes its stack from it.
set_option Elab.async false

/-! O42: the evaluation of a zone where nothing is known of the claims (R72 to R74, R76), and ZONE_SET (R67, R68). -/

namespace Sys2Proof.Machine
open Sys2Proof.Claims

/-! ## Waves -/

theorem createWave_waveLeaves (s : State) {z : Nat} (hz : thas s.znc.zones z = true) :
    WaveLeaves (s.zone z) ((s.createWave z).zone z) := by
  let t := (s.waveBegun z).assessAll z (s.zoneDishes z)
  have ht : Changes {p | ∃ d, p ∈ cancelling d} (s.waveBegun z) t.1 := assessAll_changes z _ _
  have htz : thas t.1.znc.zones z = true := (ht.hasZone z).trans hz
  have htail := waveListed_tail s z
  have hlisted : (s.waveListed z).zone z = { s.zone z with wave := some { created := s.now, moment := s.moment, members := t.2 } } := by
    have hcount : Changes {.passDue, .counters (some .stowOrder)} (s.waveEntered z) (s.waveListed z) :=
      ((count_changes _ _ _).mono).trans ((trigger_changes _).mono)
    have hentered : (s.waveEntered z).zone z =
        { t.1.zone z with wave := some { created := s.now, moment := s.moment, members := t.2 } } :=
      ((raise_changes _ _).zone).trans (modZone_zone_same t.1 z _ htz)
    rw [hcount.zone, hentered, show t.1.zone z = s.zone z from ht.zone]
  rw [createWave_eq]
  exact waveTest_leaves ((htail.hasZone z).trans htz) hlisted

/-- A zone without a cause after its wave has lost members: its wave and its last outcome apart, nothing changes. -/
def WaveAside (x y : Zone) : Prop := ∃ wv out, y = { x with wave := wv, lastOutcome := out }

theorem waveTest_aside {s : State} {z : Nat} {x : Zone} (hz : thas s.znc.zones z = true) (hx : WaveAside x (s.zone z)) (hc : x.causes = {}) :
    WaveAside x ((s.waveTest z).zone z) := by
  obtain ⟨wv, out, hx⟩ := hx
  unfold State.waveTest
  split
  next w _ =>
    split
    · exact ⟨wv, out, hx⟩
    · refine ⟨none, some w.members, ((raise_changes _ _).zone).trans ((modZone_zone_same s z _ hz).trans ?_)⟩
      rw [hx, if_pos ((causes_isEmpty x.causes).mpr hc)]
  · exact ⟨wv, out, hx⟩

theorem closeClaim_aside {s : State} {z : Nat} {x : Zone} (d : Nat) (host : MemberState) (wave : WaveState)
    (hz : thas s.znc.zones z = true) (hx : WaveAside x (s.zone z)) (hc : x.causes = {}) :
    WaveAside x ((s.closeClaim d host wave).zone z) := by
  have hframe := closeClaim_changes_of_ref s d host wave
  cases hclaim : (s.dish d).claim with
  | none => rwa [closeClaim_of_none s d host wave hclaim]
  | some c =>
    rw [hclaim, Option.map_some] at hframe
    cases href : c.ref with
    | host id => rwa [hframe.zone (by simp [href, closingOf])]
    | task => rwa [hframe.zone (by simp [href, closingOf])]
    | wave y =>
      by_cases hy : z = y
      · subst hy
        let u := if c.standing == .waiting then (s.modDish d Dish.dropClaim).trigger else s.modDish d Dish.dropClaim
        have hu : u.znc = s.znc := by
          simp only [u]
          split <;> rfl
        have hclose : s.closeClaim d host wave = u.setWaveMember z d wave := by
          unfold State.closeClaim
          simp only [hclaim, href]
          rfl
        rw [hclose]
        refine waveTest_aside ?_ ?_ hc
        · simpa [State.modZone, hu] using hz
        · obtain ⟨wv, out, hx⟩ := hx
          refine ⟨wv.map (·.setMember d wave), out, (modZone_zone_same u z _ (by rwa [hu])).trans ?_⟩
          rw [show u.zone z = s.zone z by rw [State.zone, hu, State.zone], hx]
      · rwa [hframe.zone (by simp [href, closingOf, hy])]

theorem dropStowTasks_aside {s : State} {z : Nat} (hz : thas s.znc.zones z = true) (hc : (s.zone z).causes = {}) :
    WaveAside (s.zone z) ((s.dropStowTasks z).zone z) := by
  have hwalk : s.dropStowTasks z = (s.zoneDishes z).foldl State.dropStowTask s := rfl
  rw [hwalk]
  refine (List.foldlRecOn (motive := fun t : State => thas t.znc.zones z = true ∧ WaveAside (s.zone z) (t.zone z)) (s.zoneDishes z) _
    ⟨hz, _, _, rfl⟩ fun t ht d _ => ⟨((dropStowTask_changes t d).hasZone z).trans ht.1, ?_⟩).2
  unfold State.dropStowTask
  split
  · exact closeClaim_aside d _ _ ht.1 ht.2 hc
  · exact ht.2

/-! ## The cause set -/

/-- What follows of a cause set that becomes `new` in the zone's record: `y` was `x`, and `quiet` is the state that its source gives (R76). -/
def Recaused (x y : Zone) (new : Causes) (quiet : ZoneState) : Prop :=
  ∃ st wv out, y = { x with causes := new, state := st, wave := wv, lastOutcome := out }
    ∧ (x.causes = {} → new ≠ {} → st = .stowing ∨ st = .stowed)
    ∧ (x.causes ≠ {} → new ≠ {} → st = x.state)
    ∧ (x.causes ≠ {} → new = {} → st = quiet)

theorem setCauses_recaused {s : State} {z : Nat} (hz : thas s.znc.zones z = true) (new : Causes) :
    Recaused (s.zone z) ((s.setCauses z new).zone z) new (s.calmOrWatch z) := by
  by_cases hsame : (s.zone z).causes = new
  · have hset : s.setCauses z new = s := if_pos hsame
    refine ⟨_, _, _, by rw [hset, ← hsame], ?_, fun _ _ => rfl, ?_⟩
    · exact fun h hn => absurd (hsame.symm.trans h) hn
    · exact fun h hn => absurd (hsame.trans hn) h
  have hset := causesSet_changes s z new
  have hzone := causesSet_zone s new hz
  by_cases hold : (s.zone z).causes = {}
  · have hn : new ≠ {} := fun h => hsame (hold.trans h.symm)
    have hzc : thas (s.caused z new).znc.zones z = true := ((caused_changes s z new).hasZone z).trans hz
    have hleaves : WaveLeaves ((s.caused z new).zone z) ((s.setCauses z new).zone z) := by
      rw [setCauses_of_first hold hn]
      split
      · exact createWave_waveLeaves _ hzc
      · exact reassessWave_leaves _ hzc
    obtain ⟨st, wv, out, hy, hst⟩ := hleaves
    rw [caused_zone s new hz] at hy hst
    exact ⟨st, wv, out, hy, fun _ _ => hst, fun h => absurd hold h, fun h => absurd hold h⟩
  by_cases hn : new = {}
  · subst hn
    have hcalm : (s.causesSet z {}).calmOrWatch z = s.calmOrWatch z := hset.calmOrWatch (by rw [hzone])
    let u := (s.causesSet z {}).enterZoneState z ((s.causesSet z {}).calmOrWatch z)
    have huz : thas u.znc.zones z = true := ((enterZoneState_changes _ z _).hasZone z).trans ((hset.hasZone z).trans hz)
    have hu : u.zone z = { s.zone z with causes := {}, state := s.calmOrWatch z } := by
      rw [enterZoneState_zone _ _ ((hset.hasZone z).trans hz), hzone, hcalm]
    obtain ⟨wv, out, hy⟩ := dropStowTasks_aside huz (by rw [hu])
    refine ⟨s.calmOrWatch z, wv, out, ?_, fun h => absurd h hold, fun _ h => absurd rfl h, fun _ _ => rfl⟩
    rw [setCauses_of_last hold, hy, hu]
  · refine ⟨(s.zone z).state, (s.zone z).wave, (s.zone z).lastOutcome, ?_, fun h => absurd h hold, fun _ _ => rfl, fun _ h => absurd h hn⟩
    rw [setCauses_of_further hold hn hsame, hzone]

/-! ## The evaluation -/

/-- Settings and source of the zone stay. -/
def SameSettings (x y : Zone) : Prop := y.settings = x.settings ∧ y.source = x.source

/-- R74 by the records: cause set and timer by the row, and the state that R76 gives the cause set. -/
theorem evaluated_of_record {x y : Zone} {row : Row} {now v g : Nat}
    (hcauses : y.causes = { x.causes with noSource := false, wind := x.causes.wind || rowStows row v g })
    (hdue : y.releaseDue = releaseBy x row now v g)
    (hfirst : x.causes = {} → y.causes ≠ {} → y.state = .stowing ∨ y.state = .stowed)
    (hfurther : x.causes ≠ {} → y.causes ≠ {} → y.state = x.state)
    (hlast : y.causes = {} → y.state = if row.w ≤ v then .watch else .calm) : Evaluated x y row now v g := by
  refine ⟨fun hstow => ?_, fun hstow hwind => ?_, fun hstow hwind => ?_⟩
  · have hrow := (rowStows_iff row v g).mpr hstow
    have hne : y.causes ≠ {} := by simp [hcauses, hrow]
    exact ⟨by simp [hcauses, hrow], by simp [hdue, releaseBy, hrow], fun h => hfirst h hne, fun h => hfurther h hne⟩
  · have hrow : rowStows row v g = false := by simpa using (rowStows_iff row v g).not.mpr hstow
    have hne : y.causes ≠ {} := by simp [hcauses, hwind]
    refine ⟨by simp [hcauses, hrow], hfurther (fun h => by simp [h] at hwind) hne, fun hbelow => ?_, fun hbelow => ?_⟩
    · simp [hdue, releaseBy, hrow, hwind, (rowReleases_iff row v g).mpr hbelow]
    · simp [hdue, releaseBy, hrow, hwind, show rowReleases row v g = false by simpa using (rowReleases_iff row v g).not.mpr hbelow]
  · have hrow : rowStows row v g = false := by simpa using (rowStows_iff row v g).not.mpr hstow
    refine ⟨by simp [hcauses, hrow], by simp [hdue, releaseBy, hrow, hwind], fun hm => ?_, fun hm => hlast ?_⟩
    · exact hfurther (fun h => by simp [h] at hm) (by simp [hcauses, hm])
    · simp [hcauses, hrow, hwind, hm]

section
variable {s : State} {z : Nat} (hz : thas s.znc.zones z = true)
include hz

theorem evaluateSourced_takes {k v : Nat} (g : Nat) (hk : (s.zone z).source = some k) (hv : s.sustained k = some v) :
    SameSettings (s.zone z) ((s.evaluateSourced z v g).zone z)
      ∧ Evaluated (s.zone z) ((s.evaluateSourced z v g).zone z) (s.activeRow z) s.now v g := by
  have hl := releaseTimed_changes s z v g
  have htimed := releaseTimed_zone s hz v g
  have hzt : thas (s.releaseTimed z v g).znc.zones z = true := (hl.hasZone z).trans hz
  have hcalm : (s.releaseTimed z v g).calmOrWatch z = if (s.activeRow z).w ≤ v then .watch else .calm :=
    (hl.calmOrWatch (by rw [htimed])).trans (calmOrWatch_of_source hk hv)
  rw [evaluateSourced_eq]
  by_cases hnone : (s.zone z).causes = {} ∧ s.causesBy z v g = {}
  · obtain ⟨hold, hnew⟩ := hnone
    have hsame : (s.releaseTimed z v g).setCauses z (s.causesBy z v g) = s.releaseTimed z v g :=
      if_pos (by rw [htimed, hnew]; exact hold)
    rw [if_pos (by rw [hold, hnew]; rfl), hsame, enterZoneState_zone _ _ hzt, htimed, hcalm]
    exact ⟨⟨rfl, rfl⟩, evaluated_of_record (hold.trans hnew.symm) rfl (fun _ h => absurd hold h) (fun h => absurd hold h) fun _ => rfl⟩
  · have hnot : ¬ ((s.zone z).causes.isEmpty && (s.causesBy z v g).isEmpty) = true := fun h => by
      rw [Bool.and_eq_true, causes_isEmpty, causes_isEmpty] at h
      exact hnone h
    rw [if_neg hnot]
    obtain ⟨st, wv, out, hy, hfirst, hfurther, hlast⟩ := setCauses_recaused hzt (s.causesBy z v g)
    rw [htimed] at hy hfirst hfurther hlast
    rw [hcalm] at hlast
    rw [hy]
    exact ⟨⟨rfl, rfl⟩, evaluated_of_record rfl rfl hfirst hfurther fun hn => hlast (fun ho => hnone ⟨ho, hn⟩) hn⟩

theorem evaluate_sourceless_takes (hsrc : (s.zone z).source = none) (h : s.sourceCondition z ≠ .awaiting) :
    SameSettings (s.zone z) ((s.evaluate z).zone z) ∧ EvaluatedSourceless (s.zone z) ((s.evaluate z).zone z) := by
  obtain ⟨st, wv, out, hy, hfirst, hfurther, -⟩ := setCauses_recaused (((cancelRelease_changes s z).hasZone z).trans hz)
    { (s.zone z).causes with noSource := true }
  rw [cancelRelease_zone s hz] at hy hfirst hfurther
  rw [evaluate_of_sourceless hsrc h, hy]
  exact ⟨⟨rfl, rfl⟩, rfl, rfl, fun ho => hfirst ho (by simp), fun ho => hfurther ho (by simp)⟩

theorem evaluate_settings : SameSettings (s.zone z) ((s.evaluate z).zone z) := by
  cases hsrc : (s.zone z).source with
  | none =>
    by_cases h : s.sourceCondition z = .awaiting
    · rw [evaluate_of_awaiting hsrc h]
      exact ⟨rfl, rfl⟩
    · exact (evaluate_sourceless_takes hz hsrc h).1
  | some k =>
    cases hv : s.sustained k with
    | none => simp [State.evaluate, hsrc, hv, SameSettings]
    | some v =>
      cases hg : s.gust k with
      | none => simp [State.evaluate, hsrc, hv, hg, SameSettings]
      | some g =>
        rw [evaluate_of_sourced hsrc hv hg]
        exact (evaluateSourced_takes hz g hsrc hv).1

end

/-! ## ZONE_SET (R68) -/

/-- The record of a zone whose settings become `new`. -/
def Zone.withSettings (x : Zone) (new : ZoneSettings) : Zone :=
  { x with primary := new.primary, fallback := new.fallback, stowEl := new.stowEl, stowAz := new.stowAz }

/-- The settings that a request carries, with the clamp of the elevation (R68). -/
theorem zoneEdited_eq (e : ZoneEdit) (x : Zone) : zoneEdited e x.settings =
    ({ primary := e.primary.getD x.primary, fallback := e.fallback.getD x.fallback,
       stowEl := (match e.stowEl with | none => x.stowEl | some v => max 5000 (min 90000 v)),
       stowAz := (match e.stowAz with | none => x.stowAz | some v => v) },
     match e.stowEl with | none => false | some v => decide (v < 5000 ∨ 90000 < v)) := by
  obtain ⟨primary, fallback, stowEl, stowAz⟩ := e
  have hcut (v : Int) : (!elOk v) = decide (v < 5000 ∨ 90000 < v) := by
    simp only [elOk, Bool.not_and, Bool.decide_or, ← decide_not, Int.not_le]
  cases stowEl with
  | none => cases stowAz <;> rfl
  | some v =>
    have hv := hcut v
    cases stowAz <;> exact congrArg (Prod.mk _) hv

/-- The state after the settings of zone `z` become `new`: another primary or fallback selects the source again, and a changed source
evaluates the zone. -/
def State.settingsTaken (s : State) (z : Nat) (new : ZoneSettings) : State :=
  let u := s.modZone z (·.withSettings new)
  if new.primary = (s.zone z).primary && new.fallback = (s.zone z).fallback then u
  else if ((u.reselect z).zone z).source = (s.zone z).source then u.reselect z else (u.reselect z).evaluate z

/-- The checks of R68 and its effect. -/
theorem zoneSetOf_eq {s : State} {z : Nat} {e : ZoneEdit} {new : ZoneSettings} {cut : Bool}
    (hnew : zoneEdited e (s.zone z).settings = (new, cut)) : s.zoneSetOf z e =
    if ¬ (thas s.znc.zones z = true ∧ zoneEditOk e new = true) then s.refuse .outOfRange
    else (s.settingsTaken z new).answer (.zoneSet new cut) := by
  have hcheck : (!thas s.znc.zones z || !zoneEditOk e new) = true ↔ ¬ (thas s.znc.zones z = true ∧ zoneEditOk e new = true) := by
    simp only [Bool.or_eq_true, Bool.not_eq_true', Bool.eq_false_iff, not_and_or, ne_eq]
  unfold State.zoneSetOf
  simp only [hnew]
  by_cases h : (!thas s.znc.zones z || !zoneEditOk e new) = true
  · rw [if_pos h, if_pos (hcheck.mp h)]
  · rw [if_neg h, if_neg (hcheck.not.mp h)]
    rfl

theorem zoneEditOk_eq (e : ZoneEdit) (new : ZoneSettings) : zoneEditOk e new =
    (e.primary.all (inRange 1 4) && e.fallback.all (fun f => decide (f ≤ 4)) && e.stowAz.all (·.all azOk)
      && !((e.primary.isSome || e.fallback.isSome) && new.primary == new.fallback)) := by
  obtain ⟨primary, fallback, stowEl, stowAz⟩ := e
  cases primary <;> cases fallback <;> obtain _ | _ | az := stowAz <;> rfl

/-- R68 for the carried fields: each within its range, and primary and fallback different. -/
theorem zoneEditOk_iff (e : ZoneEdit) (new : ZoneSettings) : zoneEditOk e new = true ↔
    ¬ ((∃ v, e.primary = some v ∧ (v = 0 ∨ 4 < v)) ∨ (∃ v, e.fallback = some v ∧ 4 < v)
      ∨ (∃ v, e.stowAz = some (some v) ∧ (v < -270000 ∨ 270000 < v))
      ∨ ((e.primary.isSome = true ∨ e.fallback.isSome = true) ∧ new.primary = new.fallback)) := by
  have hprimary : e.primary.all (inRange 1 4) = true ↔ ¬ ∃ v, e.primary = some v ∧ (v = 0 ∨ 4 < v) := by
    simp [Option.all_eq_true, inRange, Nat.one_le_iff_ne_zero]
  have hfallback : e.fallback.all (fun f => decide (f ≤ 4)) = true ↔ ¬ ∃ v, e.fallback = some v ∧ 4 < v := by
    simp [Option.all_eq_true]
  have haz : e.stowAz.all (·.all azOk) = true ↔ ¬ ∃ v, e.stowAz = some (some v) ∧ (v < -270000 ∨ 270000 < v) := by
    obtain _ | _ | az := e.stowAz <;> simp [azOk]
  have hother : (!((e.primary.isSome || e.fallback.isSome) && new.primary == new.fallback)) = true ↔
      ¬ ((e.primary.isSome = true ∨ e.fallback.isSome = true) ∧ new.primary = new.fallback) := by
    rw [Bool.not_eq_true', Bool.eq_false_iff, ne_eq, Bool.and_eq_true, Bool.or_eq_true, beq_iff_eq]
  rw [zoneEditOk_eq, Bool.and_eq_true, Bool.and_eq_true, Bool.and_eq_true, hprimary, hfallback, haz, hother, not_or, not_or, not_or,
    and_assoc, and_assoc]

/-- What a ZONE_SET that is not refused makes of its zone, whose record was `x`; `new` are its settings and `src` is its source. -/
structure ZoneSets (s t : State) (z : Nat) (x : Zone) (new : ZoneSettings) (src : Option Nat) : Prop where
  settings : (t.zone z).settings = new
  source : (t.zone z).source = src
  notice : src ≠ x.source → .zone z ∈ t.oli.notices
  same : src = x.source → LeftAsItIs x (t.zone z)
  sourced : ∀ k v g, src ≠ x.source → src = some k → s.sustained k = some v → s.gust k = some g →
    Evaluated x (t.zone z) (s.activeRow z) s.now v g
  sourceless : src ≠ x.source → src = none → ¬ (stateIn s new.primary = some .warming ∨ stateIn s new.fallback = some .warming) →
    EvaluatedSourceless x (t.zone z)
  awaiting : src ≠ x.source → src = none → stateIn s new.primary = some .warming ∨ stateIn s new.fallback = some .warming →
    LeftAsItIs x (t.zone z)

/-- What ZONE_SET may change, where nothing is known of the claims. -/
def resetting (z : Nat) : Set Part := stowing z ∪ anyZone

theorem within_resetting {z : Nat} {q : Part} (hq : q ∈ resetting z) : q.within [.dsv, .pbc, .znc, .sls, .fbu, .act] := by
  rcases hq with hq | ⟨y, rfl⟩
  · exact within_stowing hq
  · simp [Part.within, Part.block]

section
variable {s : State} {z : Nat} (hm : s.wmn.masts.length = 4) (hz : thas s.znc.zones z = true) (new : ZoneSettings)
include hm hz

/-- Settings whose primary or fallback is another select the source again, and a changed source evaluates the zone. -/
theorem reselected_sets :
    let u := (s.modZone z (·.withSettings new)).reselect z
    let v := if (u.zone z).source = (s.zone z).source then u else u.evaluate z
    Changes (resetting z) s v ∧ ZoneSets s v z (s.zone z) new (sourceOf (stateIn s) new.primary new.fallback) := by
  intro u v
  let w := s.modZone z (·.withSettings new)
  let src := sourceOf (stateIn s) new.primary new.fallback
  have hw : Changes {.zone z} s w := modZone_changes s z _
  have hwz : thas w.znc.zones z = true := (hw.hasZone z).trans hz
  have hwx : w.zone z = (s.zone z).withSettings new := modZone_zone_same s z _ hz
  have hsel : w.selectSource z = src := by
    rw [selectSource_eq (hw.wmn ▸ hm), hwx]
    rfl
  have hwu : Changes {.zone z} w u := reselect_changes w z
  have hu : Changes {.zone z} s u := hw.trans hwu
  have huz : thas u.znc.zones z = true := (hu.hasZone z).trans hz
  have hux : u.zone z = { (s.zone z).withSettings new with source := src } := by rw [reselect_zone w hwz, hsel, hwx]
  have husrc : (u.zone z).source = src := by rw [hux]
  have huv : Changes (resetting z) u v :=
    Changes.ite (fun _ => Changes.refl _ u) fun _ => evaluate_changes Set.subset_union_left (.inl Set.subset_union_right)
  have hev (hne : src ≠ (s.zone z).source) : v = u.evaluate z := if_neg (by rwa [husrc])
  have hleft : LeftAsItIs (s.zone z) (u.zone z) := by
    rw [hux]
    exact ⟨rfl, rfl, rfl⟩
  have hstate : stateIn u = stateIn s := funext fun k => by rw [stateIn, hu.mast, stateIn]
  have hcond (hn : src = none) : u.sourceCondition z = .awaiting ↔
      stateIn s new.primary = some .warming ∨ stateIn s new.fallback = some .warming := by
    rw [sourceCondition_awaiting (hu.wmn ▸ hm) (husrc.trans hn), hux, hstate]
    rfl
  have hsettings : SameSettings (u.zone z) (v.zone z) := by
    by_cases h : (u.zone z).source = (s.zone z).source
    · rw [show v = u from if_pos h]
      exact ⟨rfl, rfl⟩
    · rw [show v = u.evaluate z from if_neg h]
      exact evaluate_settings huz
  refine ⟨(hu.mono (by simp [resetting])).trans huv, ?_, ?_, fun hne => ?_, fun he => ?_, fun k vs g hne hk hv hg => ?_,
    fun hne hn haw => ?_, fun hne hn haw => ?_⟩
  · rw [hsettings.1, hux]
    rfl
  · rw [hsettings.2, husrc]
  · exact huv.notices (reselect_notice w (by rw [hsel, hwx]; exact hne.symm))
  · rw [show v = u from if_pos (husrc.trans he)]
    exact hleft
  · have hsus : u.sustained k = some vs := by rw [State.sustained, hu.mast, ← State.sustained, hv]
    have hgust : u.gust k = some g := by rw [State.gust, hu.mast, ← State.gust, hg]
    have := (evaluateSourced_takes huz g (husrc.trans hk) hsus).2
    rw [hu.activeRow, hu.now] at this
    rw [hev hne, evaluate_of_sourced (husrc.trans hk) hsus hgust]
    rw [hux] at this
    exact this
  · have := (evaluate_sourceless_takes huz (husrc.trans hn) fun h => haw ((hcond hn).mp h)).2
    rw [hux] at this
    rw [hev hne]
    exact this
  · rw [hev hne, evaluate_of_awaiting (husrc.trans hn) ((hcond hn).mpr haw)]
    exact hleft

omit hm in
/-- Settings that keep primary and fallback change the zone's record alone. -/
theorem withSettings_sets (src : Option Nat) (hsrc : src = (s.zone z).source) :
    Changes (resetting z) s (s.modZone z (·.withSettings new)) ∧ ZoneSets s (s.modZone z (·.withSettings new)) z (s.zone z) new src := by
  subst hsrc
  have hx : (s.modZone z (·.withSettings new)).zone z = (s.zone z).withSettings new := modZone_zone_same s z _ hz
  refine ⟨(modZone_changes s z _).mono (by simp [resetting]), ?_, ?_, fun hne => absurd rfl hne, fun _ => ?_, fun _ _ _ hne => absurd rfl hne,
    fun hne => absurd rfl hne, fun hne => absurd rfl hne⟩
  · rw [hx]
    rfl
  · rw [hx]
    rfl
  · rw [hx]
    exact ⟨rfl, rfl, rfl⟩

end

theorem settingsTaken_sets {s : State} {z : Nat} (hm : s.wmn.masts.length = 4) (hz : thas s.znc.zones z = true) (new : ZoneSettings) :
    Changes (resetting z) s (s.settingsTaken z new) ∧ ZoneSets s (s.settingsTaken z new) z (s.zone z) new
      (if new.primary = (s.zone z).primary ∧ new.fallback = (s.zone z).fallback then (s.zone z).source
        else sourceOf (stateIn s) new.primary new.fallback) := by
  by_cases h : new.primary = (s.zone z).primary ∧ new.fallback = (s.zone z).fallback
  · have ht : s.settingsTaken z new = s.modZone z (·.withSettings new) := if_pos (by simpa using h)
    rw [ht, if_pos h]
    exact withSettings_sets hz new _ rfl
  · rw [if_neg h, show s.settingsTaken z new = _ from if_neg (by simpa using h)]
    exact reselected_sets hm hz new

end Sys2Proof.Machine

open Sys2Proof.Machine Sys2Proof.Claims in
/-- Settles O42: the checks of R68 (`zoneSetOf_eq`), the settings, and where primary or fallback change the selection with its evaluation
(`reselected_sets`). -/
theorem zoneSetWritesTheSettings : Obligations.ZoneSetWritesTheSettings := by
  unfold Obligations.ZoneSetWritesTheSettings
  intro s tag z e hs h x p f el az cut bad source awaiting answer
  let new : Sys2Proof.Machine.ZoneSettings := { primary := p, fallback := f, stowEl := el, stowAz := az }
  have hnew : zoneEdited e (s.taken.zone z).settings = (new, cut) := zoneEdited_eq e x
  have hok : ¬ bad ↔ thas s.taken.znc.zones z = true ∧ zoneEditOk e new = true := by
    rw [zoneEditOk_iff, hs.taken.hasZone_iff]
    simp only [bad, new]
    rw [← or_assoc, not_or]
    refine and_congr_left fun _ => ?_
    omega
  have howner := zoneSetOf_eq hnew
  refine ⟨fun hbad => ?_, fun hgood => ?_, fun hgood hp hf => ?_⟩
  · exact refuse_answered s _ (fun s => s.zoneSetOf z e) 0x15 tag _ h rfl rfl (howner.trans (if_pos fun hn => hok.mpr hn hbad))
  · rw [if_neg (not_not.mpr (hok.mp hgood))] at howner
    obtain ⟨hframe, hsets⟩ := settingsTaken_sets (s := s.taken) hs.2.2.2.1 (hok.mp hgood).1 new
    refine answers_of_changes (owner := fun s => s.zoneSetOf z e) _ _ h rfl rfl howner hframe (fun q => within_resetting) fun o ho =>
      ⟨?_, ?_, ?_, ?_, hsets.source, fun hne => ho ▸ hsets.notice hne, hsets.same, hsets.sourced, hsets.sourceless, hsets.awaiting⟩
    · exact congrArg ZoneSettings.primary hsets.settings
    · exact congrArg ZoneSettings.fallback hsets.settings
    · exact congrArg ZoneSettings.stowEl hsets.settings
    · exact congrArg ZoneSettings.stowAz hsets.settings
  · have hpx : p = x.primary := by simp [p, hp]
    have hfx : f = x.fallback := by simp [f, hf]
    let v := s.taken.modZone z (·.withSettings new)
    have hv : Changes {.zone z} s.taken v := modZone_changes s.taken z _
    have htaken : s.taken.settingsTaken z new = v := if_pos (by simpa using ⟨hpx, hfx⟩)
    rw [if_neg (not_not.mpr (hok.mp hgood)), htaken] at howner
    have hzone : v.zone z = { x with stowEl := el, stowAz := az } := by
      refine (modZone_zone_same s.taken z _ (hok.mp hgood).1).trans ?_
      show ({ x with primary := p, fallback := f, stowEl := el, stowAz := az } : Zone) = _
      rw [hpx, hfx]
    exact answers_of_changes (owner := fun s => s.zoneSetOf z e) _ v h rfl rfl howner hv (by simp [Part.within, Part.block]) fun o ho =>
      ⟨hzone, fun y hy => hv.zone (by simpa using hy), ho.trans (leave_notices _)⟩

end

section
-- One declaration at a time: the check bounds memory, and every thread in flight takes its stack from it.
set_option Elab.async false

/-! The sums of a feeder's account (R126), and what the allocation of heat leaves of the feeders (R151, R153 to R155). -/

namespace Sys2Proof.Machine
open Sys2Proof.Claims

/-! ## Sums over the dishes -/

theorem foldl_add_ite {α : Type} (p : α → Bool) (g : α → Nat) (l : List α) (a : Nat) :
    l.foldl (fun acc x => if p x then acc + g x else acc) a = a + ((l.filter p).map g).sum := by
  induction l generalizing a with
  | nil => rfl
  | cons x l ih =>
    rw [List.foldl_cons, ih]
    cases h : p x <;> simp [h, Nat.add_assoc]

theorem sum_filter_map_eq_range {α : Type} (p : α → Bool) (g : α → Nat) (l : List α) (x : α) :
    ((l.filter p).map g).sum = ∑ i ∈ Finset.range l.length, if p (l.getD i x) then g (l.getD i x) else 0 := by
  induction l with
  | nil => rfl
  | cons y l ih =>
    rw [List.length_cons, Finset.sum_range_succ']
    simp only [List.getD_cons_succ, List.getD_cons_zero, ← ih]
    cases h : p y <;> simp [h, Nat.add_comm]

theorem slewSum_eq_reserved (s : State) (f : Feeder) : s.slewSum f = reserved s f :=
  (foldl_add_ite (fun d : Dish => d.feeder == f) (fun d : Dish => d.reservation.getD 0) s.dsv.dishes 0).trans (Nat.zero_add _)

theorem heatSum_eq_heated (s : State) (f : Feeder) : s.heatSum f = heated s f :=
  (foldl_add_ite (fun x : Dish × Heater => x.1.feeder == f) (fun x : Dish × Heater => x.2.counted * x.1.profile.h)
    (s.dsv.dishes.zip s.mlc.heaters) 0).trans (Nat.zero_add _)

/-- A sum over the dishes to which one dish alone adds. -/
theorem sum_dishes_eq_single {s : State} {d : Nat} (hd : s.isDish d = true) (g : Nat → Nat) (hg : ∀ e, e ≠ d → g e = 0) :
    ∑ i ∈ Finset.range s.dsv.dishes.length, g (i + 1) = g d := by
  obtain ⟨h1, hle⟩ : 1 ≤ d ∧ d ≤ s.dsv.dishes.length := by simpa [State.isDish, thas] using hd
  have hpred : d - 1 + 1 = d := by omega
  rw [Finset.sum_eq_single (d - 1), hpred]
  · exact fun i _ hi => hg _ (by omega)
  · exact fun hi => absurd (Finset.mem_range.mpr (by omega)) hi

/-- What a dish adds to slew committed of feeder `f` (R126). -/
def slewShare (f : Feeder) (r : Dish) : Nat := if r.feeder == f then r.reservation.getD 0 else 0

/-- What a dish and its heater add to heat committed of feeder `f` (R126). -/
def heatShare (f : Feeder) (r : Dish) (h : Heater) : Nat := if r.feeder == f then h.counted * r.profile.h else 0

theorem slewSum_eq_sum (s : State) (f : Feeder) :
    s.slewSum f = ∑ i ∈ Finset.range s.dsv.dishes.length, slewShare f (s.dish (i + 1)) := by
  rw [slewSum_eq_reserved]
  exact sum_filter_map_eq_range _ _ _ Dish.initial

theorem heatSum_eq_sum (s : State) (f : Feeder) : s.heatSum f =
    ∑ i ∈ Finset.range (min s.dsv.dishes.length s.mlc.heaters.length), heatShare f (s.dish (i + 1)) (s.heater (i + 1)) := by
  rw [heatSum_eq_heated, ← List.length_zip]
  refine (sum_filter_map_eq_range _ _ _ (Dish.initial, {})).trans (Finset.sum_congr rfl fun i hi => ?_)
  obtain ⟨hd, hh⟩ : i < s.dsv.dishes.length ∧ i < s.mlc.heaters.length := by simpa using hi
  have hzip : (s.dsv.dishes.zip s.mlc.heaters).getD i (Dish.initial, {}) = (s.dish (i + 1), s.heater (i + 1)) := by
    simp [State.dish, State.heater, tget, List.getD_eq_getElem?_getD, hd, hh]
  rw [hzip]
  rfl

section
variable {l : Set Part} {s t : State} (h : Changes l s t)
include h

/-- Slew committed reads a dish's feeder and its reservation. -/
theorem Changes.slewSum (ha : ∀ d, Part.dish .assignment d ∉ l := by simp) (hr : ∀ d, Part.dish .reservation d ∉ l := by simp)
    (f : Feeder) :
    t.slewSum f = s.slewSum f := by
  rw [slewSum_eq_sum, slewSum_eq_sum, h.length_dishes]
  refine Finset.sum_congr rfl fun i _ => ?_
  rw [slewShare, slewShare, (h.assignment (ha _)).1, h.reservation (hr _)]

/-- Heat committed reads a dish's feeder and its H, and what its heater counts. -/
theorem Changes.heatSum (hp : ∀ d, Part.dish .profile d ∉ l := by simp) (ha : ∀ d, Part.dish .assignment d ∉ l := by simp)
    (hh : ∀ d, Part.heater d ∉ l := by simp) (f : Feeder) : t.heatSum f = s.heatSum f := by
  rw [heatSum_eq_sum, heatSum_eq_sum, h.length_dishes, h.length_heaters]
  refine Finset.sum_congr rfl fun i _ => ?_
  rw [heatShare, heatShare, (h.assignment (ha _)).1, h.profile (hp _), h.heater (hh _)]

end

/-! ## The account of a feeder follows the sums -/

/-- Slew committed and heat committed of every feeder are the sums of R126. -/
def FeederSums (s : State) : Prop := ∀ f, (s.feeder f).slewCommitted = s.slewSum f ∧ (s.feeder f).heatCommitted = s.heatSum f

theorem feederSums_of_accounts {s : State} (h : Accounts s) : FeederSums s := fun f => by
  obtain ⟨hslew, hheat, -, -⟩ := h f
  rw [slewSum_eq_reserved, heatSum_eq_heated]
  exact ⟨hslew, hheat⟩

/-- A change that leaves the feeders and what their sums read leaves the sums in accord. -/
theorem Changes.feederSums {l : Set Part} {s t : State} (h : Changes l s t) (hs : FeederSums s) (hf : Part.feeders ∉ l := by simp)
    (hp : ∀ d, Part.dish .profile d ∉ l := by simp) (ha : ∀ d, Part.dish .assignment d ∉ l := by simp)
    (hr : ∀ d, Part.dish .reservation d ∉ l := by simp) (hh : ∀ d, Part.heater d ∉ l := by simp) : FeederSums t := fun f => by
  rw [State.feeder, h.feeders hf, h.slewSum ha hr, h.heatSum hp ha hh]
  exact hs f

theorem get_set {α : Type} (p : PerFeeder α) (f g : Feeder) (x : α) : (p.set f x).get g = if g = f then x else p.get g := by
  cases f <;> cases g <;> rfl

theorem modFeeder_feeder (s : State) (f g : Feeder) (h : FeederRec → FeederRec) :
    (s.modFeeder f h).feeder g = if g = f then h (s.feeder f) else s.feeder g := get_set _ _ _ _

/-- The feeders after one account was brought up to date; a fall of committed makes a pass due (R126). -/
theorem settle_fbu (s : State) (f : Feeder) : (s.settle f).fbu =
    { feeders := s.fbu.feeders.set f ((s.feeder f).settle (s.slewSum f) (s.heatSum f)),
      passDue := decide (s.slewSum f + s.heatSum f < (s.feeder f).committed) || s.fbu.passDue } := by
  have htail (u v : State) (hv : v.fbu = u.fbu) (b c : Bool) (k : EventClass) (q : Option Nat) (n : NoticeKey) :
      (if b == c then v else if c then (v.syncCeiling.raise n).count k q else v.syncCeiling.raise n).fbu = u.fbu := by
    have hraise : (v.syncCeiling.raise n).fbu = v.fbu := (raise_changes _ _).fbu
    split
    · exact hv
    split
    · exact ((count_changes _ _ _).fbu).trans (hraise.trans hv)
    · exact hraise.trans hv
  unfold State.settle State.settleFrom
  simp only
  refine (htail _ _ rfl _ _ _ _ _).trans ?_
  split
  next h => exact congrArg (Fbu.mk _) (by simpa using .inl h)
  next h =>
    have hkeeps : ¬ s.slewSum f + s.heatSum f < (s.feeder f).committed := h
    rw [decide_eq_false hkeeps]
    rfl

theorem settle_feeder (s : State) (f g : Feeder) :
    (s.settle f).feeder g = if g = f then (s.feeder f).settle (s.slewSum f) (s.heatSum f) else s.feeder g := by
  unfold State.feeder
  rw [settle_fbu]
  exact get_set _ _ _ _

/-- The account of feeder `f` brought up to date, where the other feeders' sums are in accord. -/
theorem settle_feederSums {s : State} {f : Feeder}
    (h : ∀ g, g ≠ f → (s.feeder g).slewCommitted = s.slewSum g ∧ (s.feeder g).heatCommitted = s.heatSum g) :
    FeederSums (s.settle f) := by
  intro g
  have hl := settle_changes s f
  rw [settle_feeder, hl.slewSum, hl.heatSum]
  split
  next he =>
    rw [he]
    exact ⟨rfl, rfl⟩
  next he => exact h g he

/-! ## A stage order (R151) -/

/-- A write to a heater that counts no less raises the sum of its dish's feeder at most, and leaves the others. -/
theorem modHeater_heatSum (s : State) (d : Nat) (k : Heater → Heater) (hk : ∀ h, h.counted ≤ (k h).counted) (f : Feeder) :
    s.heatSum f ≤ (s.modHeater d k).heatSum f ∧ (f ≠ (s.dish d).feeder → (s.modHeater d k).heatSum f = s.heatSum f) := by
  have hl := modHeater_changes s d k
  have hheater (e : Nat) : (s.heater e).counted ≤ ((s.modHeater d k).heater e).counted := by
    by_cases he : e = d
    · subst he
      by_cases hh : thas s.mlc.heaters e = true
      · rw [modHeater_heater_same s e k hh]
        exact hk _
      · have hsame : s.modHeater e k = s := by
          simp [State.modHeater, tget_tmod_absent _ _ _ (Bool.not_eq_true _ ▸ hh)]
        rw [hsame]
    · rw [hl.heater (by simpa using he)]
  rw [heatSum_eq_sum, heatSum_eq_sum, hl.length_heaters]
  refine ⟨Finset.sum_le_sum fun i _ => ?_, fun hf => Finset.sum_congr rfl fun i _ => ?_⟩
  · unfold heatShare
    split
    next he =>
      rw [modHeater_dish, if_pos he]
      exact Nat.mul_le_mul_right _ (hheater _)
    next => exact Nat.zero_le _
  · unfold heatShare
    rw [modHeater_dish]
    by_cases he : i + 1 = d
    · subst he
      have hother : ((s.dish (i + 1)).feeder == f) = false := by simpa using Ne.symm hf
      rw [hother]
      rfl
    · rw [hl.heater (by simpa using he)]

/-- From `s` to `t` heat was allocated: where the sums were in accord they still are, no pass becomes due by it, and slew committed, waiting
counts and shed demand of the feeders stay. -/
def Allots (s t : State) : Prop :=
  FeederSums s → FeederSums t ∧ t.fbu.passDue = s.fbu.passDue ∧ ∀ f, (t.feeder f).slewCommitted = (s.feeder f).slewCommitted
    ∧ (t.feeder f).waits = (s.feeder f).waits ∧ (t.feeder f).shedDemand = (s.feeder f).shedDemand

theorem Allots.refl (s : State) : Allots s s := fun h => ⟨h, rfl, fun _ => ⟨rfl, rfl, rfl⟩⟩

theorem Allots.trans {s t u : State} (h : Allots s t) (h' : Allots t u) : Allots s u := fun hs => by
  obtain ⟨ht, hdue, hfeeder⟩ := h hs
  obtain ⟨hu, hdue', hfeeder'⟩ := h' ht
  refine ⟨hu, hdue'.trans hdue, fun f => ?_⟩
  obtain ⟨hslew, hwaits, hshed⟩ := hfeeder f
  obtain ⟨hslew', hwaits', hshed'⟩ := hfeeder' f
  exact ⟨hslew'.trans hslew, hwaits'.trans hwaits, hshed'.trans hshed⟩

theorem Allots.ite {s t u : State} {c : Prop} [Decidable c] (ht : c → Allots s t) (hu : ¬ c → Allots s u) :
    Allots s (if c then t else u) := by
  split
  · exact ht ‹_›
  · exact hu ‹_›

theorem Allots.foldl {α : Type} (f : State → α → State) (xs : List α) (s : State) (h : ∀ t x, Allots t (f t x)) :
    Allots s (xs.foldl f s) :=
  List.foldlRecOn (motive := fun t => Allots s t) xs f (Allots.refl s) fun t ht x _ => ht.trans (h t x)

/-- A change that reaches neither the feeders nor what their sums read. -/
theorem Changes.allots {l : Set Part} {s t : State} (h : Changes l s t) (hf : Part.feeders ∉ l := by simp)
    (hdue : Part.passDue ∉ l := by simp) (hp : ∀ d, Part.dish .profile d ∉ l := by simp) (ha : ∀ d, Part.dish .assignment d ∉ l := by simp)
    (hr : ∀ d, Part.dish .reservation d ∉ l := by simp) (hh : ∀ d, Part.heater d ∉ l := by simp) : Allots s t := fun hs => by
  have hfbu := h.fbu hf hdue
  refine ⟨h.feederSums hs hf hp ha hr hh, by rw [hfbu], fun f => ?_⟩
  rw [State.feeder, hfbu]
  exact ⟨rfl, rfl, rfl⟩

theorem orderStage_allots (s : State) (d stage : Nat) : Allots s (s.orderStage d stage) := by
  let u := s.modHeater d (fun h => { h with granted := stage, counted := max h.counted stage })
  let f := (s.dish d).feeder
  have hsum := modHeater_heatSum s d (fun h => { h with granted := stage, counted := max h.counted stage }) (fun _ => Nat.le_max_left _ _)
  have hsettled : Allots s (u.settle f) := fun hs => by
    have hother (g : Feeder) (hg : g ≠ f) : (u.feeder g).slewCommitted = u.slewSum g ∧ (u.feeder g).heatCommitted = u.heatSum g :=
      ⟨(hs g).1, (hs g).2.trans ((hsum g).2 hg).symm⟩
    have hrises : ¬ u.slewSum f + u.heatSum f < (u.feeder f).committed := by
      have hslew : (u.feeder f).slewCommitted = u.slewSum f := (hs f).1
      have hheat : (u.feeder f).heatCommitted ≤ u.heatSum f := (hs f).2.trans_le (hsum f).1
      rw [FeederRec.committed]
      omega
    refine ⟨settle_feederSums hother, ?_, fun g => ?_⟩
    · rw [settle_fbu, decide_eq_false hrises, Bool.false_or]
      rfl
    · rw [settle_feeder]
      split
      next he =>
        rw [he]
        exact ⟨(hs f).1.symm, rfl, rfl⟩
      next => exact ⟨rfl, rfl, rfl⟩
  exact hsettled.trans (orderHeat_changes _ d stage).allots

/-! ## Allocation (R153 to R155) -/

theorem tryRaise_allots (s : State) (f : Feeder) (d fit : Nat) : Allots s (s.tryRaise f d fit) := by
  refine Allots.ite (fun _ => ?_) fun _ => Allots.refl s
  split
  · exact orderStage_allots s d _
  · exact Allots.refl s

theorem allocate_allots (s : State) (f : Feeder) : Allots s (s.allocate f) :=
  (Allots.foldl _ _ s fun t _ => Allots.ite (fun _ => orderStage_allots t _ _) fun _ => Allots.refl t).trans
    (Allots.foldl _ _ _ fun t _ => tryRaise_allots t f _ _)

theorem cutStages_allots (f : Feeder) (demand fuel : Nat) (s : State) : Allots s (s.cutStages f demand fuel) := by
  induction fuel generalizing s with
  | zero => exact Allots.refl s
  | succ fuel ih =>
    unfold State.cutStages
    refine Allots.ite (fun _ => Allots.refl s) fun _ => ?_
    split
    · exact Allots.refl s
    · exact ((orderStage_allots s _ _).trans (count_changes _ _ _).allots).trans (ih _)

theorem allocateOn_allots (s : State) (f : Feeder) : Allots s (s.allocateOn f) := by
  have happly (t : State) : Allots t (t.applyDemand f) := by
    unfold State.applyDemand
    split
    · exact cutStages_allots f _ _ t
    · exact Allots.refl t
  exact ((allocate_allots s f).trans (happly _)).trans (syncUnmet_changes _).allots

end Sys2Proof.Machine

end

section
-- One declaration at a time: the check bounds memory, and every thread in flight takes its stack from it.
set_option Elab.async false

/-! The end of an admission pass (R135 to R137) and the frame of the pass. -/

namespace Sys2Proof.Machine
open Sys2Proof.Claims

/-! ## The end of the pass -/

/-- The state with the due pass taken. -/
def State.passTaken (s : State) : State := { s with fbu.passDue := false }

/-- A frame with the due pass taken at both ends. -/
theorem Changes.passTaken {l : Set Part} {s t : State} (h : Changes l s t) : Changes l s.passTaken t.passTaken := by
  refine ⟨fun p hp => ?_, h.sizes, h.notices, id⟩
  cases p with
  | passDue => rfl
  | _ => exact h.same _ hp

section
variable (m : Marks)

theorem closeFeeder_changes (s : State) (f : Feeder) : Changes {.feeders} s (s.closeFeeder m f) :=
  Changes.ite (fun _ => (modFeeder_changes s f _).trans ((raise_changes _ _).mono)) fun _ => modFeeder_changes s f _

theorem closeFeeder_feeder (s : State) (f g : Feeder) : (s.closeFeeder m f).feeder g =
    if g = f then { s.feeder f with waits := s.waitCounts f, shedDemand := (m.get f).demand } else s.feeder g := by
  have hfeeders (t : State) (c : Prop) [Decidable c] (k : NoticeKey) : (if c then t.raise k else t).feeder g = t.feeder g := by
    split
    · rw [State.feeder, (raise_changes _ _).feeders, State.feeder]
    · rfl
  exact (hfeeders _ _ _).trans (modFeeder_feeder s f g _)

/-- The feeders after their ends in letter order. -/
theorem closeFeeders_feeder (s : State) (g : Feeder) : (allFeeders.foldl (fun t f => t.closeFeeder m f) s).feeder g =
    { s.feeder g with waits := s.waitCounts g, shedDemand := (m.get g).demand } := by
  have hcounts (t : State) (f g : Feeder) : (t.closeFeeder m f).waitCounts g = t.waitCounts g := by
    have hdsv := (closeFeeder_changes m t f).dsv
    simp only [State.waitCounts, State.waitCount, hdsv]
  simp only [allFeeders, List.foldl_cons, List.foldl_nil, closeFeeder_feeder, hcounts]
  cases g <;> rfl

/-- The state in which MLC allocates at the end of a pass. -/
def State.passClosed (s : State) : State :=
  let t := allFeeders.foldl (fun t f => t.closeFeeder m f) s
  { t with act.conds.budgetWait := t.waitingClasses, fbu.passDue := false }

theorem endPass_eq (s : State) : s.endPass m = allFeeders.foldl (fun t f => t.allocateOn f) (s.passClosed m) := rfl

theorem passClosed_changes (s : State) : Changes {.feeders, .conds} s.passTaken (s.passClosed m) := by
  have hclose : Changes {.feeders} s (allFeeders.foldl (fun t f => t.closeFeeder m f) s) :=
    Changes.foldl _ _ s fun t f _ => closeFeeder_changes m t f
  exact (hclose.passTaken.mono).trans ((withConds_changes _ _).mono)

/-- The end of a pass touches what allocation touches, with the due pass taken. -/
theorem endPass_changes (s : State) : Changes heating s.passTaken (s.endPass m) := by
  rw [endPass_eq]
  exact ((passClosed_changes m s).mono).trans (Changes.foldl _ _ _ fun t f _ => allocateOn_heating t f)

/-- The feeders after a pass: slew committed as the walk left it, the waiting counts, and the demand of the marks; no pass is due. -/
theorem endPass_budget {s : State} (hs : FeederSums s) : (s.endPass m).fbu.passDue = false
    ∧ ∀ f, ((s.endPass m).feeder f).slewCommitted = (s.feeder f).slewCommitted ∧ ((s.endPass m).feeder f).waits = s.waitCounts f
      ∧ ((s.endPass m).feeder f).shedDemand = (m.get f).demand := by
  have hfeeder (g : Feeder) : (s.passClosed m).feeder g =
      { s.feeder g with waits := s.waitCounts g, shedDemand := (m.get g).demand } := closeFeeders_feeder m s g
  have hclosed : FeederSums (s.passClosed m) := fun g => by
    have hl := passClosed_changes m s
    rw [hfeeder, hl.slewSum, hl.heatSum]
    exact hs g
  have hallot : Allots (s.passClosed m) (s.endPass m) := Allots.foldl _ _ _ fun t f => allocateOn_allots t f
  obtain ⟨-, hdue, hkeep⟩ := hallot hclosed
  refine ⟨hdue, fun f => ?_⟩
  obtain ⟨hslew, hwaits, hshed⟩ := hkeep f
  rw [hslew, hwaits, hshed, hfeeder]
  exact ⟨rfl, rfl, rfl⟩

end

/-! ## The event -/

/-- A due pass of a running part, from the frame of what it makes of the state. -/
theorem passEnds_of_changes {s v : State} {p : State → Prop} (l : Set Part) (h : Running s) (hdue : s.fbu.passDue = true)
    (hrun : s.begin.runPass = v) (hv : Changes l s.begin.passTaken v)
    (hl : ∀ q ∈ l, q.within [.dsv, .pbc, .znc, .sls, .fbu, .mlc, .act]) (hend : v.fbu.passDue = false)
    (hp : ∀ o : Oli, o.notices = v.oli.notices → p { v with oli := o }) : PassEnds s p := by
  have hlink : Part.link ∉ l := fun hm => (hl _ hm).2.1 rfl
  have hclock : Part.clock ∉ l := fun hm => (hl _ hm).1 rfl
  have hstore : v.nvs = s.nvs := hv.store fun hm => (hl _ hm).2.2.1 rfl
  have hoccurs : SameBesideLine v (s.onEvent s.fbu.passDue (·.runPass)) := by
    have := event_of s s.fbu.passDue (·.runPass) h hdue (by rw [hrun, hstore]; exact h.2)
    rwa [hrun] at this
  obtain ⟨hpow, hnow, hmom, hpend, hin, hflow, hrep, hcnt, hsend⟩ := hv.ownerFrame hclock hlink
  have hframe : SameBut [.dsv, .pbc, .znc, .sls, .fbu, .mlc, .act] s.begin.passTaken v := hv.sameBut fun q hq => (hl q hq).2.2.2
  refine happens_of .admissionPass s v _ _ _ ⟨_, rfl, hoccurs⟩ ⟨hpow.trans h.1, hnow, hmom, hpend⟩ ?_ ?_
  · obtain ⟨h1, h2, h3, h4, h5, -, h7, h8, h9, h10⟩ := hframe
    exact ⟨h1, h2, h3, h4, h5, .inl (by simp), h7, h8, h9, h10⟩
  · rintro t ⟨y, fp, lf, rfl, hy⟩
    refine ⟨hend, ⟨hin, hflow, hrep, hcnt, ?_, fun hso => ?_⟩, hp _ rfl⟩
    · rw [hv.link hlink]
      rfl
    · have hs : v.oli.sending = s.oli.sending := hsend
      rw [← hs] at hso ⊢
      exact hy hso

theorem runPass_of_claim {s : State} {d : Nat} {cls : ClaimClass} (hunits : s.passUnits = [.claim d cls]) (hskip : s.skips d cls = false) :
    s.runPass = (if cls == .stow then s.passStow Marks.clear d else s.passOther Marks.clear d cls).1.endPass
      (if cls == .stow then s.passStow Marks.clear d else s.passOther Marks.clear d cls).2 := by
  have hwalk : s.passWalk Marks.clear s.passUnits = if cls == .stow then s.passStow Marks.clear d else s.passOther Marks.clear d cls := by
    rw [hunits]
    simp [State.passWalk, State.passUnit, hskip]
  unfold State.runPass
  rw [hwalk]

/-- A claim alone in the pass is not skipped (R130). -/
theorem skips_of_alone {s : State} {d : Nat} {cls : ClaimClass} (h : AloneInThePass s d cls) : s.skips d cls = false := by
  obtain ⟨-, -, -, -, -, hstate, hkey, hblock, hice, hwatch⟩ := h
  have hclear : (s.dish d).keyNow = .clear := by
    unfold Dish.keyNow
    cases hlast : (s.dish d).last with
    | none => rfl
    | some x => exact hkey x hlast
  have helig : s.eligibleFor d cls = true := by
    unfold State.eligibleFor State.unblocked
    rw [hstate, hclear, hblock]
    cases cls <;> rfl
  have hcalm : (cls == .shed && (s.zone (s.dish d).zone).state == .watch) = false := by
    cases cls with
    | shed => simpa using hwatch rfl
    | _ => rfl
  unfold State.skips
  rw [helig, hice, hcalm]
  rfl

end Sys2Proof.Machine

end

section
-- One declaration at a time: the check bounds memory, and every thread in flight takes its stack from it.
set_option Elab.async false

/-! One admission (R134): the demand becomes the reservation, the claim's owner records it, and the motion is ordered. -/

namespace Sys2Proof.Machine
open Sys2Proof.Claims

/-! ## The reservation (R134, steps 1 and 2) -/

section
variable {s : State} {d : Nat} (w : Nat) (hd : s.isDish d = true)
include hd

theorem reserve_dish : (s.reserve d w).dish d = { s.dish d with reservation := some w } :=
  ((settle_changes _ _).dish).trans (modDish_dish_same s d _ hd)

/-- A dish without a reservation adds its new one to slew committed of its feeder. -/
theorem modDish_reserved_slewSum (hnone : (s.dish d).reservation = none) (f : Feeder) :
    (s.modDish d (fun r => { r with reservation := some w })).slewSum f = s.slewSum f + if (s.dish d).feeder = f then w else 0 := by
  let u := s.modDish d (fun r => { r with reservation := some w })
  have hlen : u.dsv.dishes.length = s.dsv.dishes.length := length_tmod _ _ _
  have hshare (i : Nat) : slewShare f (u.dish (i + 1)) =
      slewShare f (s.dish (i + 1)) + if i + 1 = d then (if (s.dish d).feeder = f then w else 0) else 0 := by
    by_cases hi : i + 1 = d
    · rw [if_pos hi, hi, show u.dish d = { s.dish d with reservation := some w } from modDish_dish_same s d _ hd]
      unfold slewShare
      rw [hnone]
      by_cases hf : (s.dish d).feeder = f <;> simp [hf]
    · rw [if_neg hi, show u.dish (i + 1) = s.dish (i + 1) from modDish_dish_other s d _ _ hi]
      rfl
  have hone := sum_dishes_eq_single hd (fun e => if e = d then (if (s.dish d).feeder = f then w else 0) else 0) fun e he => if_neg he
  rw [slewSum_eq_sum, slewSum_eq_sum, hlen, Finset.sum_congr rfl fun i _ => hshare i, Finset.sum_add_distrib, hone, if_pos rfl]

theorem reserve_budget (hs : FeederSums s) (hnone : (s.dish d).reservation = none) : FeederSums (s.reserve d w)
    ∧ ((s.reserve d w).feeder (s.dish d).feeder).slewCommitted = (s.feeder (s.dish d).feeder).slewCommitted + w := by
  let u := s.modDish d (fun r => { r with reservation := some w })
  have hu : Changes {.dish .reservation d} s u := modDish_changes s d _ fun p hp => by cases p <;> simp_all [DishPart.Same]
  have hslew := modDish_reserved_slewSum w hd hnone
  refine ⟨settle_feederSums fun g hg => ?_, ?_⟩
  · refine ⟨?_, (hs g).2.trans (hu.heatSum (f := g)).symm⟩
    rw [hslew, if_neg (Ne.symm hg)]
    exact (hs g).1
  · show ((u.settle _).feeder _).slewCommitted = _
    rw [settle_feeder, if_pos rfl, (hs _).1]
    exact (hslew _).trans (by rw [if_pos rfl])

end

/-! ## The owner's record (R134, step 4; R188) -/

theorem onAdmitted_spec (m : Monitor) (now : Nat) (r : TrackRef) : MonitorAtAdmission m (m.onAdmitted now r) now r := by
  unfold MonitorAtAdmission Monitor.onAdmitted
  refine ⟨fun hnot => ?_, fun x ⟨hstate, y, hy, href, hadm⟩ hx => ?_⟩
  · split
    next t hstate htracked =>
      refine if_neg fun h => hnot ⟨hstate, t, htracked, ?_⟩
      simpa using h
    next => rfl
  · obtain rfl : x = y := Option.some.inj (hx.symm.trans hy)
    simp [hstate, hx, href, hadm]

theorem modRecord_record_other (s : State) {id i : Nat} (f : SlewRecord → SlewRecord) (hf : ∀ r, (f r).id = r.id) (h : i ≠ id) :
    (s.modRecord id f).record i = s.record i := by
  have hp : ((fun r : SlewRecord => r.id == i) ∘ fun r => if r.id == id then f r else r) = fun r => r.id == i := by
    funext r
    by_cases hr : r.id = id <;> simp [hr, hf]
  have hkeep (r : SlewRecord) (hr : s.record i = some r) : (if r.id == id then f r else r) = r :=
    if_neg (by simpa [record_id hr] using h)
  unfold State.modRecord State.record
  rw [List.find?_map, hp]
  cases hr : s.sls.table.find? (fun r => r.id == i) with
  | none => rfl
  | some r => exact congrArg some (hkeep r hr)

/-- The member that an admission leaves (R103). -/
def HostMember.asAdmitted (m : HostMember) (demand estimate : Nat) : HostMember :=
  { m with state := .admitted, running := false, demand := some demand, estimate := some estimate }

theorem recordAdmission_changes (s : State) (d demand estimate : Nat) :
    Changes (closingOf ((s.dish d).claim.map (·.ref))) s (s.recordAdmission d demand estimate) := by
  unfold State.recordAdmission
  cases hc : (s.dish d).claim with
  | none => exact Changes.refl _ s
  | some c =>
    obtain ⟨ref, standing, running, waiting⟩ := c
    cases ref with
    | host id => exact ((modRecord_changes s id _).mono (by simp [closingOf])).trans ((monitorAdmitted_changes _ _).mono (by simp [closingOf]))
    | wave z => exact ((modZone_changes s z _).mono (by simp [closingOf])).trans ((monitorAdmitted_changes _ _).mono (by simp [closingOf]))
    | task => exact Changes.refl _ s

theorem recordAdmission_of_host {s : State} {d id : Nat} (demand estimate : Nat) (h : (s.dish d).claim.map (·.ref) = some (.host id)) :
    s.recordAdmission d demand estimate = (s.modRecord id (·.modMember d (·.asAdmitted demand estimate))).monitorAdmitted (.host id) := by
  obtain ⟨⟨ref, standing, running, waiting⟩, hc, rfl⟩ := Option.map_eq_some_iff.mp h
  simp only [State.recordAdmission, hc, HostMember.asAdmitted]

theorem recordAdmission_of_wave {s : State} {d z : Nat} (demand estimate : Nat) (h : (s.dish d).claim.map (·.ref) = some (.wave z)) :
    s.recordAdmission d demand estimate =
      (s.modZone z (fun r => { r with wave := r.wave.map (·.setMember d .admitted) })).monitorAdmitted (.wave z) := by
  obtain ⟨⟨ref, standing, running, waiting⟩, hc, rfl⟩ := Option.map_eq_some_iff.mp h
  simp only [State.recordAdmission, hc]

/-! ## The steps together -/

/-- R134: the steps of an admission with its slew timeout, its estimate and its order given. -/
def State.admitWith (s : State) (d : Nat) (cls : ClaimClass) (timeout : Option Nat) (estimate : Nat) (cmd : MoveCmd) : State :=
  ((((s.reserve d (s.demand d cls)).modDish d (·.admitted timeout)).recordAdmission d (s.demand d cls) estimate).orderMove d cmd).count
    .admission (some cls.bit)

theorem admitClaim_of_home (s : State) (d : Nat) : s.admitClaim d .home = s.admitWith d .home none 0 .home := rfl

/-- The estimate of a move of dish `d` from its position to a target (R124). -/
def State.moveEstimate (s : State) (d : Nat) (x : Int × Int × Nat × Nat) : Nat :=
  slewEstimate (s.dish d).position (s.dish d).profile x.1 x.2.1 x.2.2.1 x.2.2.2

/-- The MOVE of dish `d` to a target (R81, R125). -/
def State.moveTo (s : State) (d : Nat) (x : Int × Int × Nat × Nat) : MoveCmd :=
  .move x.1 x.2.1 x.2.2.1 x.2.2.2 (s.dish d).profile.aAz (s.dish d).profile.aEl

theorem admitClaim_of_move {s : State} {d : Nat} {cls : ClaimClass} (hd : s.isDish d = true) (hcls : cls ≠ .home) :
    s.admitClaim d cls = s.admitWith d cls (some (slewTimeoutOf (s.moveEstimate d (s.targetOf d cls)))) (s.moveEstimate d (s.targetOf d cls))
      (s.moveTo d (s.targetOf d cls)) := by
  have hl := reserve_changes s d (s.demand d cls)
  have htarget : (s.reserve d (s.demand d cls)).targetOf d cls = s.targetOf d cls := by
    have hrecord : (s.reserve d (s.demand d cls)).record = s.record := funext fun i => hl.record (id := i)
    have hzone : (s.reserve d (s.demand d cls)).zone = s.zone := funext fun z => hl.zone
    unfold State.targetOf
    rw [reserve_dish _ hd, hrecord, hzone]
    rfl
  unfold State.admitClaim
  simp only
  rw [if_neg (by simpa using hcls), htarget]
  rfl

/-- What an admission may change beside the account; `ref` is what the claim refers to. -/
def admitting (d : Nat) (ref : Option ClaimRef) : Set Part :=
  {.dish .reservation d, .dish .claim d, .slots .move d, .counters (some .admission)} ∪ accounting ∪ closingOf ref

/-- What an admission makes of a dish, of its feeder, of its MOVE or HOME order and of its claim's owner. -/
structure Admits (s t : State) (d : Nat) (cls : ClaimClass) (timeout : Option Nat) (estimate : Nat) (cmd : MoveCmd) : Prop where
  frame : Changes (admitting d ((s.dish d).claim.map (·.ref))) s t
  sums : FeederSums t
  slew : (t.feeder (s.dish d).feeder).slewCommitted = (s.feeder (s.dish d).feeder).slewCommitted + s.demand d cls
  dish : t.dish d = { (s.dish d).admitted timeout with reservation := some (s.demand d cls) }
  move : (t.slots d).movePending = some { cmd := cmd, attempts := 0, age := s.moment }
  counts : CountsOf s t .admission [some cls.bit]
  host : ∀ id, (s.dish d).claim.map (·.ref) = some (.host id) → MonitorAtAdmission s.act.monitor t.act.monitor s.now (.host id)
    ∧ ∀ i, t.record i = if i = id then (s.record i).map (·.modMember d (·.asAdmitted (s.demand d cls) estimate)) else s.record i
  wave : ∀ z, (s.dish d).claim.map (·.ref) = some (.wave z) → MonitorAtAdmission s.act.monitor t.act.monitor s.now (.wave z)
    ∧ (thas s.znc.zones z = true → t.zone z = { s.zone z with wave := (s.zone z).wave.map (·.setMember d .admitted) })

theorem admitWith_admits {s : State} {d : Nat} (cls : ClaimClass) (timeout : Option Nat) (estimate : Nat) (cmd : MoveCmd) (hs : FeederSums s)
    (hd : s.isDish d = true) (hslots : thas s.pbc.slots d = true) (hnone : (s.dish d).reservation = none)
    (hpresent : (s.dish d).state ≠ .absent) (hheat : s.pbc.heatOff = false) : Admits s (s.admitWith d cls timeout estimate cmd) d cls timeout estimate cmd := by
  let w := s.demand d cls
  let s1 := s.reserve d w
  let s2 := s1.modDish d (·.admitted timeout)
  let s3 := s2.recordAdmission d w estimate
  let s4 := s3.orderMove d cmd
  obtain ⟨hsums, hslew⟩ := reserve_budget w hd hs hnone
  have h1 : Changes ({.dish .reservation d} ∪ accounting) s s1 := reserve_changes s d w
  have hdish1 : s1.dish d = { s.dish d with reservation := some w } := reserve_dish w hd
  have h2 : Changes {.dish .claim d} s1 s2 := modDish_claim_changes s1 d _ fun _ => rfl
  have hdish2 : s2.dish d = { (s.dish d).admitted timeout with reservation := some w } := by
    rw [show s2.dish d = (s1.dish d).admitted timeout from modDish_dish_same s1 d _ ((h1.isDish d).trans hd), hdish1]
    rfl
  have href : (s2.dish d).claim.map (·.ref) = (s.dish d).claim.map (·.ref) := by
    rw [hdish2]
    exact Option.map_map _ _ _
  have h3 : Changes (closingOf ((s.dish d).claim.map (·.ref))) s2 s3 := href ▸ recordAdmission_changes s2 d w estimate
  have h3' : Changes closing s2 s3 := h3.mono (closingOf_subset _)
  have h4 : Changes {.slots .move d} s3 s4 := orderMove_changes s3 d cmd
  have h5 : Changes {.counters (some .admission)} s4 (s.admitWith d cls timeout estimate cmd) := count_changes s4 _ _
  have h12 : Changes ({.dish .reservation d, .dish .claim d} ∪ accounting) s s2 := (h1.mono).trans (h2.mono)
  have h14 : Changes ({.dish .reservation d, .dish .claim d, .slots .move d} ∪ accounting ∪ closing) s s4 :=
    ((h12.mono (Set.union_subset_union_left _ (by simp [Set.insert_subset_iff]) |>.trans Set.subset_union_left)).trans
      (h3'.mono Set.subset_union_right)).trans (h4.mono)
  have hend : Changes {.slots .move d, .counters (some .admission)} s3 (s.admitWith d cls timeout estimate cmd) := (h4.mono).trans (h5.mono)
  have htail : Changes ({.slots .move d, .counters (some .admission)} ∪ closing) s2 (s.admitWith d cls timeout estimate cmd) :=
    (h3'.mono Set.subset_union_right).trans (hend.mono Set.subset_union_left)
  refine ⟨?_, ?_, ?_, htail.dish.trans hdish2, ?_, ?_, fun id hid => ⟨?_, fun i => ?_⟩, fun z hz => ⟨?_, fun hhas => ?_⟩⟩
  · exact ((h12.mono (Set.union_subset_union_left _ (by simp) |>.trans Set.subset_union_left)).trans
      (h3.mono Set.subset_union_right)).trans
      (hend.mono (by simp [Set.insert_subset_iff]))
  · exact htail.feederSums (h2.feederSums hsums)
  · rw [State.feeder, htail.feeders, h2.feeders]
    exact hslew
  · have horder : s4 = s3.modSlots d (·.placeMove cmd s3.moment) := if_neg (by
      rw [h3'.dish, hdish2, h3'.bus, h12.bus]
      simpa [hheat, Dish.admitted] using hpresent)
    have hmoment : s3.moment = s.moment := h3'.moment.trans h12.moment
    have hhas : thas s3.pbc.slots d = true := (h3.hasSlots d).trans ((h12.hasSlots d).trans hslots)
    rw [h5.slotMove.1, horder, modSlots_slots_same s3 d _ hhas, hmoment]
    rfl
  · exact countsOf_trans (h14.countsOf .admission) (count_countsOf s4 .admission (some cls.bit)) (count_changes _ _ _).notices
  · have hs3 := recordAdmission_of_host w estimate (href.trans hid)
    rw [hend.monitor, show s3 = _ from hs3]
    rw [← h12.monitor, ← h12.now]
    exact onAdmitted_spec _ _ _
  · have hs3 := recordAdmission_of_host w estimate (href.trans hid)
    rw [hend.record, show s3 = _ from hs3, (monitorAdmitted_changes _ _).record, ← h12.record (id := i)]
    split
    next hi =>
      rw [hi]
      exact modRecord_record s2 id _ fun _ => rfl
    next hi => exact modRecord_record_other s2 _ (fun _ => rfl) hi
  · have hs3 := recordAdmission_of_wave w estimate (href.trans hz)
    rw [hend.monitor, show s3 = _ from hs3]
    rw [← h12.monitor, ← h12.now]
    exact onAdmitted_spec _ _ _
  · have hs3 := recordAdmission_of_wave w estimate (href.trans hz)
    rw [hend.zone, show s3 = _ from hs3, (monitorAdmitted_changes _ _).zone,
      modZone_zone_same s2 z _ ((h12.hasZone z).trans hhas), h12.zone]

end Sys2Proof.Machine

end

section
-- One declaration at a time: the check bounds memory, and every thread in flight takes its stack from it.
set_option Elab.async false

/-! A pass over one claim that is admitted (R131, R134). -/

namespace Sys2Proof.Machine
open Sys2Proof.Claims

/-! ## From the admission to the end of the pass -/

theorem within_heating {bs : List Block} {q : Part} (hq : q ∈ heating) (h1 : .fbu ∈ bs := by simp) (h2 : .act ∈ bs := by simp)
    (h3 : .mlc ∈ bs := by simp) (h4 : .pbc ∈ bs := by simp) : q.within bs := by
  rcases hq with ((hq | rfl) | ⟨d, rfl⟩) | ⟨d, rfl⟩
  · exact within_accounting hq h1 h2
  · simp [Part.within, Part.block, h2]
  · simp [Part.within, Part.block, h3]
  · simp [Part.within, Part.block, h4]

theorem within_admitting {d : Nat} {ref : Option ClaimRef} {q : Part} (hq : q ∈ admitting d ref) :
    q.within [.dsv, .pbc, .znc, .sls, .fbu, .mlc, .act] := by
  rcases hq with ((rfl | rfl | rfl | rfl) | hq) | hq
  · simp [Part.within, Part.block]
  · simp [Part.within, Part.block]
  · simp [Part.within, Part.block]
  · simp [Part.within, Part.block]
  · exact within_accounting hq
  · exact within_closing (closingOf_subset ref hq)

@[simp] theorem mem_admitting (p : Part) (d : Nat) (ref : Option ClaimRef) : p ∈ admitting d ref ↔
    ((p = .dish .reservation d ∨ p = .dish .claim d ∨ p = .slots .move d ∨ p = .counters (some .admission))
      ∨ (p = .feeders ∨ p = .passDue ∨ p = .counters (some .ceilingHigh) ∨ p = .conds)) ∨ p ∈ closingOf ref := Iff.rfl

/-- What a pass that admits the claim of dish `d` alone makes of the state. -/
structure Admitted (s t : State) (d : Nat) (cls : ClaimClass) (timeout : Option Nat) (estimate : Nat) (cmd : MoveCmd) : Prop where
  dish : t.dish d = { (s.dish d).admitted timeout with reservation := some (s.demand d cls) }
  others : SameDishesBut [d] s t
  slew : (t.feeder (s.dish d).feeder).slewCommitted = (s.feeder (s.dish d).feeder).slewCommitted + s.demand d cls
  counts : CountsOf s t .admission [some cls.bit]
  move : (t.slots d).movePending = some { cmd := cmd, attempts := 0, age := s.moment + 1 }
  host : ∀ id, (s.dish d).claim.map (·.ref) = some (.host id) →
    MonitorAtAdmission s.act.monitor t.act.monitor s.now (.host id) ∧ t.znc = s.znc
      ∧ (∀ i, t.record i = if i = id then (s.record i).map (·.modMember d (·.asAdmitted (s.demand d cls) estimate)) else s.record i)
      ∧ t.sls.lastId = s.sls.lastId ∧ t.sls.groups = s.sls.groups
  wave : ∀ z, (s.dish d).claim.map (·.ref) = some (.wave z) →
    MonitorAtAdmission s.act.monitor t.act.monitor s.now (.wave z) ∧ t.sls = s.sls ∧ (∀ i, i ≠ z → t.zone i = s.zone i)
      ∧ (thas s.znc.zones z = true → t.zone z = { s.zone z with wave := (s.zone z).wave.map (·.setMember d .admitted) })
  task : (s.dish d).claim.map (·.ref) = some .task → t.act.monitor = s.act.monitor ∧ t.sls = s.sls ∧ t.znc = s.znc

section
variable {s a v : State} {d : Nat} {cls : ClaimClass} {timeout : Option Nat} {estimate : Nat} {cmd : MoveCmd}
  (h : Admits s.begin a d cls timeout estimate cmd) (hend : Changes heating a.passTaken v)
include h hend

theorem Admits.ended_changes : Changes (admitting d ((s.dish d).claim.map (·.ref)) ∪ heating) s.begin.passTaken v :=
  (h.frame.passTaken.mono Set.subset_union_left).trans (hend.mono Set.subset_union_right)

theorem Admits.admitted (hslew : ∀ f, (v.feeder f).slewCommitted = (a.feeder f).slewCommitted) (o : Oli) (ho : o.notices = v.oli.notices) :
    Admitted s { v with oli := o } d cls timeout estimate cmd := by
  have hall := h.ended_changes hend
  have hnotClosing {p : Part} (hp : p ∉ closing) : p ∉ closingOf ((s.dish d).claim.map (·.ref)) := fun hc => hp (closingOf_subset _ hc)
  refine ⟨(hend.dish (d := d)).trans h.dish, ⟨fun e he => hall.dish fun p hp => ?_, hall.supervision (by simp [hnotClosing])⟩, ?_, ?_,
    (hend.slotMove (d := d)).1.trans h.move, fun id hid => ?_, fun z hz => ?_, fun htask => ?_⟩
  · have hne : e ≠ d := by simpa using he
    simp [hne, hnotClosing] at hp
  · exact (hslew _).trans h.slew
  · have hkeep : CountsOf a.passTaken v .admission [] := hend.countsOf .admission
    have hwhole := countsOf_trans (countsOf_congr (t' := a.passTaken) h.counts rfl rfl rfl) hkeep hend.notices
    exact countsOf_congr hwhole rfl rfl ho
  · obtain ⟨hmon, hrec⟩ := h.host id hid
    rw [hid] at hall
    have hgroups : v.sls = { s.sls with table := v.sls.table } := hall.same .groups (by simp [closingOf])
    refine ⟨?_, hall.znc (by simp [closingOf]) (by simp [closingOf]), fun i => (hend.record (id := i)).trans (hrec i), ?_, ?_⟩
    · rw [show v.act.monitor = a.act.monitor from hend.monitor]
      exact hmon
    · exact congrArg (·.lastId) hgroups
    · exact congrArg (·.groups) hgroups
  · obtain ⟨hmon, hzone⟩ := h.wave z hz
    rw [hz] at hall
    refine ⟨?_, hall.sls (by simp [closingOf]) (by simp [closingOf]), fun i hi => hall.zone (by simp [closingOf, hi]),
      fun hhas => (hend.zone (z := z)).trans (hzone hhas)⟩
    rw [show v.act.monitor = a.act.monitor from hend.monitor]
    exact hmon
  · rw [htask] at hall
    exact ⟨hall.monitor (by simp [closingOf]), hall.sls (by simp [closingOf]) (by simp [closingOf]),
      hall.znc (by simp [closingOf]) (by simp [closingOf])⟩

end

end Sys2Proof.Machine

end

section
-- One declaration at a time: the check bounds memory, and every thread in flight takes its stack from it.
set_option Elab.async false

/-! The pass over one claim that fits (O31). -/

namespace Sys2Proof.Machine
open Sys2Proof.Claims

/-- The test of R131 for a claim of dish `d`. -/
def State.claimFits (s : State) (d : Nat) (cls : ClaimClass) : Prop :=
  let r := s.feeder (s.dish d).feeder
  (cls = .stow → r.slewCommitted + r.heatCommitted + s.demand d cls ≤ r.ceiling)
    ∧ (cls ≠ .stow → r.slewCommitted + r.heatCommitted + s.demand d cls + r.reserve ≤ r.ceiling)

theorem runPass_of_fits {s : State} {d : Nat} {cls : ClaimClass} (hunits : s.passUnits = [.claim d cls]) (hskip : s.skips d cls = false)
    (hfits : s.claimFits d cls) : s.runPass = (s.admitClaim d cls).endPass Marks.clear := by
  obtain ⟨hstow, hother⟩ := hfits
  have hclear (f : Feeder) : Marks.clear.get f = {} := by cases f <;> rfl
  have hpass : (if cls == .stow then s.passStow Marks.clear d else s.passOther Marks.clear d cls) = (s.admitClaim d cls, Marks.clear) := by
    by_cases hc : cls = .stow
    · subst hc
      have hcarries : (s.feeder (s.dish d).feeder).carriesStow (s.demand d .stow) = true := decide_eq_true (hstow rfl)
      simp [State.passStow, hclear, hcarries]
    · have hcarries : (s.feeder (s.dish d).feeder).carries (s.demand d cls) = true := decide_eq_true (hother hc)
      simp [State.passOther, hclear, hcarries, hc]
  rw [runPass_of_claim hunits hskip, hpass]

section
variable {s : State} {d : Nat} {cls : ClaimClass} (hs : Shape s) (h : Running s) (hacc : Accounts s) (hdue : s.fbu.passDue = true)
  (ha : AloneInThePass s d cls)
include hs h hacc hdue ha

/-- The pass of a claim that fits, in the order and the estimate of its admission. -/
theorem passEnds_of_admitWith {timeout : Option Nat} {estimate : Nat} {cmd : MoveCmd} {p : State → Prop} (hheat : s.pbc.heatOff = false)
    (hfits : s.claimFits d cls) (hadmit : s.begin.admitClaim d cls = s.begin.admitWith d cls timeout estimate cmd)
    (hp : ∀ t, Admitted s t d cls timeout estimate cmd → p t) : PassEnds s p := by
  have hskip := skips_of_alone ha
  obtain ⟨h1, h48, hunits, -, hnone, hstate, -⟩ := ha
  have hpresent : (s.dish d).state ≠ .absent := by
    rw [hstate]
    split <;> simp
  have hadm : Admits s.begin (s.begin.admitWith d cls timeout estimate cmd) d cls timeout estimate cmd :=
    admitWith_admits cls timeout estimate cmd (feederSums_of_accounts hacc) ((hs.isDish d).mpr ⟨h1, h48⟩)
      ((hs.hasSlots d).mpr ⟨h1, h48⟩) hnone hpresent hheat
  have hrun : s.begin.runPass = (s.begin.admitWith d cls timeout estimate cmd).endPass Marks.clear :=
    (runPass_of_fits (s := s.begin) hunits hskip hfits).trans (by rw [hadmit])
  have hend := endPass_changes Marks.clear (s.begin.admitWith d cls timeout estimate cmd)
  obtain ⟨htaken, hslew⟩ := endPass_budget Marks.clear hadm.sums
  exact passEnds_of_changes _ h hdue hrun (hadm.ended_changes hend) (fun q hq => hq.elim within_admitting within_heating) htaken
    fun o ho => hp _ (hadm.admitted hend (fun f => (hslew f).1) o ho)

/-- A HOME claim that fits. -/
theorem passEnds_of_home {p : State → Prop} (hcls : cls = .home) (hheat : s.pbc.heatOff = false) (hfits : s.claimFits d cls)
    (hp : ∀ t, Admitted s t d cls none 0 .home → p t) : PassEnds s p := by
  subst hcls
  exact passEnds_of_admitWith hs h hacc hdue ha hheat hfits (admitClaim_of_home s.begin d) hp

/-- A claim of another class that fits, moved to the target of its class. -/
theorem passEnds_of_move {p : State → Prop} (hcls : cls ≠ .home) (hheat : s.pbc.heatOff = false) (hfits : s.claimFits d cls)
    (hp : ∀ t, Admitted s t d cls (some (slewTimeoutOf (s.moveEstimate d (s.targetOf d cls)))) (s.moveEstimate d (s.targetOf d cls))
      (s.moveTo d (s.targetOf d cls)) → p t) : PassEnds s p :=
  passEnds_of_admitWith hs h hacc hdue ha hheat hfits
    (admitClaim_of_move (s := s.begin) ((hs.isDish d).mpr ⟨ha.1, ha.2.1⟩) hcls) hp

end

/-! ## What the statement asks of the admission -/

theorem bit_eq_classBit (cls : ClaimClass) : cls.bit = classBit cls := by cases cls <;> rfl

theorem tget_of_not_thas {α : Type} (l : List α) (n : Nat) (x : α) (h : thas l n = false) : tget l n x = x := by
  cases n with
  | zero => rfl
  | succ k =>
    have hk : l.length ≤ k := by simp [thas] at h; omega
    simp [tget, List.getD_eq_getElem?_getD, List.getElem?_eq_none hk]

/-- A zone with a wave is one of the eight. -/
theorem hasZone_of_wave {s : State} {z : Nat} {w : Wave} (h : (s.zone z).wave = some w) : thas s.znc.zones z = true := by
  by_contra hn
  have hinit : s.zone z = Zone.initial := tget_of_not_thas _ _ _ (by simpa using hn)
  rw [hinit] at h
  exact absurd h (by simp [Zone.initial])

section
variable {s t : State} {d : Nat} {cls : ClaimClass} {timeout : Option Nat} {estimate : Nat} {cmd : MoveCmd}
  (h : Admitted s t d cls timeout estimate cmd)
include h

theorem Admitted.assignment : SameAssignment d s t := by
  unfold SameAssignment
  rw [h.dish]
  exact ⟨rfl, rfl, rfl, rfl⟩

/-- The record of the claim's owner after the admission (R103, R134, R188). -/
theorem Admitted.owner (ref : ClaimRef) (hc : (s.dish d).claim.map (·.ref) = some ref) :
    (∀ id, ref = .host id → MonitorAtAdmission s.act.monitor t.act.monitor s.now (.host id) ∧ t.znc = s.znc)
    ∧ (∀ y, ref = .wave y → MonitorAtAdmission s.act.monitor t.act.monitor s.now (.wave y) ∧ t.sls = s.sls
        ∧ ∀ w, (s.zone y).wave = some w →
          (∀ i, i ≠ y → t.zone i = s.zone i)
          ∧ t.zone y = { s.zone y with wave := some { w with
              members := w.members.map (fun m => if m.dish = d then { m with state := .admitted } else m) } })
    ∧ (ref = .task → t.act.monitor = s.act.monitor ∧ t.sls = s.sls ∧ t.znc = s.znc) := by
  refine ⟨fun id hid => ?_, fun y hy => ?_, fun htask => h.task (htask ▸ hc)⟩
  · obtain ⟨hmon, hznc, -⟩ := h.host id (hid ▸ hc)
    exact ⟨hmon, hznc⟩
  · obtain ⟨hmon, hsls, hothers, hzone⟩ := h.wave y (hy ▸ hc)
    refine ⟨hmon, hsls, fun w hw => ⟨hothers, ?_⟩⟩
    rw [hzone (hasZone_of_wave hw), hw]
    simp [Wave.setMember]

/-- The host record that an admission leaves (R103). -/
theorem Admitted.hostRecord {id : Nat} {rec : SlewRecord} (hc : (s.dish d).claim.map (·.ref) = some (.host id))
    (hrec : s.record id = some rec) : (∀ i, t.record i = if i = id then some { rec with members := rec.members.map (fun m =>
        if m.dish = d then { m with state := .admitted, running := false, demand := some (s.demand d cls), estimate := some estimate } else m) }
      else s.record i) ∧ t.sls.lastId = s.sls.lastId ∧ t.sls.groups = s.sls.groups := by
  obtain ⟨-, -, hrecord, hrest⟩ := h.host id hc
  refine ⟨fun i => ?_, hrest⟩
  rw [hrecord i]
  by_cases hi : i = id
  · rw [if_pos hi, if_pos hi, hi, hrec]
    simp [SlewRecord.modMember, HostMember.asAdmitted]
  · rw [if_neg hi, if_neg hi]

end

theorem moveEstimate_of_last {s : State} {d : Nat} {st : Status} (hlast : (s.dish d).last = some st) (az el : Int) (v w : Nat) :
    s.moveEstimate d (az, el, v, w) = max (axisEstimate (az - st.az).natAbs v (s.dish d).profile.aAz)
      (axisEstimate (el - st.el).natAbs w (s.dish d).profile.aEl) := by
  simp [State.moveEstimate, slewEstimate, Dish.position, hlast]

/-- The order and the slew timeout of an admission with a known target (R124, R125). -/
theorem Admitted.moves {s t : State} {d : Nat} {cls : ClaimClass} {x : Int × Int × Nat × Nat} {st : Status}
    (h : Admitted s t d cls (some (slewTimeoutOf (s.moveEstimate d x))) (s.moveEstimate d x) (s.moveTo d x))
    (hlast : (s.dish d).last = some st) {az el : Int} {v w : Nat} (hx : x = (az, el, v, w)) :
    (t.slots d).movePending =
        some { cmd := .move az el v w (s.dish d).profile.aAz (s.dish d).profile.aEl, attempts := 0, age := s.moment + 1 }
      ∧ (t.dish d).slewTimeout = some (slewTimeoutOf (max (axisEstimate (az - st.az).natAbs v (s.dish d).profile.aAz)
          (axisEstimate (el - st.el).natAbs w (s.dish d).profile.aEl))) := by
  subst hx
  rw [← moveEstimate_of_last hlast]
  refine ⟨h.move, ?_⟩
  rw [h.dish]
  rfl

/-! ## Targets (R81, R125) -/

section
variable {s : State} {d : Nat} {st : Status} (hlast : (s.dish d).last = some st)
include hlast

theorem targetOf_stow : s.targetOf d .stow = ((s.zone (s.dish d).zone).stowAz.getD st.az, (s.zone (s.dish d).zone).stowEl,
    (s.dish d).profile.vmaxAz, (s.dish d).profile.vmaxEl) := by
  simp [State.targetOf, Dish.position, hlast]

theorem targetOf_shed : s.targetOf d .shed =
    (st.az, (s.dish d).profile.shedEl, (s.dish d).profile.vmaxAz, (s.dish d).profile.vmaxEl) := by
  simp [State.targetOf, Dish.position, hlast]

end

theorem targetOf_observe {s : State} {d id : Nat} {rec : SlewRecord} (hc : (s.dish d).claim.map (·.ref) = some (.host id))
    (hrec : s.record id = some rec) : s.targetOf d .observe = (rec.targetAz, rec.targetEl,
      resolveRate rec.rateAz (s.dish d).profile.vmaxAz, resolveRate rec.rateEl (s.dish d).profile.vmaxEl) := by
  obtain ⟨⟨ref, standing, running, waiting⟩, hclaim, rfl⟩ := Option.map_eq_some_iff.mp hc
  simp [State.targetOf, hclaim, hrec]

theorem passAdmitsAClaimThatFits : PassAdmitsAClaimThatFits := by
  intro s d cls hs h hacc hdue ha hheat x p r z hstow hother
  have hfits : s.claimFits d cls := ⟨hstow, hother⟩
  by_cases hhome : cls = .home
  · refine passEnds_of_home hs h hacc hdue ha hhome hheat hfits fun t ht => ⟨?_, ?_, ht.assignment, ht.others, ?_, ht.slew,
      bit_eq_classBit cls ▸ ht.counts, ht.owner, fun _ => ht.move, fun st hlast => ?_⟩
    · rw [ht.dish]
    · rw [ht.dish]; rfl
    · rw [ht.dish]; rfl
    · simp [hhome]
  · refine passEnds_of_move hs h hacc hdue ha hhome hheat hfits fun t ht => ⟨?_, ?_, ht.assignment, ht.others, ?_, ht.slew,
      bit_eq_classBit cls ▸ ht.counts, ht.owner, fun hc => absurd hc hhome, fun st hlast => ⟨fun hc => ?_, fun hc => ?_, ?_⟩⟩
    · rw [ht.dish]
    · rw [ht.dish]; rfl
    · rw [ht.dish]; rfl
    · exact ht.moves hlast (hc ▸ targetOf_stow hlast)
    · exact ht.moves hlast (hc ▸ targetOf_shed hlast)
    · intro id rec hc href hrec v w
      have htarget : s.targetOf d cls = (rec.targetAz, rec.targetEl, v, w) := hc ▸ targetOf_observe href hrec
      have hrecord := ht.hostRecord href hrec
      rw [htarget, moveEstimate_of_last hlast] at hrecord
      exact ⟨ht.moves hlast htarget, hrecord⟩

end Sys2Proof.Machine

end

section
-- One declaration at a time: the check bounds memory, and every thread in flight takes its stack from it.
set_option Elab.async false

/-! The pass over one claim that does not fit, and the settling theorem (O31). -/

namespace Sys2Proof.Machine
open Sys2Proof.Claims

/-! ## The budget-waiting mark (R135) -/

section
variable (s : State) (d : Nat) (cls : ClaimClass)

theorem markWait_changes : Changes {.dish .claim d, .counters (some .budgetWait)} s (s.markWait d cls) :=
  Changes.ite (fun _ => Changes.refl _ s) fun _ =>
    ((modDish_claim_changes s d _ fun _ => rfl).mono).trans ((count_changes _ _ _).mono)

/-- A claim is marked, and counted the first time. -/
theorem markWait_dish (hd : s.isDish d = true) (hc : (s.dish d).claim.isSome = true) :
    (s.markWait d cls).dish d = { s.dish d with claim := (s.dish d).claim.map (fun c => { c with budgetWaiting := true }) }
      ∧ CountsOf s (s.markWait d cls) .budgetWait (if (s.dish d).claim.map (·.budgetWaiting) = some true then [] else [some cls.bit]) := by
  obtain ⟨⟨ref, standing, running, waiting⟩, hclaim⟩ := Option.isSome_iff_exists.mp hc
  cases waiting with
  | true =>
    have hkeep : s.markWait d cls = s := if_pos (by rw [hclaim])
    rw [hkeep, hclaim]
    exact ⟨Dish.eq_of_same fun p => by cases p <;> simp [DishPart.Same, hclaim], (Changes.refl ∅ s).countsOf .budgetWait⟩
  | false =>
    let u := s.modDish d (fun r => { r with claim := r.claim.map (fun c => { c with budgetWaiting := true }) })
    have hmark : s.markWait d cls = u.count .budgetWait (some cls.bit) := if_neg (by rw [hclaim]; simp)
    have hu : Changes {.dish .claim d} s u := modDish_claim_changes s d _ fun _ => rfl
    rw [hmark]
    refine ⟨((count_changes u _ _).dish (d := d)).trans (modDish_dish_same s d _ hd), ?_⟩
    rw [if_neg (by simp [hclaim])]
    exact countsOf_trans (hu.countsOf .budgetWait) (count_countsOf u .budgetWait (some cls.bit)) (count_changes u _ _).notices

end

theorem claim_of_claimClass {r : Dish} {cls : ClaimClass} (h : r.claimClass = some cls) : ∃ c, r.claim = some c := by
  cases hc : r.claim with
  | none =>
    rw [Dish.claimClass, hc] at h
    cases h
  | some c => exact ⟨c, rfl⟩

/-- The waiting counts where one dish alone is budget-waiting. -/
theorem waitCount_of_single {s : State} {d : Nat} (hd : s.isDish d = true)
    (hothers : ∀ e, e ≠ d → (s.dish e).claim.map (·.budgetWaiting) ≠ some true)
    (hmark : (s.dish d).claim.map (·.budgetWaiting) = some true) (f : Feeder) (cls : ClaimClass) :
    s.waitCount f cls = if (s.dish d).feeder = f ∧ (s.dish d).claimClass = some cls then 1 else 0 := by
  let p (r : Dish) : Bool := r.feeder == f && r.claimClass == some cls && (match r.claim with | some c => c.budgetWaiting | none => false)
  have hp (r : Dish) : p r = true ↔ (r.feeder = f ∧ r.claimClass = some cls) ∧ r.claim.map (·.budgetWaiting) = some true := by
    cases hr : r.claim <;> simp [p, hr]
  have hone := sum_dishes_eq_single hd (fun e => if p (s.dish e) then 1 else 0) fun e he => if_neg fun h => hothers e he ((hp _).mp h).2
  calc s.waitCount f cls = ((s.dsv.dishes.filter p).map fun _ => 1).sum := by
        rw [List.map_const', List.sum_replicate, smul_eq_mul, mul_one]
        exact List.countP_eq_length_filter
    _ = ∑ i ∈ Finset.range s.dsv.dishes.length, if p (s.dish (i + 1)) then 1 else 0 := sum_filter_map_eq_range p _ _ Dish.initial
    _ = if (s.dish d).feeder = f ∧ (s.dish d).claimClass = some cls then 1 else 0 := by
        rw [hone]
        simp [hp, hmark]

/-- The waiting counts of the dish's feeder after its claim, of class `cls`, is marked. -/
theorem markWait_waitCount {s : State} {d : Nat} {cls : ClaimClass} (hd : s.isDish d = true) (hcls : (s.dish d).claimClass = some cls)
    (hothers : ∀ e, e ≠ d → (s.dish e).claim.map (·.budgetWaiting) ≠ some true) (k : ClaimClass) :
    (s.markWait d cls).waitCount (s.dish d).feeder k = if cls = k then 1 else 0 := by
  obtain ⟨c, hc⟩ := claim_of_claimClass hcls
  have hl := markWait_changes s d cls
  have hdish := (markWait_dish s d cls hd (by simp [hc])).1
  have hclass : ((s.markWait d cls).dish d).claimClass = some cls := by
    rw [hdish, ← hcls]
    simp only [Dish.claimClass, hc, Option.map_some]
  have hkeep (e : Nat) (he : e ≠ d) : (s.markWait d cls).dish e = s.dish e := hl.dish (by simp [he])
  rw [waitCount_of_single ((hl.isDish d).trans hd) (fun e he => hkeep e he ▸ hothers e he) (by simp [hdish, hc]), hclass, hdish]
  simp

/-! ## The pass -/

/-- The test of R131 failed for a claim of dish `d`. -/
def State.claimOver (s : State) (d : Nat) (cls : ClaimClass) : Prop :=
  let r := s.feeder (s.dish d).feeder
  (cls = .stow → r.ceiling < r.slewCommitted + r.heatCommitted + s.demand d cls)
    ∧ (cls ≠ .stow → r.ceiling < r.slewCommitted + r.heatCommitted + s.demand d cls + r.reserve)

/-- The shed demand that the claim leaves (R136). -/
def State.shedDemandOf (s : State) (d : Nat) (cls : ClaimClass) : Option Nat :=
  let r := s.feeder (s.dish d).feeder
  if cls = .stow then some (r.slewCommitted + r.heatCommitted + s.demand d cls - r.ceiling) else none

theorem runPass_of_over {s : State} {d : Nat} {cls : ClaimClass} (hunits : s.passUnits = [.claim d cls]) (hskip : s.skips d cls = false)
    (hover : s.claimOver d cls) :
    ∃ m : Marks, s.runPass = (s.markWait d cls).endPass m ∧ (m.get (s.dish d).feeder).demand = s.shedDemandOf d cls := by
  obtain ⟨hstow, hother⟩ := hover
  have hclear (f : Feeder) : Marks.clear.get f = {} := by cases f <;> rfl
  rw [runPass_of_claim hunits hskip]
  unfold State.shedDemandOf
  by_cases hc : cls = .stow
  · subst hc
    have hcarries : (s.feeder (s.dish d).feeder).carriesStow (s.demand d .stow) = false := decide_eq_false (Nat.not_le.mpr (hstow rfl))
    let r := s.feeder (s.dish d).feeder
    exact ⟨Marks.clear.set (s.dish d).feeder
        { held := true, stowHeld := true, demand := some (r.committed + s.demand d .stow - r.ceiling) },
      by simp [State.passStow, hclear, hcarries, r], by simp [get_set, FeederRec.committed, r]⟩
  · have hcarries : (s.feeder (s.dish d).feeder).carries (s.demand d cls) = false := decide_eq_false (Nat.not_le.mpr (hother hc))
    exact ⟨Marks.clear.set (s.dish d).feeder { held := true }, by simp [State.passOther, hclear, hcarries, hc], by simp [get_set, hc]⟩

/-- What the pass may change: the mark, its count, and what allocation touches. -/
def holding (d : Nat) : Set Part := {.dish .claim d, .counters (some .budgetWait)} ∪ heating

@[simp] theorem mem_holding (p : Part) (d : Nat) :
    p ∈ holding d ↔ (p = .dish .claim d ∨ p = .counters (some .budgetWait)) ∨ p ∈ heating := Iff.rfl

theorem within_holding {d : Nat} {q : Part} (hq : q ∈ holding d) : q.within [.dsv, .pbc, .znc, .sls, .fbu, .mlc, .act] := by
  rcases hq with (rfl | rfl) | hq
  · simp [Part.within, Part.block]
  · simp [Part.within, Part.block]
  · exact within_heating hq

/-- The state after the mark and the end of the pass, read against the state before. -/
theorem held_of_changes {s a v : State} {d : Nat} {cls : ClaimClass} (hd : s.isDish d = true) (hc : (s.dish d).claim.isSome = true)
    (ha : s.begin.markWait d cls = a) (hend : Changes heating a.passTaken v) (o : Oli) (ho : o.notices = v.oli.notices) :
    let t := { v with oli := o }
    t.dish d = { s.dish d with claim := (s.dish d).claim.map (fun c => { c with budgetWaiting := true }) } ∧ SameDishesBut [d] s t
      ∧ (t.slots d).movePending = (s.slots d).movePending
      ∧ CountsOf s t .budgetWait (if (s.dish d).claim.map (·.budgetWaiting) = some true then [] else [some (classBit cls)]) := by
  obtain ⟨hdish, hcounts⟩ := markWait_dish s.begin d cls hd hc
  have hmark := markWait_changes s.begin d cls
  rw [ha] at hdish hcounts hmark
  have hall : Changes (holding d) s.begin.passTaken v := (hmark.passTaken.mono Set.subset_union_left).trans (hend.mono Set.subset_union_right)
  have hkeep : CountsOf a.passTaken v .budgetWait [] := hend.countsOf .budgetWait
  have hwhole := countsOf_trans (countsOf_congr (t' := a.passTaken) hcounts rfl rfl rfl) hkeep hend.notices
  rw [List.append_nil, bit_eq_classBit] at hwhole
  refine ⟨(hend.dish (d := d)).trans hdish, ⟨fun e he => hall.dish fun p hp => ?_, hall.supervision⟩, (hall.slotMove (d := d)).1,
    countsOf_congr hwhole rfl rfl ho⟩
  have hne : e ≠ d := by simpa using he
  simp [hne] at hp

theorem passHoldsAClaimThatDoesNotFit : PassHoldsAClaimThatDoesNotFit := by
  intro s d cls hs h hacc hdue ha hothers x r hstow hother
  have hskip := skips_of_alone ha
  obtain ⟨h1, h48, hunits, hcls, -⟩ := ha
  have hd : s.isDish d = true := (hs.isDish d).mpr ⟨h1, h48⟩
  have hclaim : x.claim.isSome = true := Option.isSome_iff_exists.mpr (claim_of_claimClass hcls)
  obtain ⟨m, hrun, hshed⟩ := runPass_of_over (s := s.begin) hunits hskip ⟨hstow, hother⟩
  obtain ⟨a, haeq⟩ : ∃ a, s.begin.markWait d cls = a := ⟨_, rfl⟩
  have hmark : Changes {.dish .claim d, .counters (some .budgetWait)} s.begin a := haeq ▸ markWait_changes s.begin d cls
  rw [haeq] at hrun
  have hend := endPass_changes m a
  obtain ⟨htaken, hbudget⟩ := endPass_budget m (hmark.feederSums (feederSums_of_accounts hacc))
  have hcount (k : ClaimClass) : (s.begin.markWait d cls).waitCount x.feeder k = if cls = k then 1 else 0 :=
    markWait_waitCount (s := s.begin) hd hcls hothers k
  generalize a.endPass m = v at hrun hend htaken hbudget
  refine passEnds_of_changes (holding d) h hdue hrun
    ((hmark.passTaken.mono Set.subset_union_left).trans (hend.mono Set.subset_union_right)) (fun q hq => within_holding hq) htaken
    fun o ho => ?_
  obtain ⟨hdish, hsame, hmove, hcounts⟩ := held_of_changes hd hclaim haeq hend o ho
  obtain ⟨hslew, hwaits, hdemand⟩ := hbudget x.feeder
  refine ⟨hdish, hsame, hmove, hwaits.trans ?_, hdemand.trans hshed, hslew.trans (congrArg FeederRec.slewCommitted ?_), hcounts⟩
  · rw [← haeq]
    simp only [State.waitCounts]
    rw [hcount, hcount, hcount, hcount]
  · rw [State.feeder, hmark.feeders]
    rfl

end Sys2Proof.Machine

open Sys2Proof.Machine in
/-- Settles O31: the pass over one claim is one admission or one mark, then its end; an admission adds the reservation to one summand of
slew committed, and no allocation after it touches a claim, an owner or a move order. -/
theorem passAdmitsWhatFitsAndHoldsWhatDoesNot : Obligations.PassAdmitsWhatFitsAndHoldsWhatDoesNot :=
  ⟨passAdmitsAClaimThatFits, passHoldsAClaimThatDoesNotFit⟩

end
